-- ==== Sys2Proof/Word.lean ====
section
/-! DEFINITION. The widths of the bytes and numbers that commands carry on a port (R198). -/

namespace Sys2Proof

/-- One byte of a frame. -/
abbrev Byte := BitVec 8
/-- A number of two bytes (a handle, a quantity, a zone set). -/
abbrev Half := BitVec 16
/-- A home network code: three bytes, two digits to a byte (R199). -/
abbrev CodeWord := BitVec 24
/-- A number of four bytes (an event enable set). -/
abbrev Quad := BitVec 32
/-- A number of six bytes (an account value, a threshold, a magnitude). -/
abbrev Value48 := BitVec 48
/-- A subscriber identity: eight bytes, two digits to a byte (R199). -/
abbrev IdentityWord := BitVec 64

end Sys2Proof
end

