-- ==== Sys2Proof/Config.lean ====
section
/-! DEFINITION. What the part fixes and no command changes: sizes, limits, and the durations that are no parameter. The spec
leaves no value of the machine open, so there is no free value here (notes/assumptions/18.md). Durations are in periods of
the 32.768 kHz time base, the unit every timer of the model counts in (notes/assumptions/4.md). -/

namespace Sys2Proof.Config

/-- Session records, handles 0 to 1,023 (R2). -/
def sessionCount : Nat := 1024
/-- Account records (R36). -/
def accountCount : Nat := 256
/-- Agreement records (R28). -/
def agreementCount : Nat := 64
/-- Zone records (R47). -/
def zoneCount : Nat := 16
/-- A CLOSE or INTERIM record is appended only while the queue holds fewer records than this (R166). -/
def ordinaryLimit : Nat := 511
/-- The greatest number of segments in one list (R157). -/
def segmentLimit : Nat := 8
/-- The greatest account value, shortfall, segment charge and unitemized charge. -/
def maxValue : Nat := 2 ^ 48 - 1
/-- The greatest report charge (R150). -/
def maxCharge : Nat := 4294967295
/-- The limit at which the quantities of a segment saturate (R158). -/
def maxQuantity : Nat := 2 ^ 32 - 1
/-- The greatest magnitude of an *Account adjust* (R40). -/
def maxDelta : Nat := 2 ^ 47
/-- The greatest voice quantity of a report, in seconds (R18, R146). -/
def maxVoice : Nat := 3600
/-- The greatest grace period, in seconds (R48). -/
def maxGrace : Nat := 600

/-- Periods of the time base in one second. -/
def periodsPerSecond : Nat := 32768
/-- 30 ms: the least length of a low that is no glitch (R71), rounded up to whole periods. -/
def pulsePeriods : Nat := 984
/-- The first whole number of periods longer than 400 ms, the greatest length of a pulse (R73). -/
def longLowPeriods : Nat := 13108
/-- 5 s: a stuck line (R75). -/
def stuckPeriods : Nat := 163840
/-- 800 ms: the gap timer and the recovery timer (R73, R76), rounded up to whole periods. -/
def restPeriods : Nat := 26215
/-- 1,000 ms: the attention timer (R195). -/
def attentionPeriods : Nat := 32768
/-- The whole periods in 5 ms, the longest initialization (R178). -/
def initializationPeriods : Nat := 163

end Sys2Proof.Config
end

