-- ==== Sys2Proof/Machine/Table.lean ====
section
/-! DEFINITION. A table of records addressed by number, held as the list of the records that differ from the table's cold
record, numbers strictly rising. Equal tables are equal data. -/

namespace Sys2Proof.Machine

structure Table (α : Type) where
  entries : List (Nat × α)
  deriving DecidableEq, Repr

/-- The record of number `k` in a list of entries, if it is listed. -/
def lookupKey {α : Type} (k : Nat) : List (Nat × α) → Option α
  | [] => none
  | (j, v) :: rest => if j = k then some v else lookupKey k rest

/-- Puts record `k` in its place in a rising list of entries, over the record listed there if there is one. -/
def insertKey {α : Type} (k : Nat) (v : α) : List (Nat × α) → List (Nat × α)
  | [] => [(k, v)]
  | (j, w) :: rest =>
    if k < j then (k, v) :: (j, w) :: rest
    else if k = j then (k, v) :: rest
    else (j, w) :: insertKey k v rest

/-- Takes record `k` out of a list of entries. -/
def eraseKey {α : Type} (k : Nat) (entries : List (Nat × α)) : List (Nat × α) :=
  entries.filter fun e => e.1 != k

/-- The numbers of a list of entries rise strictly, and all lie above `low`. -/
def risingFrom {α : Type} (low : Nat) : List (Nat × α) → Bool
  | [] => true
  | (j, _) :: rest => decide (low ≤ j) && risingFrom (j + 1) rest

/-- The empty table: every record is cold. -/
def Table.empty {α : Type} : Table α := ⟨[]⟩

/-- Record `k`, the cold record where nothing is listed. -/
def Table.get {α : Type} (t : Table α) (cold : α) (k : Nat) : α :=
  (lookupKey k t.entries).getD cold

/-- Writes record `k`. Writing the cold record takes the entry out. -/
def Table.set {α : Type} [DecidableEq α] (t : Table α) (cold : α) (k : Nat) (v : α) : Table α :=
  if v = cold then ⟨eraseKey k t.entries⟩ else ⟨insertKey k v (eraseKey k t.entries)⟩

/-- Applies `f` to every listed record; one that becomes cold is taken out. -/
def Table.update {α : Type} [DecidableEq α] (t : Table α) (cold : α) (f : α → α) : Table α :=
  ⟨(t.entries.map fun e => (e.1, f e.2)).filter fun e => decide (e.2 ≠ cold)⟩

/-- The numbers of the listed records that satisfy `f`, rising. -/
def Table.keys {α : Type} (t : Table α) (f : α → Bool) : List Nat :=
  (t.entries.filter fun e => f e.2).map fun e => e.1

/-- How many listed records satisfy `f`. -/
def Table.count {α : Type} (t : Table α) (f : α → Bool) : Nat :=
  (t.keys f).length

/-- The canonical form: numbers strictly rising, below `size`, and no cold record listed. -/
def Table.wf {α : Type} [DecidableEq α] (t : Table α) (cold : α) (size : Nat) : Bool :=
  risingFrom 0 t.entries && t.entries.all fun e => decide (e.1 < size) && decide (e.2 ≠ cold)

end Sys2Proof.Machine
end

