-- ==== Sys2Proof/Syntax.lean ====
section
/-! DEFINITION. The commands and events of the part, one constructor for each row of spec/opcode_table.json. A port command
carries the port it came on and its parameters, each at the width the command summary gives it (11.3), unchecked: the
checks are the command's own. An event of a timer or a line carries only what tells it apart (a link slot, a port). -/

namespace Sys2Proof

/-- The three command ports. The role of a port is fixed by its position (R185). -/
inductive Port where
  | cell
  | link
  | purser
  deriving DecidableEq, Repr

/-- A slot of the link table, 0 to 5. -/
abbrev Slot := Fin 6

inductive Instr where
  -- the cell role
  | attach (p : Port) (identity : IdentityWord) (accountPresent accountIndex : Byte)
  | release (p : Port) (handle data voice : Half) (messages : Byte)
  | keepalive (p : Port) (handle : Half)
  | usage (p : Port) (handle data voice : Half) (messages : Byte)
  | zoneReport (p : Port) (zone : Byte)
  -- the link role
  | linkReport (p : Port) (slot present quality : Byte) (loss latency : Half)
  | swapConfirm (p : Port) (slot : Byte)
  -- the purser role
  | loadZone (p : Port) (zone loaded policy : Byte) (grace : Half) (tariffClass : Byte)
  | loadLink (p : Port) (slot loaded kind costClass rank : Byte) (zones : Half)
  | loadPriceRow (p : Port) (plan zoneClass : Byte) (dataPrice dataIncrement voicePrice : Half) (voiceIncrement : Byte) (messagePrice : Half)
  | setSurcharges (p : Port) (s0 s1 s2 s3 : Half)
  | setDiscounts (p : Port) (q0 q1 q2 q3 q4 q5 q6 q7 : Byte)
  | setOffPeakWindow (p : Port) (startHour endHour : Byte)
  | loadAgreement (p : Port) (index state codeLength : Byte) (code : CodeWord) (zones : Half) (plan account : Byte)
  | accountSet (p : Port) (index kind : Byte) (value threshold : Value48) (plan : Byte)
  | accountAdjust (p : Port) (index sign : Byte) (magnitude : Value48)
  | setSessionFlags (p : Port) (handle : Half) (mask : Byte)
  | clearSessionFlags (p : Port) (handle : Half) (mask : Byte)
  | closeSession (p : Port) (handle : Half)
  | readRecord (p : Port)
  | dropRecord (p : Port)
  | readQueueMark (p : Port)
  | setClock (p : Port) (seconds minutes hours date month year dayOfWeek : Byte)
  | setTrim (p : Port) (sign magnitude : Byte)
  | setParameter (p : Port) (number : Byte) (value : Half)
  -- any role
  | readStatus (p : Port)
  | readSessionByHandle (p : Port) (handle : Half)
  | readSessionByIdentity (p : Port) (identity : IdentityWord)
  | readAccount (p : Port) (index : Byte)
  | readAgreement (p : Port) (index : Byte)
  | readLink (p : Port) (slot : Byte)
  | readZone (p : Port) (zone : Byte)
  | readClock (p : Port)
  | readEvent (p : Port)
  | setEventEnables (p : Port) (enables : Quad)
  | portReset (p : Port)
  -- frames that carry no command of the summary
  | unknownCommand (p : Port) (code : Byte)
  | truncatedFrame (p : Port)
  -- timers
  | lapseSweepVisit
  | fixTimerExpires
  | candidateQualifies
  | restoreTimerExpires
  | rampTimerExpires
  | graceTimerExpires
  | wholeSecond
  -- the bridge order line
  | bridgeLineFall
  | bridgeLineRise
  | lowReaches30Ms
  | longLow
  | stuck
  | gapTimerExpires
  | recoveryTimerExpires
  -- link, selector, rating and attention timers
  | staleTimerExpires (slot : Slot)
  | linkQualificationExpires (slot : Slot)
  | faultTimerExpires (slot : Slot)
  | holdoffTimerExpires (slot : Slot)
  | swapTimerExpires
  | dwellTimerExpires
  | settleWindowExpires
  | attentionTimerExpires (p : Port)
  -- power and reset
  | mainPowerRises
  | mainPowerFalls
  | resetLineFalls
  | resetLineRises
  | powerFailWarningRises
  | powerFailWarningFalls
  | backupDomainLost
  | initializationEnds
  deriving DecidableEq, Repr

end Sys2Proof
end

