-- ==== Sys2Proof/Machine/State.lean ====
section
/-! DEFINITION. The state of the part: every record, timer, mark, line and register the reference names, as plain data, and
the queue of commands that wait. Each structure cites the rules that give its fields; State.reset is the part right after a
cold start, at the end of initialization. -/

namespace Sys2Proof.Machine

/-- A stopped timer, or a running timer with the periods of the time base that remain until it expires. -/
abbrev Timer := Option Nat

/-! ### The ship's clock (7) -/

/-- The calendar (R125). -/
structure Calendar where
  seconds : Nat
  minutes : Nat
  hours : Nat
  date : Nat
  month : Nat
  year : Nat
  dayOfWeek : Nat
  deriving DecidableEq, Repr

inductive Period where
  | peak
  | offpeak
  deriving DecidableEq, Repr

/-- The backup-domain state of the ship's clock. `secondLength` is the length of the current second, which the trim in force
when that second began has set (R126); the second is complete when the sub-second count reaches it, and a count past it holds
periods of the seconds that follow. -/
structure Clock where
  calendar : Calendar
  subSecond : Nat
  secondLength : Nat
  notSet : Bool
  trim : Int
  windowStart : Nat
  windowEnd : Nat
  deriving DecidableEq, Repr

/-! ### Rating (8) -/

/-- A rating context (R135). -/
structure Context where
  zoneClass : Nat
  costClass : Nat
  period : Period
  deriving DecidableEq, Repr

/-- The kind of boundary that started a settle window (R137). -/
inductive WindowCause where
  | zoneClass
  | costClass
  | period
  deriving DecidableEq, Repr

/-- The contexts and the settle window (main domain). The cause is held while the timer runs (R156). -/
structure Rating where
  inForce : Context
  pendingContext : Option Context
  settleTimer : Timer
  cause : Option WindowCause
  deriving DecidableEq, Repr

/-- A price row (R142). -/
structure PriceRow where
  dataPrice : Nat
  dataIncrement : Nat
  voicePrice : Nat
  voiceIncrement : Nat
  messagePrice : Nat
  deriving DecidableEq, Repr

/-- The link surcharges S(0) to S(3), in percent (R144). -/
structure Surcharges where
  s0 : Nat
  s1 : Nat
  s2 : Nat
  s3 : Nat
  deriving DecidableEq, Repr

/-- The off-peak discounts Q(0) to Q(7), in percent (R145). -/
structure Discounts where
  q0 : Nat
  q1 : Nat
  q2 : Nat
  q3 : Nat
  q4 : Nat
  q5 : Nat
  q6 : Nat
  q7 : Nat
  deriving DecidableEq, Repr

/-- The tariff figures (backup domain). Row (p, z) has number 8p + z. -/
structure Tariff where
  rows : Table PriceRow
  surcharges : Surcharges
  discounts : Discounts
  deriving DecidableEq, Repr

/-! ### Segments and sessions (1, 9) -/

/-- A segment of a session's itemized usage (9.1). -/
structure Segment where
  key : Context
  mixed : Bool
  data : Nat
  voice : Nat
  messages : Nat
  charge : Nat
  deriving DecidableEq, Repr

/-- The states of a session (R1). -/
inductive SessionState where
  | free
  | active
  | suspended
  | draining
  | closing
  deriving DecidableEq, Repr

inductive Basis where
  | roaming
  | onboard
  deriving DecidableEq, Repr

/-- A set of suspension reasons (1.2). -/
structure Reasons where
  credit : Bool
  zone : Bool
  agreement : Bool
  hold : Bool
  deriving DecidableEq, Repr

/-- A set of session flags (1.9). -/
structure Flags where
  dataBar : Bool
  voiceBar : Bool
  msgBar : Bool
  hold : Bool
  deriving DecidableEq, Repr

inductive CloseReason where
  | released
  | lapsed
  | coverageEnd
  | purser
  deriving DecidableEq, Repr

/-- A session record (1.1). Its handle is its number in the table. The identity is kept in the packing of R199. -/
structure Session where
  state : SessionState
  identity : IdentityWord
  basis : Option Basis
  agreement : Option Nat
  account : Nat
  plan : Nat
  reasons : Reasons
  flags : Flags
  lapseCount : Nat
  openTime : Calendar
  dataResidue : Nat
  voiceResidue : Nat
  shortfall : Nat
  part : Nat
  closeReason : Option CloseReason
  segments : List Segment
  deriving DecidableEq, Repr

/-- The lapse sweep (1.5): the handle it visits next, the lapse period of the pass in progress in seconds, and the time to the
next visit. -/
structure Sweep where
  position : Nat
  lapsePeriod : Nat
  timer : Timer
  deriving DecidableEq, Repr

/-! ### Charge records (9.2) -/

/-- The fields of a CLOSE or INTERIM record that say whose it is. -/
structure Who where
  handle : Nat
  identity : IdentityWord
  account : Nat
  agreement : Option Nat
  plan : Nat
  openTime : Calendar
  deriving DecidableEq, Repr

/-- The kinds of charge record, each with its own fields (the table of 9.2). -/
inductive RecordBody where
  | close (who : Who) (reason : CloseReason) (part shortfall droppedData droppedVoice : Nat) (segments : List Segment)
  | interim (who : Who) (part : Nat) (segments : List Segment)
  | powerCut (cuts sessionsLost unitemized : Nat)
  deriving DecidableEq, Repr

/-- A charge record with its record time and its clock-not-set flag (R162). -/
structure ChargeRecord where
  time : Calendar
  clockNotSet : Bool
  body : RecordBody
  deriving DecidableEq, Repr

/-- The charge record queue, oldest record first, and its high-water mark (backup domain; R166, R171). -/
structure Queue where
  records : List ChargeRecord
  mark : Nat
  deriving DecidableEq, Repr

/-! ### Agreements and accounts (2) -/

inductive AgreementState where
  | empty
  | opened
  | suspended
  deriving DecidableEq, Repr

/-- An agreement record (2.1). The code is kept in the packing of R199. -/
structure Agreement where
  state : AgreementState
  codeLength : Nat
  code : CodeWord
  zones : Half
  plan : Nat
  account : Nat
  count : Nat
  deriving DecidableEq, Repr

inductive AccountKind where
  | closed
  | prepaid
  | settlement
  deriving DecidableEq, Repr

/-- An account record (2.5). -/
structure Account where
  kind : AccountKind
  value : Nat
  threshold : Nat
  plan : Nat
  count : Nat
  deriving DecidableEq, Repr

/-! ### Zones and coverage (3) -/

inductive Policy where
  | radiate
  | noRadiate
  deriving DecidableEq, Repr

/-- A zone record (3.1). An unloaded record holds zeros. -/
structure ZoneRecord where
  loaded : Bool
  policy : Policy
  grace : Nat
  tariffClass : Nat
  deriving DecidableEq, Repr

inductive ZoneKind where
  | permissive
  | restrictive
  deriving DecidableEq, Repr

/-- The zone candidate with the kind it was given when set and its qualification timer (R54). -/
structure Candidate where
  zone : Nat
  kind : ZoneKind
  timer : Nat
  deriving DecidableEq, Repr

inductive CoverageState where
  | silent
  | qualifying
  | ramping
  | radiating
  | withdrawing
  deriving DecidableEq, Repr

/-- The state of the coverage controller (3). `zone` none is UNKNOWN. `permit` is the radiate permit output, true while high.
`graceInForce` is the grace of the withdrawal in progress in seconds, 0 outside WITHDRAWING (R50). -/
structure Coverage where
  zone : Option Nat
  lastZone : Option Nat
  candidate : Option Candidate
  fixTimer : Timer
  state : CoverageState
  restoreTimer : Timer
  rampTimer : Timer
  graceTimer : Timer
  graceInForce : Nat
  pacing : Nat
  permit : Bool
  deriving DecidableEq, Repr

/-! ### The bridge order line (4) -/

inductive DecoderState where
  | idle
  | train
  | recovering
  deriving DecidableEq, Repr

/-- How far the low in progress has been taken: not yet as one of 30 ms (R71), as 30 ms reached, as longer than 400 ms in a train
(R73), as 5 s reached (R75, R76). -/
inductive LowStage where
  | brief
  | counted
  | long
  | stuck
  deriving DecidableEq, Repr

/-- The standing orders (R77). -/
structure Standing where
  silence : Bool
  harbor : Bool
  linkHold : Bool
  deriving DecidableEq, Repr

/-- The bridge order decoder (4). `lowTimer` counts the periods since the last fall of the line. -/
structure Bridge where
  state : DecoderState
  pulseCount : Nat
  longLow : Bool
  lowTimer : Option Nat
  lowStage : LowStage
  gapTimer : Timer
  recoveryTimer : Timer
  stuckReported : Bool
  standing : Standing
  deriving DecidableEq, Repr

/-! ### Shore links and the link selector (5, 6) -/

/-- One thing for each of the six link slots. -/
structure Slots (α : Type) where
  s0 : α
  s1 : α
  s2 : α
  s3 : α
  s4 : α
  s5 : α
  deriving DecidableEq, Repr

inductive LinkKind where
  | satellite
  | shoreCellular
  | harbor
  deriving DecidableEq, Repr

/-- The configuration of a slot (backup domain, 5). -/
structure LinkConfig where
  loaded : Bool
  kind : LinkKind
  costClass : Nat
  rank : Nat
  zones : Half
  deriving DecidableEq, Repr

inductive LinkState where
  | down
  | idle
  | qualifying
  | standby
  | ramping
  | carrying
  | holdoff
  deriving DecidableEq, Repr

/-- The live state of a slot (main domain, 5). -/
structure Link where
  state : LinkState
  present : Bool
  quality : Nat
  loss : Nat
  latency : Nat
  raw : Nat
  smoothed : Nat
  fresh : Bool
  healthy : Bool
  stale : Bool
  eligible : Bool
  absent : Bool
  staleTimer : Timer
  qualTimer : Timer
  faultTimer : Timer
  holdoffTimer : Timer
  deriving DecidableEq, Repr

/-- The swap in flight (R104). -/
structure Swap where
  candidate : Slot
  oldCarrier : Option Slot
  timer : Nat
  deriving DecidableEq, Repr

/-- The link selector (6). The carrier is no field of it: it is the slot in CARRYING. -/
structure Selector where
  swap : Option Swap
  dwellTimer : Timer
  lateMark : Option Slot
  deriving DecidableEq, Repr

/-! ### Command ports and the event router (11) -/

/-- The event kinds E0 to E26 (R201). -/
inductive EventKind where
  | warmStart
  | coverageChanged
  | zoneChanged
  | zoneUnknown
  | bridgeOrder
  | bridgeBad
  | ratingBoundary
  | swapBegin
  | swapDone
  | swapAbandoned
  | linkFault
  | shoreDark
  | linkStale
  | sessionLapsed
  | sessionSuspended
  | sessionResumed
  | creditExhausted
  | lowBalance
  | settlementSaturated
  | recordReady
  | queueFull
  | recordOwed
  | chargeClamped
  | segmentMixed
  | tableFull
  | clockNotSet
  | periodChanged
  deriving DecidableEq, Repr

/-- A pending entry of a port (11.6). -/
structure Entry where
  kind : EventKind
  detail : Nat
  overrun : Bool
  renewed : Bool
  deriving DecidableEq, Repr

/-- The status codes (R189). -/
inductive Status where
  | ok
  | clamped
  | already
  | barredUsage
  | role
  | state
  | badParam
  | notFound
  | full
  | coverage
  | paced
  | zone
  | credit
  | noAgreement
  | closing
  | busy
  | notRamping
  | tooLate
  | empty
  | unknown
  deriving DecidableEq, Repr

/-- The frame state of a port: no frame judged, or a frame judged with the status and response it is answered with, which the
port clocks out after the filler byte (R186). -/
inductive Frame where
  | idle
  | answered (status : Status) (response : List Byte)
  deriving DecidableEq, Repr

/-- What one port owns (11). `enables` bit n is E<n>. The renewed entries stand in `pending` in their order (R193).
`lineLow` is the attention output, true while driven low. -/
structure PortState where
  enables : BitVec 27
  pending : List Entry
  lineLow : Bool
  attention : Timer
  truncated : Bool
  frame : Frame
  deriving DecidableEq, Repr

/-- The stored details of the six level kinds, common to all ports (R193). -/
structure LevelDetails where
  shoreDark : Nat
  recordReady : Nat
  queueFull : Nat
  recordOwed : Nat
  tableFull : Nat
  clockNotSet : Nat
  deriving DecidableEq, Repr

/-- The event router and the three ports. -/
structure Router where
  cell : PortState
  link : PortState
  purser : PortState
  details : LevelDetails
  deriving DecidableEq, Repr

/-- The parameters (R190), by number: durations in seconds, loss in per mille. -/
structure Params where
  permissiveQual : Nat
  restrictiveQual : Nat
  fixTimeout : Nat
  restoreDelay : Nat
  rampPeriod : Nat
  admissionPace : Nat
  lapsePeriod : Nat
  linkQual : Nat
  faultQual : Nat
  holdoff : Nat
  swapTimeout : Nat
  swapDwell : Nat
  healthUpper : Nat
  healthLower : Nat
  hardLossLimit : Nat
  staleTime : Nat
  settleWindow : Nat
  deriving DecidableEq, Repr

/-! ### Power (10) -/

inductive Supervisor where
  | off
  | reset
  | initializing
  | running
  | flushed
  deriving DecidableEq, Repr

inductive StartKind where
  | cold
  | warm
  deriving DecidableEq, Repr

/-- The power supervisor (10). `initTime` is the periods since INITIALIZING was entered. -/
structure Power where
  supervisor : Supervisor
  startKind : StartKind
  flushing : Bool
  initTime : Nat
  deriving DecidableEq, Repr

/-- The input lines the part reads at other moments than their edges. -/
structure Pins where
  resetHigh : Bool
  warning : Bool
  bridgeHigh : Bool
  deriving DecidableEq, Repr

/-! ### The whole -/

/-- The part. The fields `clock` to `backupValid` are the backup domain (R173); `pending` is the queue of commands that wait,
first in, first out; the rest is the main domain, the supervisor and the lines. -/
structure State where
  power : Power
  pins : Pins
  clock : Clock
  tariff : Tariff
  zones : Table ZoneRecord
  linkConfig : Slots LinkConfig
  agreements : Table Agreement
  accounts : Table Account
  queue : Queue
  params : Params
  backupValid : Bool
  period : Period
  rating : Rating
  sessions : Table Session
  owed : List Nat
  sweep : Sweep
  coverage : Coverage
  bridge : Bridge
  links : Slots Link
  selector : Selector
  router : Router
  pending : List Instr
  deriving DecidableEq, Repr

/-- The ways a command stops the machine. -/
inductive Fault where
  /-- Raised by the meaning of UNKNOWN_COMMAND for a term that spells no such frame, because its code is one of the command
  summary (R188). Safe: no frame of the part is spelt so, and no effect is claimed. -/
  | illFormedCommand
  deriving DecidableEq, Repr

/-- The ways a command is left without a meaning. -/
inductive Refusal where
  /-- Raised by `exec` for a command that has no meaning yet. Safe: nothing is claimed of it. -/
  | notModelled (mnemonic : String)
  deriving DecidableEq, Repr

/-! ### Cold and start values -/

/-- The calendar of a FREE record: zeros (R25). -/
def Calendar.zero : Calendar := ⟨0, 0, 0, 0, 0, 0, 0⟩
/-- The calendar after a cold start: 00-01-01 00:00:00, day of week 7 (R134). -/
def Calendar.cold : Calendar := ⟨0, 0, 0, 1, 1, 0, 7⟩
/-- The clock after a cold start (R134). -/
def Clock.cold : Clock := ⟨Calendar.cold, 0, Config.periodsPerSecond, true, 0, 0, 0⟩
/-- A row that has not been loaded: prices 0 and increments 1 (R142). -/
def PriceRow.cold : PriceRow := ⟨0, 1, 0, 1, 0⟩
/-- The tariff after a cold start (R156). -/
def Tariff.cold : Tariff := ⟨Table.empty, ⟨0, 0, 0, 0⟩, ⟨0, 0, 0, 0, 0, 0, 0, 0⟩⟩
def ZoneRecord.unloaded : ZoneRecord := ⟨false, .radiate, 0, 0⟩
def LinkConfig.unloaded : LinkConfig := ⟨false, .satellite, 0, 0, 0⟩
def Agreement.emptied : Agreement := ⟨.empty, 0, 0, 0, 0, 0, 0⟩
def Account.closed : Account := ⟨.closed, 0, 0, 0, 0⟩
def Reasons.none : Reasons := ⟨false, false, false, false⟩
def Flags.none : Flags := ⟨false, false, false, false⟩
/-- A FREE record: every other field zero, absent or empty (1.1). -/
def Session.free : Session :=
  ⟨.free, 0, .none, .none, 0, 0, Reasons.none, Flags.none, 0, Calendar.zero, 0, 0, 0, 0, .none, []⟩
/-- The same thing in all six slots. -/
def Slots.all {α : Type} (x : α) : Slots α := ⟨x, x, x, x, x, x⟩
/-- The defaults of the parameter table (R190). -/
def Params.default : Params := ⟨10, 2, 30, 30, 60, 8, 120, 5, 3, 20, 20, 60, 60, 40, 500, 10, 2⟩

/-- The coverage controller after a start (R69). -/
def Coverage.start : Coverage :=
  ⟨.none, .none, .none, .none, .silent, .none, .none, .none, 0, 0, false⟩
/-- The bridge order decoder after a start, before the end of initialization starts one of its timers (R81). -/
def Bridge.start : Bridge :=
  ⟨.recovering, 0, false, .none, .brief, .none, .none, false, ⟨false, false, false⟩⟩
/-- The live state of a slot after a start, but for the eligible flag, which is judged (R103). -/
def Link.start : Link :=
  ⟨.down, false, 0, 0, 0, 0, 0, false, false, false, false, false, .none, .none, .none, .none⟩
/-- The selector after a start (R123). -/
def Selector.start : Selector := ⟨.none, .none, .none⟩
/-- A port after a start: every kind enabled, nothing pending (R197). -/
def PortState.start : PortState := ⟨0x7ffffff, [], false, .none, false, .idle⟩
/-- The router after a start: stored details cleared (R197). -/
def Router.start : Router :=
  ⟨PortState.start, PortState.start, PortState.start, ⟨0, 0, 0, 0, 0, 0⟩⟩
/-- The rating engine after a start, with the period the clock has settled (R156). -/
def Rating.start (p : Period) : Rating := ⟨⟨0, 0, p⟩, .none, .none, .none⟩
/-- The lapse sweep after a start, its first pass not yet begun (R26). -/
def Sweep.start (lapsePeriod : Nat) : Sweep := ⟨0, lapsePeriod, .none⟩

/-- A port as the latches of a cold start leave it: E0 with detail COLD, E11 with detail 255 and E25 pending, the attention
line low with its timer started (R178). -/
def PortState.coldReset : PortState :=
  { PortState.start with
    pending := [⟨.warmStart, 0, false, false⟩, ⟨.shoreDark, 255, false, false⟩, ⟨.clockNotSet, 0, false, false⟩]
    lineLow := true
    attention := some Config.attentionPeriods }

/-- The part right after a cold start (R176, R177, R178): main power on, reset line high, no warning, the bridge order line
high, initialization just ended. -/
def State.reset : State where
  power := ⟨.running, .cold, false, 0⟩
  pins := ⟨true, false, true⟩
  clock := Clock.cold
  tariff := Tariff.cold
  zones := Table.empty
  linkConfig := Slots.all LinkConfig.unloaded
  agreements := Table.empty
  accounts := Table.empty
  queue := ⟨[], 0⟩
  params := Params.default
  backupValid := true
  period := .peak
  rating := Rating.start .peak
  sessions := Table.empty
  owed := []
  sweep := ⟨0, Params.default.lapsePeriod, some 0⟩
  coverage := Coverage.start
  bridge := { Bridge.start with recoveryTimer := some Config.restPeriods }
  links := Slots.all Link.start
  selector := Selector.start
  router := ⟨PortState.coldReset, PortState.coldReset, PortState.coldReset, ⟨255, 0, 0, 0, 0, 0⟩⟩
  pending := []

end Sys2Proof.Machine
end

