-- ==== Sys2Proof/Machine/Bytes.lean ====
section
/-! DEFINITION. The formats of the responses: numbers most significant byte first, sets as bit masks, enumerated fields
numbered in the order their values are listed, absent fields as 255 (R198, R199, R200, R201). -/

namespace Sys2Proof.Machine

/-- `n` in `width` bytes, most significant byte first (R198). -/
def beBytes : (width : Nat) → (n : Nat) → List Byte
  | 0, _ => []
  | width + 1, n => BitVec.ofNat 8 (n / 256 ^ width) :: beBytes width n

/-- A flag reads 1 when set and 0 when clear (R198). -/
def flagByte (b : Bool) : Byte := if b then 1 else 0

/-- A one-byte field that may be absent reads 255 when absent (R198). -/
def optByte (n : Option Nat) : Byte := BitVec.ofNat 8 (n.getD 255)

/-- A slot field that may be absent (R123). -/
def slotByte (i : Option Slot) : Byte := optByte (i.map fun j => j.val)

/-- Bit `i` of a mask, for a member that is in the set. -/
def maskBit (b : Bool) (i : Nat) : Byte := if b then BitVec.ofNat 8 (2 ^ i) else 0

/-- A reason set as one byte (R198). -/
def Reasons.byte (r : Reasons) : Byte :=
  maskBit r.credit 0 ||| maskBit r.zone 1 ||| maskBit r.agreement 2 ||| maskBit r.hold 3

/-- A flag set as one byte (R198). -/
def Flags.byte (f : Flags) : Byte :=
  maskBit f.dataBar 0 ||| maskBit f.voiceBar 1 ||| maskBit f.msgBar 2 ||| maskBit f.hold 3

/-- The flags a mask byte names (R198). -/
def Flags.ofMask (m : Byte) : Flags :=
  ⟨m.getLsbD 0, m.getLsbD 1, m.getLsbD 2, m.getLsbD 3⟩

/-- The standing orders as one byte: bit 0 SILENCE, bit 1 HARBOR, bit 2 LINK HOLD (R202). -/
def Standing.byte (o : Standing) : Byte :=
  maskBit o.silence 0 ||| maskBit o.harbor 1 ||| maskBit o.linkHold 2

/-- A calendar takes seven bytes in the order of *Set clock* (R198). -/
def Calendar.bytes (c : Calendar) : List Byte :=
  [c.seconds, c.minutes, c.hours, c.date, c.month, c.year, c.dayOfWeek].map (BitVec.ofNat 8)

def Period.code : Period → Nat
  | .peak => 0
  | .offpeak => 1

def WindowCause.code : WindowCause → Nat
  | .zoneClass => 0
  | .costClass => 1
  | .period => 2

def SessionState.code : SessionState → Nat
  | .free => 0
  | .active => 1
  | .suspended => 2
  | .draining => 3
  | .closing => 4

def Basis.code : Basis → Nat
  | .roaming => 0
  | .onboard => 1

/-- The codes of R200: 1 RELEASED, 2 LAPSED, 3 COVERAGE_END, 4 PURSER. -/
def CloseReason.code : CloseReason → Nat
  | .released => 1
  | .lapsed => 2
  | .coverageEnd => 3
  | .purser => 4

def AgreementState.code : AgreementState → Nat
  | .empty => 0
  | .opened => 1
  | .suspended => 2

def AccountKind.code : AccountKind → Nat
  | .closed => 0
  | .prepaid => 1
  | .settlement => 2

def Policy.code : Policy → Nat
  | .radiate => 0
  | .noRadiate => 1

def ZoneKind.code : ZoneKind → Nat
  | .permissive => 0
  | .restrictive => 1

def CoverageState.code : CoverageState → Nat
  | .silent => 0
  | .qualifying => 1
  | .ramping => 2
  | .radiating => 3
  | .withdrawing => 4

def DecoderState.code : DecoderState → Nat
  | .idle => 0
  | .train => 1
  | .recovering => 2

def LinkKind.code : LinkKind → Nat
  | .satellite => 0
  | .shoreCellular => 1
  | .harbor => 2

def LinkState.code : LinkState → Nat
  | .down => 0
  | .idle => 1
  | .qualifying => 2
  | .standby => 3
  | .ramping => 4
  | .carrying => 5
  | .holdoff => 6

def Supervisor.code : Supervisor → Nat
  | .off => 0
  | .reset => 1
  | .initializing => 2
  | .running => 3
  | .flushed => 4

def StartKind.code : StartKind → Nat
  | .cold => 0
  | .warm => 1

/-- The status codes of R189. -/
def Status.code : Status → Nat
  | .ok => 0
  | .clamped => 1
  | .already => 2
  | .barredUsage => 3
  | .role => 16
  | .state => 17
  | .badParam => 18
  | .notFound => 19
  | .full => 20
  | .coverage => 21
  | .paced => 22
  | .zone => 23
  | .credit => 24
  | .noAgreement => 25
  | .closing => 26
  | .busy => 27
  | .notRamping => 28
  | .tooLate => 29
  | .empty => 30
  | .unknown => 31

/-- The number n of the kind E<n> (R201). -/
def EventKind.number : EventKind → Nat
  | .warmStart => 0
  | .coverageChanged => 1
  | .zoneChanged => 2
  | .zoneUnknown => 3
  | .bridgeOrder => 4
  | .bridgeBad => 5
  | .ratingBoundary => 6
  | .swapBegin => 7
  | .swapDone => 8
  | .swapAbandoned => 9
  | .linkFault => 10
  | .shoreDark => 11
  | .linkStale => 12
  | .sessionLapsed => 13
  | .sessionSuspended => 14
  | .sessionResumed => 15
  | .creditExhausted => 16
  | .lowBalance => 17
  | .settlementSaturated => 18
  | .recordReady => 19
  | .queueFull => 20
  | .recordOwed => 21
  | .chargeClamped => 22
  | .segmentMixed => 23
  | .tableFull => 24
  | .clockNotSet => 25
  | .periodChanged => 26

/-- A context as three bytes: zone tariff class, link cost class, period (R202). -/
def Context.bytes (c : Context) : List Byte :=
  [c.zoneClass, c.costClass, c.period.code].map (BitVec.ofNat 8)

/-- A pending context that is absent reads 255 in each of its bytes (R198; notes/assumptions/13.md). -/
def optContextBytes : Option Context → List Byte
  | some c => c.bytes
  | none => [255, 255, 255]

/-- A segment as 22 bytes (R200). -/
def Segment.bytes (g : Segment) : List Byte :=
  g.key.bytes ++ [flagByte g.mixed] ++ beBytes 4 g.data ++ beBytes 4 g.voice ++ beBytes 4 g.messages ++ beBytes 6 g.charge

/-- The fields of a record that say whose it is, bytes 10 to 29 of the header (R200). -/
def Who.bytes (w : Who) : List Byte :=
  beBytes 2 w.handle ++ beBytes 8 w.identity.toNat ++ [BitVec.ofNat 8 w.account, optByte w.agreement, BitVec.ofNat 8 w.plan]
    ++ w.openTime.bytes

/-- The first nine bytes of a record's header: kind, flags, record time (R200). -/
def ChargeRecord.leadBytes (r : ChargeRecord) (kind : Nat) (moreFollows : Bool) : List Byte :=
  [BitVec.ofNat 8 kind, maskBit r.clockNotSet 0 ||| maskBit moreFollows 1] ++ r.time.bytes

/-- A charge record's read-out: a header of 50 bytes and 22 bytes for each segment (R200). -/
def ChargeRecord.bytes (r : ChargeRecord) : List Byte :=
  match r.body with
  | .close who reason part shortfall droppedData droppedVoice segments =>
    r.leadBytes 1 false ++ who.bytes ++ beBytes 1 reason.code ++ beBytes 1 part ++ beBytes 6 shortfall ++ beBytes 2 droppedData
      ++ beBytes 1 droppedVoice ++ beBytes 1 0 ++ beBytes 2 0 ++ beBytes 6 0 ++ beBytes 1 segments.length
      ++ segments.flatMap Segment.bytes
  | .interim who part segments =>
    r.leadBytes 2 true ++ who.bytes ++ beBytes 1 0 ++ beBytes 1 part ++ beBytes 6 0 ++ beBytes 2 0
      ++ beBytes 1 0 ++ beBytes 1 0 ++ beBytes 2 0 ++ beBytes 6 0 ++ beBytes 1 segments.length
      ++ segments.flatMap Segment.bytes
  | .powerCut cuts sessionsLost unitemized =>
    r.leadBytes 3 false ++ beBytes 20 0 ++ beBytes 1 0 ++ beBytes 1 0 ++ beBytes 6 0 ++ beBytes 2 0
      ++ beBytes 1 0 ++ beBytes 1 cuts ++ beBytes 2 sessionsLost ++ beBytes 6 unitemized ++ beBytes 1 0

/-- The read-out of a session, in the order of R25 with the widths of R200. `place` is its place in the owed-record list. -/
def Session.bytes (x : Session) (handle place : Nat) : List Byte :=
  beBytes 2 handle ++ beBytes 1 x.state.code ++ beBytes 8 x.identity.toNat ++ [optByte (x.basis.map Basis.code), optByte x.agreement]
    ++ beBytes 1 x.account ++ beBytes 1 x.plan ++ [x.reasons.byte, x.flags.byte] ++ beBytes 1 x.lapseCount ++ x.openTime.bytes
    ++ beBytes 2 x.dataResidue ++ beBytes 1 x.voiceResidue ++ beBytes 6 x.shortfall ++ beBytes 1 x.part
    ++ beBytes 1 ((x.closeReason.map CloseReason.code).getD 0) ++ beBytes 2 place ++ beBytes 1 x.segments.length
    ++ x.segments.flatMap Segment.bytes

/-- The remaining time of a timer in whole seconds, rounded up, 0 for a stopped timer (R102, R123, R155). -/
def remainingSeconds (t : Timer) : Nat :=
  match t with
  | none => 0
  | some r => (r + (Config.periodsPerSecond - 1)) / Config.periodsPerSecond

end Sys2Proof.Machine
end

