-- ==== Sys2Proof/Decode.lean ====
section
/-! DEFINITION. What a row of the command table is spelt by. No row of spec/opcode_table.json gives bits, so no word spells one
(notes/assumptions/19.md). A port spells a command as a frame: a code byte and the parameter bytes of the command summary
(R186, R187, R188), read here and written by the encoder after it. -/

namespace Sys2Proof

/-- The command a word spells by the bits of the table: the table gives no row any bits. -/
def decodeTableWord (_nbits _w : Nat) : Option Instr := none

/-! ### Frames (11.1, 11.3) -/

/-- One byte clocked in a frame, with the level of the command/data line: `data` is true for high (R186). -/
structure ClockedByte where
  data : Bool
  byte : Byte
  deriving DecidableEq, Repr

/-- How many parameter bytes the command summary gives a code; none for a code that is not in it (11.3). -/
def parameterCount (code : Nat) : Option Nat :=
  match code with
  | 16 => some 10
  | 17 => some 7
  | 18 => some 2
  | 19 => some 7
  | 20 => some 1
  | 32 => some 7
  | 33 => some 1
  | 48 => some 6
  | 49 => some 7
  | 50 => some 11
  | 51 => some 8
  | 52 => some 8
  | 53 => some 2
  | 54 => some 10
  | 55 => some 15
  | 56 => some 8
  | 57 => some 3
  | 58 => some 3
  | 59 => some 2
  | 60 => some 0
  | 61 => some 0
  | 62 => some 0
  | 63 => some 7
  | 64 => some 2
  | 65 => some 3
  | 80 => some 0
  | 81 => some 2
  | 82 => some 8
  | 83 => some 1
  | 84 => some 1
  | 85 => some 1
  | 86 => some 1
  | 87 => some 0
  | 88 => some 0
  | 89 => some 4
  | 90 => some 0
  | _ => none

/-- A number sent most significant byte first (R198). -/
def beValue (bytes : List Byte) : Nat := bytes.foldl (fun n b => 256 * n + b.toNat) 0

/-- A field of `w` bits from its bytes. -/
def beField (w : Nat) (bytes : List Byte) : BitVec w := BitVec.ofNat w (beValue bytes)

/-- The command of a code of the command summary with its parameter bytes, in the order of each command's rule. -/
def readCommand (p : Port) (code : Nat) (parameters : List Byte) : Option Instr :=
  match code with
  | 16 =>
    match parameters with
    | [b0, b1, b2, b3, b4, b5, b6, b7, b8, b9] => some (.attach p (beField 64 [b0, b1, b2, b3, b4, b5, b6, b7]) b8 b9)
    | _ => none
  | 17 =>
    match parameters with
    | [b0, b1, b2, b3, b4, b5, b6] => some (.release p (beField 16 [b0, b1]) (beField 16 [b2, b3]) (beField 16 [b4, b5]) b6)
    | _ => none
  | 18 =>
    match parameters with
    | [b0, b1] => some (.keepalive p (beField 16 [b0, b1]))
    | _ => none
  | 19 =>
    match parameters with
    | [b0, b1, b2, b3, b4, b5, b6] => some (.usage p (beField 16 [b0, b1]) (beField 16 [b2, b3]) (beField 16 [b4, b5]) b6)
    | _ => none
  | 20 =>
    match parameters with
    | [b0] => some (.zoneReport p b0)
    | _ => none
  | 32 =>
    match parameters with
    | [b0, b1, b2, b3, b4, b5, b6] => some (.linkReport p b0 b1 b2 (beField 16 [b3, b4]) (beField 16 [b5, b6]))
    | _ => none
  | 33 =>
    match parameters with
    | [b0] => some (.swapConfirm p b0)
    | _ => none
  | 48 =>
    match parameters with
    | [b0, b1, b2, b3, b4, b5] => some (.loadZone p b0 b1 b2 (beField 16 [b3, b4]) b5)
    | _ => none
  | 49 =>
    match parameters with
    | [b0, b1, b2, b3, b4, b5, b6] => some (.loadLink p b0 b1 b2 b3 b4 (beField 16 [b5, b6]))
    | _ => none
  | 50 =>
    match parameters with
    | [b0, b1, b2, b3, b4, b5, b6, b7, b8, b9, b10] => some (.loadPriceRow p b0 b1 (beField 16 [b2, b3]) (beField 16 [b4, b5]) (beField 16 [b6, b7]) b8 (beField 16 [b9, b10]))
    | _ => none
  | 51 =>
    match parameters with
    | [b0, b1, b2, b3, b4, b5, b6, b7] => some (.setSurcharges p (beField 16 [b0, b1]) (beField 16 [b2, b3]) (beField 16 [b4, b5]) (beField 16 [b6, b7]))
    | _ => none
  | 52 =>
    match parameters with
    | [b0, b1, b2, b3, b4, b5, b6, b7] => some (.setDiscounts p b0 b1 b2 b3 b4 b5 b6 b7)
    | _ => none
  | 53 =>
    match parameters with
    | [b0, b1] => some (.setOffPeakWindow p b0 b1)
    | _ => none
  | 54 =>
    match parameters with
    | [b0, b1, b2, b3, b4, b5, b6, b7, b8, b9] => some (.loadAgreement p b0 b1 b2 (beField 24 [b3, b4, b5]) (beField 16 [b6, b7]) b8 b9)
    | _ => none
  | 55 =>
    match parameters with
    | [b0, b1, b2, b3, b4, b5, b6, b7, b8, b9, b10, b11, b12, b13, b14] => some (.accountSet p b0 b1 (beField 48 [b2, b3, b4, b5, b6, b7]) (beField 48 [b8, b9, b10, b11, b12, b13]) b14)
    | _ => none
  | 56 =>
    match parameters with
    | [b0, b1, b2, b3, b4, b5, b6, b7] => some (.accountAdjust p b0 b1 (beField 48 [b2, b3, b4, b5, b6, b7]))
    | _ => none
  | 57 =>
    match parameters with
    | [b0, b1, b2] => some (.setSessionFlags p (beField 16 [b0, b1]) b2)
    | _ => none
  | 58 =>
    match parameters with
    | [b0, b1, b2] => some (.clearSessionFlags p (beField 16 [b0, b1]) b2)
    | _ => none
  | 59 =>
    match parameters with
    | [b0, b1] => some (.closeSession p (beField 16 [b0, b1]))
    | _ => none
  | 60 =>
    match parameters with
    | [] => some (.readRecord p)
    | _ => none
  | 61 =>
    match parameters with
    | [] => some (.dropRecord p)
    | _ => none
  | 62 =>
    match parameters with
    | [] => some (.readQueueMark p)
    | _ => none
  | 63 =>
    match parameters with
    | [b0, b1, b2, b3, b4, b5, b6] => some (.setClock p b0 b1 b2 b3 b4 b5 b6)
    | _ => none
  | 64 =>
    match parameters with
    | [b0, b1] => some (.setTrim p b0 b1)
    | _ => none
  | 65 =>
    match parameters with
    | [b0, b1, b2] => some (.setParameter p b0 (beField 16 [b1, b2]))
    | _ => none
  | 80 =>
    match parameters with
    | [] => some (.readStatus p)
    | _ => none
  | 81 =>
    match parameters with
    | [b0, b1] => some (.readSessionByHandle p (beField 16 [b0, b1]))
    | _ => none
  | 82 =>
    match parameters with
    | [b0, b1, b2, b3, b4, b5, b6, b7] => some (.readSessionByIdentity p (beField 64 [b0, b1, b2, b3, b4, b5, b6, b7]))
    | _ => none
  | 83 =>
    match parameters with
    | [b0] => some (.readAccount p b0)
    | _ => none
  | 84 =>
    match parameters with
    | [b0] => some (.readAgreement p b0)
    | _ => none
  | 85 =>
    match parameters with
    | [b0] => some (.readLink p b0)
    | _ => none
  | 86 =>
    match parameters with
    | [b0] => some (.readZone p b0)
    | _ => none
  | 87 =>
    match parameters with
    | [] => some (.readClock p)
    | _ => none
  | 88 =>
    match parameters with
    | [] => some (.readEvent p)
    | _ => none
  | 89 =>
    match parameters with
    | [b0, b1, b2, b3] => some (.setEventEnables p (beField 32 [b0, b1, b2, b3]))
    | _ => none
  | 90 =>
    match parameters with
    | [] => some (.portReset p)
    | _ => none
  | _ => none

/-- What the bytes of one frame on a port spell (R186, R187, R188). A frame with no byte clocked is no frame. A first byte with
command/data high truncates the frame. A code that is not in the command summary is an unknown command, and the bytes after it
are ignored. Otherwise the parameter bytes follow with command/data high, and too few of them, or one with command/data low,
truncates the frame; the bytes after the last parameter byte are ignored. -/
def readFrame (p : Port) (bytes : List ClockedByte) : Option Instr :=
  match bytes with
  | [] => none
  | first :: rest =>
    if first.data then some (.truncatedFrame p)
    else
      match parameterCount first.byte.toNat with
      | none => some (.unknownCommand p first.byte)
      | some n =>
        let parameters := rest.take n
        if parameters.length = n ∧ parameters.all ClockedByte.data then
          readCommand p first.byte.toNat (parameters.map ClockedByte.byte)
        else some (.truncatedFrame p)

/-! ### The encoder -/

/-- The code and the parameter bytes of a command of the summary; none for the events and for a truncated frame. -/
def frameParts (i : Instr) : Option (Byte × List Byte) :=
  match i with
  | .attach _ identity accountPresent accountIndex => some (16, Machine.beBytes 8 identity.toNat ++ [accountPresent, accountIndex])
  | .release _ handle data voice messages =>
    some (17, Machine.beBytes 2 handle.toNat ++ Machine.beBytes 2 data.toNat ++ Machine.beBytes 2 voice.toNat ++ [messages])
  | .keepalive _ handle => some (18, Machine.beBytes 2 handle.toNat)
  | .usage _ handle data voice messages =>
    some (19, Machine.beBytes 2 handle.toNat ++ Machine.beBytes 2 data.toNat ++ Machine.beBytes 2 voice.toNat ++ [messages])
  | .zoneReport _ zone => some (20, [zone])
  | .linkReport _ slot present quality loss latency =>
    some (32, [slot, present, quality] ++ Machine.beBytes 2 loss.toNat ++ Machine.beBytes 2 latency.toNat)
  | .swapConfirm _ slot => some (33, [slot])
  | .loadZone _ zone loaded policy grace tariffClass =>
    some (48, [zone, loaded, policy] ++ Machine.beBytes 2 grace.toNat ++ [tariffClass])
  | .loadLink _ slot loaded kind costClass rank zones =>
    some (49, [slot, loaded, kind, costClass, rank] ++ Machine.beBytes 2 zones.toNat)
  | .loadPriceRow _ plan zoneClass dataPrice dataIncrement voicePrice voiceIncrement messagePrice =>
    some (50, [plan, zoneClass] ++ Machine.beBytes 2 dataPrice.toNat ++ Machine.beBytes 2 dataIncrement.toNat ++ Machine.beBytes 2 voicePrice.toNat ++ [voiceIncrement] ++ Machine.beBytes 2 messagePrice.toNat)
  | .setSurcharges _ s0 s1 s2 s3 =>
    some (51, Machine.beBytes 2 s0.toNat ++ Machine.beBytes 2 s1.toNat ++ Machine.beBytes 2 s2.toNat ++ Machine.beBytes 2 s3.toNat)
  | .setDiscounts _ q0 q1 q2 q3 q4 q5 q6 q7 => some (52, [q0, q1, q2, q3, q4, q5, q6, q7])
  | .setOffPeakWindow _ startHour endHour => some (53, [startHour, endHour])
  | .loadAgreement _ index state codeLength code zones plan account =>
    some (54, [index, state, codeLength] ++ Machine.beBytes 3 code.toNat ++ Machine.beBytes 2 zones.toNat ++ [plan, account])
  | .accountSet _ index kind value threshold plan =>
    some (55, [index, kind] ++ Machine.beBytes 6 value.toNat ++ Machine.beBytes 6 threshold.toNat ++ [plan])
  | .accountAdjust _ index sign magnitude => some (56, [index, sign] ++ Machine.beBytes 6 magnitude.toNat)
  | .setSessionFlags _ handle mask => some (57, Machine.beBytes 2 handle.toNat ++ [mask])
  | .clearSessionFlags _ handle mask => some (58, Machine.beBytes 2 handle.toNat ++ [mask])
  | .closeSession _ handle => some (59, Machine.beBytes 2 handle.toNat)
  | .readRecord _ => some (60, [])
  | .dropRecord _ => some (61, [])
  | .readQueueMark _ => some (62, [])
  | .setClock _ seconds minutes hours date month year dayOfWeek =>
    some (63, [seconds, minutes, hours, date, month, year, dayOfWeek])
  | .setTrim _ sign magnitude => some (64, [sign, magnitude])
  | .setParameter _ number value => some (65, [number] ++ Machine.beBytes 2 value.toNat)
  | .readStatus _ => some (80, [])
  | .readSessionByHandle _ handle => some (81, Machine.beBytes 2 handle.toNat)
  | .readSessionByIdentity _ identity => some (82, Machine.beBytes 8 identity.toNat)
  | .readAccount _ index => some (83, [index])
  | .readAgreement _ index => some (84, [index])
  | .readLink _ slot => some (85, [slot])
  | .readZone _ zone => some (86, [zone])
  | .readClock _ => some (87, [])
  | .readEvent _ => some (88, [])
  | .setEventEnables _ enables => some (89, Machine.beBytes 4 enables.toNat)
  | .portReset _ => some (90, [])
  | .unknownCommand _ code => some (code, [])
  | .truncatedFrame _ => none
  | .lapseSweepVisit => none
  | .fixTimerExpires => none
  | .candidateQualifies => none
  | .restoreTimerExpires => none
  | .rampTimerExpires => none
  | .graceTimerExpires => none
  | .wholeSecond => none
  | .bridgeLineFall => none
  | .bridgeLineRise => none
  | .lowReaches30Ms => none
  | .longLow => none
  | .stuck => none
  | .gapTimerExpires => none
  | .recoveryTimerExpires => none
  | .staleTimerExpires _ => none
  | .linkQualificationExpires _ => none
  | .faultTimerExpires _ => none
  | .holdoffTimerExpires _ => none
  | .swapTimerExpires => none
  | .dwellTimerExpires => none
  | .settleWindowExpires => none
  | .attentionTimerExpires _ => none
  | .mainPowerRises => none
  | .mainPowerFalls => none
  | .resetLineFalls => none
  | .resetLineRises => none
  | .powerFailWarningRises => none
  | .powerFailWarningFalls => none
  | .backupDomainLost => none
  | .initializationEnds => none

/-- The frame of a command: its code byte with command/data low, then its parameter bytes with command/data high (R186). -/
def encode (i : Instr) : Option (List ClockedByte) :=
  (frameParts i).map fun f => ⟨false, f.1⟩ :: f.2.map fun b => ⟨true, b⟩

end Sys2Proof
end

