-- ==== Sys2Proof/Machine/Operands.lean ====
section
/-! DEFINITION. The operand forms of the commands: what a parameter byte names, where it names something, and the packing of
identities and home network codes (R198, R199). -/

namespace Sys2Proof.Machine

/-- The half-byte of place `i` of a packed number of `n` half-bytes, the first place in the high half of the first byte. -/
def halfByte {w : Nat} (x : BitVec w) (n i : Nat) : Nat := (x.extractLsb' (4 * (n - 1 - i)) 4).toNat

/-- An identity keeps its packing: fifteen decimal digits, then 15 in the low half of the eighth byte (R199). -/
def identityValid (x : IdentityWord) : Bool :=
  (List.range 15).all (fun i => decide (halfByte x 16 i ≤ 9)) && halfByte x 16 15 == 15

/-- A home network code keeps its packing: 5 digits and 15, or 6 digits (R199). -/
def codeValid (length : Nat) (x : CodeWord) : Bool :=
  (length == 5 && (List.range 5).all (fun i => decide (halfByte x 6 i ≤ 9)) && halfByte x 6 5 == 15)
    || (length == 6 && (List.range 6).all (fun i => decide (halfByte x 6 i ≤ 9)))

/-- The code equals the identity's first five digits, or its first six (R29). -/
def codeMatches (length : Nat) (code : CodeWord) (x : IdentityWord) : Bool :=
  if length = 5 then code.extractLsb' 4 20 == x.extractLsb' 44 20
  else code == x.extractLsb' 40 24

/-- A handle of two bytes names a record when it is at most 1,023 (R3). -/
def handleOf (h : Half) : Option Nat := if h.toNat < Config.sessionCount then some h.toNat else none

/-- A slot byte 0 to 5 (R84, R86, R117). -/
def slotOf (b : Byte) : Option Slot := if h : b.toNat < 6 then some ⟨b.toNat, h⟩ else none

/-- A zone byte 0 to 15 (R48, R51). -/
def zoneOf (b : Byte) : Option Nat := if b.toNat < Config.zoneCount then some b.toNat else none

/-- An agreement index 0 to 63 (R30). -/
def agreementOf (b : Byte) : Option Nat := if b.toNat < Config.agreementCount then some b.toNat else none

/-- A flag byte, 0 or 1. -/
def boolOf (b : Byte) : Option Bool := if b = 0 then some false else if b = 1 then some true else none

def policyOf (b : Byte) : Option Policy := if b = 0 then some .radiate else if b = 1 then some .noRadiate else none

def linkKindOf (b : Byte) : Option LinkKind :=
  if b = 0 then some .satellite else if b = 1 then some .shoreCellular else if b = 2 then some .harbor else none

def agreementStateOf (b : Byte) : Option AgreementState :=
  if b = 0 then some .empty else if b = 1 then some .opened else if b = 2 then some .suspended else none

def accountKindOf (b : Byte) : Option AccountKind :=
  if b = 0 then some .closed else if b = 1 then some .prepaid else if b = 2 then some .settlement else none

/-- A zone set includes zone `z` when bit `z` is set (R198). -/
def zoneIn (z : Nat) (zones : Half) : Bool := zones.getLsbD z

/-- `n` clamped to `low` to `high`. -/
def clampTo (low high n : Nat) : Nat := max low (min high n)

/-- A port command's roles (the command summary, 11.3). -/
def anyRole : List Port := [.cell, .link, .purser]

/-! ### The six slots and the three ports -/

def Slots.get {α : Type} (t : Slots α) (i : Slot) : α :=
  match i with
  | 0 => t.s0
  | 1 => t.s1
  | 2 => t.s2
  | 3 => t.s3
  | 4 => t.s4
  | 5 => t.s5

def Slots.set {α : Type} (t : Slots α) (i : Slot) (x : α) : Slots α :=
  match i with
  | 0 => { t with s0 := x }
  | 1 => { t with s1 := x }
  | 2 => { t with s2 := x }
  | 3 => { t with s3 := x }
  | 4 => { t with s4 := x }
  | 5 => { t with s5 := x }

def Slots.map {α β : Type} (f : α → β) (t : Slots α) : Slots β :=
  ⟨f t.s0, f t.s1, f t.s2, f t.s3, f t.s4, f t.s5⟩

def Slots.zipWith {α β γ : Type} (f : α → β → γ) (t : Slots α) (u : Slots β) : Slots γ :=
  ⟨f t.s0 u.s0, f t.s1 u.s1, f t.s2 u.s2, f t.s3 u.s3, f t.s4 u.s4, f t.s5 u.s5⟩

/-- The slots in ascending order. -/
def allSlots : List Slot := [0, 1, 2, 3, 4, 5]

def Router.port (r : Router) (p : Port) : PortState :=
  match p with
  | .cell => r.cell
  | .link => r.link
  | .purser => r.purser

def Router.setPort (r : Router) (p : Port) (x : PortState) : Router :=
  match p with
  | .cell => { r with cell := x }
  | .link => { r with link := x }
  | .purser => { r with purser := x }

/-- The surcharge S(c) of a link cost class 0 to 3 (R144). -/
def Surcharges.get (t : Surcharges) (c : Nat) : Nat :=
  match c with
  | 0 => t.s0
  | 1 => t.s1
  | 2 => t.s2
  | _ => t.s3

/-- The discount Q(p) of a plan 0 to 7 (R145). -/
def Discounts.get (t : Discounts) (p : Nat) : Nat :=
  match p with
  | 0 => t.q0
  | 1 => t.q1
  | 2 => t.q2
  | 3 => t.q3
  | 4 => t.q4
  | 5 => t.q5
  | 6 => t.q6
  | _ => t.q7

/-- The number of row (p, z) in the table of price rows (R142). -/
def rowNumber (plan zoneClass : Nat) : Nat := 8 * plan + zoneClass

end Sys2Proof.Machine
end

