-- ==== Sys2Proof/Machine/Flags.lean ====
section
/-! DEFINITION. The judgements: every flag, mark and condition the rules compute from the state, and nothing that changes it. -/

namespace Sys2Proof.Machine

/-! ### Sessions -/

def Session.live (x : Session) : Bool :=
  match x.state with
  | .active => true
  | .suspended => true
  | _ => false

/-- In ACTIVE, SUSPENDED or DRAINING (R1). -/
def Session.served (x : Session) : Bool :=
  match x.state with
  | .active => true
  | .suspended => true
  | .draining => true
  | _ => false

def Session.notFree (x : Session) : Bool := x.state != .free

def Reasons.isEmpty (r : Reasons) : Bool := !(r.credit || r.zone || r.agreement || r.hold)

/-- The reasons with one set joined and another taken out (R4, R5). -/
def Reasons.change (r add remove : Reasons) : Reasons :=
  ⟨(r.credit || add.credit) && !remove.credit, (r.zone || add.zone) && !remove.zone,
    (r.agreement || add.agreement) && !remove.agreement, (r.hold || add.hold) && !remove.hold⟩

def Flags.union (f g : Flags) : Flags :=
  ⟨f.dataBar || g.dataBar, f.voiceBar || g.voiceBar, f.msgBar || g.msgBar, f.hold || g.hold⟩

def Flags.without (f g : Flags) : Flags :=
  ⟨f.dataBar && !g.dataBar, f.voiceBar && !g.voiceBar, f.msgBar && !g.msgBar, f.hold && !g.hold⟩

/-- Usage that carries a non-zero quantity of a barred service (R24). -/
def Flags.barred (f : Flags) (data voice messages : Nat) : Bool :=
  (f.dataBar && data != 0) || (f.voiceBar && voice != 0) || (f.msgBar && messages != 0)

def State.session (s : State) (h : Nat) : Session := s.sessions.get Session.free h

/-- The number of sessions in ACTIVE, SUSPENDED or DRAINING (R21). -/
def State.servedCount (s : State) : Nat := s.sessions.count Session.served

/-- The lowest FREE handle, if there is one (R9, R10). -/
def State.freeHandle (s : State) : Option Nat :=
  (List.range Config.sessionCount).find? fun h => !(s.session h).notFree

/-- The session that is not FREE and holds an identity (R6). -/
def State.lookupIdentity (s : State) (x : IdentityWord) : Option Nat :=
  (s.sessions.keys fun r => r.notFree && r.identity == x).head?

/-- The place of a handle in the owed-record list, 1 at the head, 0 when it is not in it (R16). -/
def State.owedPlace (s : State) (h : Nat) : Nat :=
  if h ∈ s.owed then s.owed.idxOf h + 1 else 0

/-! ### Agreements, accounts, zones -/

def State.agreement (s : State) (i : Nat) : Agreement := s.agreements.get Agreement.emptied i
def State.account (s : State) (i : Nat) : Account := s.accounts.get Account.closed i
def State.zoneRecord (s : State) (z : Nat) : ZoneRecord := s.zones.get ZoneRecord.unloaded z
def State.priceRow (s : State) (plan zoneClass : Nat) : PriceRow :=
  s.tariff.rows.get PriceRow.cold (rowNumber plan zoneClass)

/-- The agreements, not EMPTY, that name an account as their settlement account (R45). -/
def State.agreementsNaming (s : State) (a : Nat) : Nat :=
  s.agreements.count fun g => g.state != .empty && g.account == a

/-- The agreement of a given code length that an identity matches (R29). -/
def State.matchOfLength (s : State) (length : Nat) (x : IdentityWord) : Option Nat :=
  (s.agreements.keys fun g => g.state != .empty && g.codeLength == length && codeMatches length g.code x).head?

/-- The longest match of an identity among the agreements that are not EMPTY (R29). -/
def State.matchAgreement (s : State) (x : IdentityWord) : Option Nat :=
  match s.matchOfLength 6 x with
  | some i => some i
  | none => s.matchOfLength 5 x

/-- A zone is permissive when its record is loaded with policy RADIATE, and restrictive otherwise (R47). -/
def ZoneRecord.kind (r : ZoneRecord) : ZoneKind :=
  if r.loaded && r.policy == .radiate then .permissive else .restrictive

/-- Radiation allowed (R58). -/
def State.radiationAllowed (s : State) : Bool :=
  (match s.coverage.zone with
    | some z => (s.zoneRecord z).kind == .permissive
    | none => false)
  && !s.bridge.standing.silence && !s.bridge.standing.harbor && !s.power.flushing

/-- The grace of the withdrawal a zone gives: its grace period, 0 s when unloaded or absent (R63). -/
def State.zoneGrace (s : State) (z : Option Nat) : Nat :=
  match z with
  | some k => (s.zoneRecord k).grace
  | none => 0

/-- The coverage states in which the permit is high (R66). -/
def CoverageState.permits (c : CoverageState) : Bool :=
  match c with
  | .ramping => true
  | .radiating => true
  | .withdrawing => true
  | _ => false

/-! ### Links -/

/-- The raw figure of a report, from its quality and loss after clamping (R88). -/
def rawFigure (quality loss latency : Nat) : Nat :=
  min 100 (quality - loss / 10 - min (latency / 100) 50)

/-- The smoothed figure after a report (R89). -/
def smoothFigure (fresh : Bool) (smoothed raw : Nat) : Nat :=
  if fresh then raw else (3 * smoothed + raw + 2) / 4

/-- The healthy flag judged from the smoothed figure (R90). -/
def judgeHealthy (upper lower : Nat) (was : Bool) (smoothed : Nat) : Bool :=
  if upper ≤ smoothed then true else if smoothed ≤ lower then false else was

/-- A report is a hard failure (R91). -/
def hardFailure (limit : Nat) (present : Bool) (loss : Nat) : Bool :=
  decide (limit ≤ loss) || !present

/-- The eligible flag of a slot (R93). -/
def eligibleFor (c : LinkConfig) (zone : Option Nat) (harbor : Bool) : Bool :=
  c.loaded &&
    match c.kind, zone with
    | .harbor, _ => harbor
    | .satellite, some z => zoneIn z c.zones
    | .satellite, none => true
    | .shoreCellular, some z => zoneIn z c.zones
    | .shoreCellular, none => false

/-- The eligible flag of slot `i` as the zone and the standing orders are (R93). -/
def State.eligibleNow (s : State) (i : Slot) : Bool :=
  eligibleFor (s.linkConfig.get i) s.coverage.zone s.bridge.standing.harbor

/-- The first slot in a given link state. -/
def State.slotIn (s : State) (st : LinkState) : Option Slot :=
  allSlots.find? fun i => (s.links.get i).state == st

/-- The carrier (6). -/
def State.carrier (s : State) : Option Slot := s.slotIn .carrying

/-- Slot `i` comes before slot `j` in the order of standby links (R107): lower cost class, then higher rank, then lower slot. -/
def State.betterStandby (s : State) (i j : Slot) : Bool :=
  let a := s.linkConfig.get i
  let b := s.linkConfig.get j
  decide (a.costClass < b.costClass)
    || (a.costClass == b.costClass && (decide (b.rank < a.rank) || (a.rank == b.rank && decide (i < j))))

/-- The best of a list of slots, by R107. -/
def State.bestOf (s : State) : List Slot → Option Slot
  | [] => none
  | i :: rest =>
    match s.bestOf rest with
    | none => some i
    | some j => if s.betterStandby i j then some i else some j

/-- The best standby (R107). -/
def State.bestStandby (s : State) : Option Slot :=
  s.bestOf (allSlots.filter fun i => (s.links.get i).state == .standby)

/-- A swap is forced: no carrier, or the carrier is not eligible (R109). -/
def State.forced (s : State) : Bool :=
  match s.carrier with
  | none => true
  | some c => !(s.links.get c).eligible

/-- The best standby is better than the carrier by the margin of R110. -/
def State.meetsMargin (s : State) (b c : Slot) : Bool :=
  let x := s.linkConfig.get b
  let y := s.linkConfig.get c
  decide (x.costClass < y.costClass) || (x.costClass == y.costClass && decide (y.rank + 2 ≤ x.rank))

/-- A voluntary swap onto `b` may start (R110). -/
def State.voluntary (s : State) (b : Slot) : Bool :=
  match s.carrier with
  | none => false
  | some c =>
    (s.links.get c).eligible && s.meetsMargin b c && s.selector.dwellTimer.isNone && !s.bridge.standing.linkHold

/-! ### Clock and rating -/

/-- An hour is one of the OFFPEAK hours of a window (R130). -/
def offPeakHour (start stop hour : Nat) : Bool :=
  if start = stop then false
  else if start < stop then decide (start ≤ hour) && decide (hour < stop)
  else decide (start ≤ hour) || decide (hour < stop)

/-- The period the hours field and the window give (R131). -/
def Clock.periodNow (c : Clock) : Period :=
  if offPeakHour c.windowStart c.windowEnd c.calendar.hours then .offpeak else .peak

/-- The last date of a month in a year (R125). -/
def lastDate (month year : Nat) : Nat :=
  if month = 2 then (if year % 4 = 0 then 29 else 28)
  else if month = 4 ∨ month = 6 ∨ month = 9 ∨ month = 11 then 30
  else 31

/-- The length of a second that begins at minute `m`, second `x`, in periods, with the trim in force (R126). -/
def secondLengthAt (m x : Nat) (trim : Int) : Nat :=
  if m = 59 ∧ x = 59 then ((Config.periodsPerSecond : Int) - trim).toNat else Config.periodsPerSecond

/-- The newest context: the pending context while the settle window runs, the context in force otherwise (8). -/
def Rating.newest (r : Rating) : Context :=
  if r.settleTimer.isSome then r.pendingContext.getD r.inForce else r.inForce

/-! ### Level conditions -/

/-- The queue can take an ordinary record (R166). -/
def State.queueHasRoom (s : State) : Bool := decide (s.queue.records.length < Config.ordinaryLimit)

/-- The condition of a level kind holds (R193). False for the kinds that are no level kinds. -/
def State.levelHolds (s : State) (k : EventKind) : Bool :=
  match k with
  | .shoreDark => s.carrier.isNone
  | .recordReady => !s.queue.records.isEmpty
  | .queueFull => !s.queueHasRoom
  | .recordOwed => !s.owed.isEmpty
  | .tableFull => s.freeHandle.isNone
  | .clockNotSet => s.clock.notSet
  | _ => false

/-- The level kinds, by rising number. -/
def levelKinds : List EventKind := [.shoreDark, .recordReady, .queueFull, .recordOwed, .tableFull, .clockNotSet]

/-- The stored detail of a level kind (R193). -/
def LevelDetails.get (d : LevelDetails) (k : EventKind) : Nat :=
  match k with
  | .shoreDark => d.shoreDark
  | .recordReady => d.recordReady
  | .queueFull => d.queueFull
  | .recordOwed => d.recordOwed
  | .tableFull => d.tableFull
  | .clockNotSet => d.clockNotSet
  | _ => 0

/-- The detail a renewed entry carries: the stored one, but for E21 the handle at the head of the owed-record list (R193). -/
def State.renewalDetail (s : State) (k : EventKind) : Nat :=
  match k with
  | .recordOwed => s.owed.head?.getD 0
  | _ => s.router.details.get k

/-- The main domain runs: RUNNING, or FLUSHED (R181). -/
def State.mainRuns (s : State) : Bool :=
  match s.power.supervisor with
  | .running => true
  | .flushed => true
  | _ => false

/-- The ship's clock counts: main power is present, or the backup supply has held the backup domain (R134, R173). -/
def State.clockRuns (s : State) : Bool := s.power.supervisor != .off || s.backupValid

end Sys2Proof.Machine
end

