-- ==== Sys2Proof/Machine/Ops.lean ====
section
/-! DEFINITION. The shared operations over the router, the charge record queue, the sessions and their accounts and agreements,
the answering of a frame, and the passage of time. Nothing here reads or writes the queue of waiting commands. -/

namespace Sys2Proof.Machine

/-! ### The event router (11.6) -/

/-- Port `p` is enabled for kind E<n> when bit n of its enable set is set. -/
def PortState.enabled (p : PortState) (k : EventKind) : Bool := p.enables.getLsbD k.number

/-- A port has an entry of a kind pending. -/
def PortState.holds (p : PortState) (k : EventKind) : Bool := p.pending.any fun e => e.kind == k

/-- Puts an entry that is not renewed in its place: by kind number among its like, before the renewed entries. -/
def insertFresh (e : Entry) : List Entry → List Entry
  | [] => [e]
  | x :: rest => if x.renewed || decide (e.kind.number < x.kind.number) then e :: x :: rest else x :: insertFresh e rest

/-- Drives the attention line low and starts the attention timer (R195). -/
def PortState.pullLow (p : PortState) : PortState := { p with lineLow := true, attention := some Config.attentionPeriods }

/-- Releases the attention line and stops its timer (R195). -/
def PortState.release (p : PortState) : PortState := { p with lineLow := false, attention := none }

/-- One port's part in an occurrence (R192): the latch, where the kind is enabled, and the fall of a line that is high. A line
that is low stays low, its timer as it was (R195). -/
def PortState.latch (p : PortState) (k : EventKind) (detail : Nat) : PortState :=
  if p.enabled k then
    let q : PortState :=
      { p with pending := insertFresh ⟨k, detail, p.holds k, false⟩ (p.pending.filter fun e => e.kind != k) }
    if q.lineLow then q else q.pullLow
  else p

/-- Stores the detail of a level kind at its occurrence (R193). -/
def LevelDetails.store (d : LevelDetails) (k : EventKind) (detail : Nat) : LevelDetails :=
  match k with
  | .shoreDark => { d with shoreDark := detail }
  | .recordReady => { d with recordReady := detail }
  | .queueFull => { d with queueFull := detail }
  | .recordOwed => { d with recordOwed := detail }
  | .tableFull => { d with tableFull := detail }
  | .clockNotSet => { d with clockNotSet := detail }
  | _ => d

/-- An occurrence of an event is offered to all three ports (R192). -/
def Router.occur (r : Router) (k : EventKind) (detail : Nat) : Router :=
  ⟨r.cell.latch k detail, r.link.latch k detail, r.purser.latch k detail, r.details.store k detail⟩

/-- Raises an event. -/
def State.raise (s : State) (k : EventKind) (detail : Nat) : State := { s with router := s.router.occur k detail }

/-! ### Answering a frame (R186, R188) -/

/-- A status with the response bytes it is given with. Every response byte beyond them reads as 0. -/
structure Reply where
  status : Status
  response : List Byte
  deriving DecidableEq, Repr

/-- A reply without response bytes. -/
def Reply.bare (st : Status) : Reply := ⟨st, []⟩

def State.port (s : State) (p : Port) : PortState := s.router.port p
def State.setPort (s : State) (p : Port) (x : PortState) : State := { s with router := s.router.setPort p x }

/-- The frame in progress on port `p` is answered. -/
def State.answer (s : State) (p : Port) (r : Reply) : State :=
  s.setPort p { s.port p with frame := .answered r.status r.response }

/-- A command that arrives whole (R175, R188): no answer in OFF, STATE outside RUNNING, ROLE on a port whose role is not
listed for it; otherwise its own rule acts and gives the reply. -/
def State.command (s : State) (p : Port) (roles : List Port) (rule : State → State × Reply) : State :=
  match s.power.supervisor with
  | .off => s
  | .running =>
    if p ∈ roles then (rule s).1.answer p (rule s).2 else s.answer p (Reply.bare .role)
  | _ => s.answer p (Reply.bare .state)

/-! ### The charge record queue (9.3) -/

/-- Appends a record: the occupancy and, when it is passed, the mark rise; E19 when the queue was empty, E20 when the occupancy
goes from 510 to 511 (R166, R170, R171). -/
def State.appendRecord (s : State) (r : ChargeRecord) : State :=
  let n := s.queue.records.length
  let s1 : State := { s with queue := ⟨s.queue.records ++ [r], max s.queue.mark (n + 1)⟩ }
  let s2 := if n = 0 then s1.raise .recordReady 0 else s1
  if n + 1 = Config.ordinaryLimit then s2.raise .queueFull 0 else s2

/-- A record made now: the calendar and the clock-not-set flag as they stand (R162). -/
def State.stamp (s : State) (body : RecordBody) : ChargeRecord := ⟨s.clock.calendar, s.clock.notSet, body⟩

/-- The fields of a record that say whose it is. -/
def Session.who (x : Session) (h : Nat) : Who := ⟨h, x.identity, x.account, x.agreement, x.plan, x.openTime⟩

/-- The CLOSE record of a session closed with `reason` (R163). -/
def Session.closeBody (x : Session) (h : Nat) (reason : CloseReason) : RecordBody :=
  .close (x.who h) reason x.part x.shortfall x.dataResidue x.voiceResidue x.segments

/-- The newest record is a POWER_CUT record. -/
def Queue.newestIsPowerCut (q : Queue) : Bool :=
  match q.records.getLast? with
  | some ⟨_, _, .powerCut _ _ _⟩ => true
  | _ => false

/-- A POWER_CUT contribution: merged into the newest record when that is a POWER_CUT record, appended otherwise (R165). -/
def State.contribute (s : State) (sessionsLost charge : Nat) : State :=
  match s.queue.records.getLast? with
  | some ⟨_, _, .powerCut cuts lost unitemized⟩ =>
    let merged := s.stamp (.powerCut (min 255 (cuts + 1)) (min 65535 (lost + sessionsLost))
      (min Config.maxValue (unitemized + charge)))
    { s with queue := ⟨s.queue.records.dropLast ++ [merged], s.queue.mark⟩ }
  | _ => s.appendRecord (s.stamp (.powerCut 1 sessionsLost (min Config.maxValue charge)))

/-! ### Sessions (1) -/

def State.setSession (s : State) (h : Nat) (x : Session) : State :=
  { s with sessions := s.sessions.set Session.free h x }

def State.setAccount (s : State) (i : Nat) (a : Account) : State :=
  { s with accounts := s.accounts.set Account.closed i a }

def State.setAgreement (s : State) (i : Nat) (g : Agreement) : State :=
  { s with agreements := s.agreements.set Agreement.emptied i g }

/-- The handles of the sessions that satisfy `f`, rising. -/
def State.handlesOf (s : State) (f : Session → Bool) : List Nat := s.sessions.keys f

/-- Changes the session counts of the account and, for a ROAMING session, the agreement a session names (R28, R37). -/
def State.countSession (s : State) (x : Session) (f : Nat → Nat) : State :=
  let a := s.account x.account
  let s1 := s.setAccount x.account { a with count := f a.count }
  match x.agreement with
  | some i => s1.setAgreement i { s1.agreement i with count := f (s1.agreement i).count }
  | none => s1

/-- A session becomes FREE: its record is cleared and the session counts fall (R15). -/
def State.becomeFree (s : State) (h : Nat) : State :=
  (s.countSession (s.session h) (fun n => n - 1)).setSession h Session.free

/-- A closed session that finds no room becomes CLOSING and joins the owed-record list at its tail, E21 when it was empty (R14,
R16). -/
def State.joinOwed (s : State) (h : Nat) (reason : CloseReason) : State :=
  let x := s.session h
  let s1 := s.setSession h { x with state := .closing, closeReason := some reason }
  let s2 : State := { s1 with owed := s1.owed ++ [h] }
  if s1.owed.isEmpty then s2.raise .recordOwed h else s2

/-- The closing procedure of R14. -/
def State.closeSession (s : State) (h : Nat) (reason : CloseReason) : State :=
  if s.queueHasRoom then (s.appendRecord (s.stamp ((s.session h).closeBody h reason))).becomeFree h
  else s.joinOwed h reason

/-- Grants record slots to the owed-record list while it is not empty and the queue has room; also the number of grants made
(R17, R168). The list given is the owed-record list. -/
def State.grantOwed (s : State) : List Nat → State × Nat
  | [] => (s, 0)
  | h :: rest =>
    if s.queueHasRoom then
      let x := s.session h
      let s1 := s.appendRecord (s.stamp (x.closeBody h (x.closeReason.getD .purser)))
      let s2 := ({ s1 with owed := rest } : State).becomeFree h
      let r := s2.grantOwed rest
      (r.1, r.2 + 1)
    else (s, 0)

/-- A change that adds and removes reasons reaches one session (R4, R5; both applied before the state is set, R33). -/
def State.changeReasons (s : State) (add remove : Reasons) (h : Nat) : State :=
  let x := s.session h
  let r := x.reasons.change add remove
  match x.state with
  | .active =>
    if r.isEmpty then s.setSession h { x with reasons := r }
    else (s.setSession h { x with reasons := r, state := .suspended }).raise .sessionSuspended h
  | .suspended =>
    if r.isEmpty then (s.setSession h { x with reasons := r, state := .active }).raise .sessionResumed h
    else s.setSession h { x with reasons := r }
  | .draining => s.setSession h { x with reasons := r }
  | .free => s
  | .closing => s

/-- The change reaches every session of a list, in its order. -/
def State.changeReasonsOf (s : State) (add remove : Reasons) (hs : List Nat) : State :=
  hs.foldl (fun t h => t.changeReasons add remove h) s

def Reasons.onlyCredit : Reasons := { Reasons.none with credit := true }
def Reasons.onlyZone : Reasons := { Reasons.none with zone := true }
def Reasons.onlyAgreement : Reasons := { Reasons.none with agreement := true }
def Reasons.onlyHold : Reasons := { Reasons.none with hold := true }

/-- The sessions on an account: not FREE, and it is their account. -/
def State.sessionsOn (s : State) (a : Nat) : List Nat := s.handlesOf fun x => x.notFree && x.account == a

/-- The sessions under an agreement. -/
def State.sessionsUnder (s : State) (i : Nat) : List Nat := s.handlesOf fun x => x.notFree && x.agreement == some i

/-- The value written to a PREPAID account acts on its sessions: CREDIT is removed from them above zero; at zero it is added and
E16 raised (R39, R40, R41). -/
def State.creditEffect (s : State) (a value : Nat) : State :=
  if value = 0 then
    (s.raise .creditExhausted a).changeReasonsOf Reasons.onlyCredit Reasons.none (s.sessionsOn a)
  else s.changeReasonsOf Reasons.none Reasons.onlyCredit (s.sessionsOn a)

/-- The drain order makes one live session DRAINING (R20). -/
def State.drainOne (s : State) (h : Nat) : State := s.setSession h { s.session h with state := .draining }

/-- The drain order (R20). -/
def State.drainOrder (s : State) : State := (s.handlesOf Session.live).foldl State.drainOne s

/-- The end-of-drain order closes every DRAINING session with COVERAGE_END, by rising handle (R21). -/
def State.endOfDrain (s : State) : State :=
  (s.handlesOf fun x => x.state == .draining).foldl (fun t h => t.closeSession h .coverageEnd) s

/-- The sum of the charge fields of a segment list. -/
def chargeSum (segments : List Segment) : Nat := (segments.map fun g => g.charge).sum

/-- The charges in the segment lists of the sessions that are not FREE (R27). -/
def State.openCharges (s : State) : Nat :=
  ((s.sessions.entries.filter fun e => e.2.notFree).map fun e => chargeSum e.2.segments).sum

/-- The flush empties the session table: every record that is not FREE becomes FREE without a record, and the owed-record list
is emptied (R27). -/
def State.emptyTable (s : State) : State :=
  let s1 := (s.handlesOf Session.notFree).foldl State.becomeFree s
  { s1 with owed := [] }

/-! ### Timers and the passage of time -/

/-- A timer started with a duration in seconds. -/
def seconds (n : Nat) : Nat := n * Config.periodsPerSecond

/-- `n` periods pass for a timer. A timer at 0 has come due and waits to be taken. -/
def passTimer (n : Nat) (t : Timer) : Timer := t.map fun r => r - n

def Link.pass (n : Nat) (l : Link) : Link :=
  { l with staleTimer := passTimer n l.staleTimer, qualTimer := passTimer n l.qualTimer, faultTimer := passTimer n l.faultTimer,
           holdoffTimer := passTimer n l.holdoffTimer }

def PortState.pass (n : Nat) (p : PortState) : PortState := { p with attention := passTimer n p.attention }

def Router.pass (n : Nat) (r : Router) : Router := ⟨r.cell.pass n, r.link.pass n, r.purser.pass n, r.details⟩

def Coverage.pass (n : Nat) (c : Coverage) : Coverage :=
  { c with candidate := c.candidate.map fun k => { k with timer := k.timer - n }, fixTimer := passTimer n c.fixTimer,
           restoreTimer := passTimer n c.restoreTimer, rampTimer := passTimer n c.rampTimer, graceTimer := passTimer n c.graceTimer }

def Bridge.pass (n : Nat) (b : Bridge) : Bridge :=
  { b with lowTimer := b.lowTimer.map fun e => e + n, gapTimer := passTimer n b.gapTimer, recoveryTimer := passTimer n b.recoveryTimer }

def Selector.pass (n : Nat) (x : Selector) : Selector :=
  { x with swap := x.swap.map fun w => { w with timer := w.timer - n }, dwellTimer := passTimer n x.dwellTimer }

/-- `n` periods pass for the clock: each is counted (R124). A second that is complete waits for its advance to be taken, and the
periods past its end count into the seconds after it (notes/assumptions/20.md). -/
def Clock.pass (n : Nat) (c : Clock) : Clock := { c with subSecond := c.subSecond + n }

/-- `n` periods of the time base pass, in which no event is taken: the clock counts on main or backup power, the timers of the
main domain run in RUNNING and FLUSHED, and an initialization goes on (R124, R179, R181). -/
def State.elapse (s : State) (n : Nat) : State :=
  let s1 : State := if s.clockRuns then { s with clock := s.clock.pass n } else s
  if s1.mainRuns then
    { s1 with
      rating := { s1.rating with settleTimer := passTimer n s1.rating.settleTimer }
      sweep := { s1.sweep with timer := passTimer n s1.sweep.timer }
      coverage := s1.coverage.pass n
      bridge := s1.bridge.pass n
      links := s1.links.map (Link.pass n)
      selector := s1.selector.pass n
      router := s1.router.pass n }
  else if s1.power.supervisor = .initializing then
    { s1 with power := { s1.power with initTime := s1.power.initTime + n } }
  else s1

/-- A timer of the main domain expires: the time that remains to it passes, and its rule acts. A timer that is stopped, or
that does not run because the main domain does not, has no expiry (notes/assumptions/1.md). -/
def State.onExpiry (s : State) (t : Timer) (rule : State → State) : State :=
  match t with
  | none => s
  | some r => if s.mainRuns then rule (s.elapse r) else s

end Sys2Proof.Machine
end

