-- ==== Sys2Proof/Machine/Rating.lean ====
section
/-! DEFINITION. The rating engine (8): boundaries and the settle window, the computation of charges, the debit of accounts (2.8),
the addition to segments (9.1), and the commands USAGE, LOAD_PRICE_ROW, SET_SURCHARGES, SET_DISCOUNTS and the event
SETTLE_WINDOW_EXPIRES. -/

namespace Sys2Proof.Machine

/-- A command that names a session by handle, for the sessions it acts on (R3, and the answers of R11, R18, R19, R22, R23, R146):
BAD_PARAM above 1,023, NOT_FOUND for a FREE record, CLOSING for a closing session. -/
def State.onServed (s : State) (handle : Half) (rule : Nat → State × Reply) : State × Reply :=
  match handleOf handle with
  | none => (s, Reply.bare .badParam)
  | some h =>
    match (s.session h).state with
    | .free => (s, Reply.bare .notFound)
    | .closing => (s, Reply.bare .closing)
    | _ => rule h

/-! ### Boundaries (8.2) -/

/-- The settle window expires: the pending context comes into force (R139). -/
def State.settleContext (s : State) : State :=
  { s with rating := ⟨s.rating.pendingContext.getD s.rating.inForce, none, none, none⟩ }

/-- A component arrives and is put into the newest context (R136): no boundary when that changes nothing; inside a window the
new context replaces the pending one (R138); otherwise a window starts with E6 (R137), which expires as it starts when the
settle window is 0 s (R140). -/
def State.sendComponent (s : State) (cause : WindowCause) (replace : Context → Context) : State :=
  let new := replace s.rating.newest
  if new = s.rating.newest then s
  else if s.rating.settleTimer.isSome then { s with rating := { s.rating with pendingContext := some new } }
  else
    let s1 : State :=
      { s with rating := ⟨s.rating.inForce, some new, some (seconds s.params.settleWindow), some cause⟩ }
    let s2 := s1.raise .ratingBoundary cause.code
    if s.params.settleWindow = 0 then s2.settleContext else s2

/-- The coverage controller sends the zone tariff class (R49, R57). -/
def State.sendZoneClass (s : State) (z : Nat) : State := s.sendComponent .zoneClass fun c => { c with zoneClass := z }
/-- The link selector sends the link cost class (R122). -/
def State.sendCostClass (s : State) (k : Nat) : State := s.sendComponent .costClass fun c => { c with costClass := k }
/-- The ship's clock sends the period (R131). -/
def State.sendPeriod (s : State) (p : Period) : State := s.sendComponent .period fun c => { c with period := p }

/-! ### The computation (8.5) -/

/-- A base raised by a percentage, rounded half up (R149, step 2). -/
def surcharged (base percent : Nat) : Nat := (base * (100 + percent) + 50) / 100

/-- A charge lowered by a percentage, rounded half up (R149, step 3). -/
def discounted (charge percent : Nat) : Nat := (charge * (100 - percent) + 50) / 100

/-- The charge of one service from its base, for a session of a plan, at the context in force (R149). -/
def State.serviceCharge (s : State) (plan base : Nat) : Nat :=
  let c := surcharged base (s.tariff.surcharges.get s.rating.inForce.costClass)
  match s.rating.inForce.period with
  | .peak => c
  | .offpeak => discounted c (s.tariff.discounts.get plan)

/-- The row a session of a plan is rated with (R142). -/
def State.rowInForce (s : State) (plan : Nat) : PriceRow := s.priceRow plan s.rating.inForce.zoneClass

/-- The sum of the discounted charges of a report, before the clamp of R150 (R148, R149). -/
def State.reportSum (s : State) (x : Session) (data voice messages : Nat) : Nat :=
  let row := s.rowInForce x.plan
  s.serviceCharge x.plan ((x.dataResidue + data) / row.dataIncrement * row.dataPrice)
    + s.serviceCharge x.plan ((x.voiceResidue + voice) / row.voiceIncrement * row.voicePrice)
    + s.serviceCharge x.plan (messages * row.messagePrice)

/-! ### The debit (2.8) -/

/-- A charge applied to an account, with the amount taken and the shortfall (R41, R42, R43). A CLOSED account takes no debit: no
session names one (R38), and the charge would all be shortfall (notes/assumptions/15.md). -/
def State.debit (s : State) (a charge : Nat) : State × Nat × Nat :=
  let c := s.account a
  if charge = 0 then (s, 0, 0)
  else
    match c.kind with
    | .prepaid =>
      let taken := min charge c.value
      let left := c.value - taken
      let s1 := s.setAccount a { c with value := left }
      let s2 := if c.threshold ≤ c.value ∧ left < c.threshold then s1.raise .lowBalance a else s1
      let s3 := if left = 0 then s2.creditEffect a 0 else s2
      (s3, taken, charge - taken)
    | .settlement =>
      let taken := min charge (Config.maxValue - c.value)
      let s1 := s.setAccount a { c with value := c.value + taken }
      (if taken < charge then s1.raise .settlementSaturated a else s1, taken, charge - taken)
    | .closed => (s, 0, charge)

/-! ### Segments (9.1) -/

/-- An addition into a segment: each quantity saturates at 2^32 − 1, the charge at 2^48 − 1 (R158). -/
def Segment.add (g : Segment) (data voice messages charge : Nat) : Segment :=
  { g with
    data := min Config.maxQuantity (g.data + data)
    voice := min Config.maxQuantity (g.voice + voice)
    messages := min Config.maxQuantity (g.messages + messages)
    charge := min Config.maxValue (g.charge + charge) }

/-- A new segment with an addition's figures (R159, R160). -/
def Segment.opened (key : Context) (data voice messages charge : Nat) : Segment :=
  ⟨key, false, data, voice, messages, charge⟩

/-- An addition to a session's segment list, keyed by the context in force (R158 to R161). A list that is not FREE is never
empty (R157); an empty one would be given its first segment. -/
def State.addToSegments (s : State) (h data voice messages charge : Nat) : State :=
  let x := s.session h
  let key := s.rating.inForce
  match x.segments.getLast? with
  | none => s.setSession h { x with segments := [Segment.opened key data voice messages charge] }
  | some g =>
    if g.key = key then
      s.setSession h { x with segments := x.segments.dropLast ++ [g.add data voice messages charge] }
    else if x.segments.length < Config.segmentLimit then
      s.setSession h { x with segments := x.segments ++ [Segment.opened key data voice messages charge] }
    else if s.queueHasRoom then
      let part := min 255 (x.part + 1)
      (s.appendRecord (s.stamp (.interim (x.who h) part x.segments))).setSession h
        { x with part := part, segments := [Segment.opened key data voice messages charge] }
    else
      (s.setSession h { x with segments := x.segments.dropLast ++ [{ g.add data voice messages charge with mixed := true }] }).raise
        .segmentMixed h

/-- A charge is handed on (8.6): debited, its shortfall added to the session, and itemized whole; also the amount taken and the
shortfall (R151, R152). -/
def State.takeCharge (s : State) (h data voice messages charge : Nat) : State × Nat × Nat :=
  let r := s.debit (s.session h).account charge
  let x := r.1.session h
  let s2 := r.1.setSession h { x with shortfall := min Config.maxValue (x.shortfall + r.2.2) }
  (s2.addToSegments h data voice messages charge, r.2)

/-! ### A report (R147) -/

/-- What rating a report hands back: the state after it, the report charge, the amount taken and the shortfall. -/
structure Rated where
  state : State
  charge : Nat
  taken : Nat
  shortfall : Nat

/-- The four stages of R147: the units and residues (R148), the report charge (R149, R150), the debit (R151), the segments
(R152). -/
def State.rateReport (s : State) (h data voice messages : Nat) : Rated :=
  let x := s.session h
  let row := s.rowInForce x.plan
  let sum := s.reportSum x data voice messages
  let charge := min sum Config.maxCharge
  let s1 := s.setSession h
    { x with dataResidue := (x.dataResidue + data) % row.dataIncrement, voiceResidue := (x.voiceResidue + voice) % row.voiceIncrement }
  let s2 := if Config.maxCharge < sum then s1.raise .chargeClamped h else s1
  let r := s2.takeCharge h data voice messages charge
  ⟨r.1, charge, r.2.1, r.2.2⟩

/-- Close rounding of the data residue: one increment at the price in force, when it is not zero (R153). -/
def State.roundData (s : State) (h : Nat) : State :=
  let x := s.session h
  if x.dataResidue = 0 then s
  else
    let r := s.takeCharge h 0 0 0 (s.serviceCharge x.plan (s.rowInForce x.plan).dataPrice)
    r.1.setSession h { r.1.session h with dataResidue := 0 }

/-- Close rounding of the voice residue (R153). -/
def State.roundVoice (s : State) (h : Nat) : State :=
  let x := s.session h
  if x.voiceResidue = 0 then s
  else
    let r := s.takeCharge h 0 0 0 (s.serviceCharge x.plan (s.rowInForce x.plan).voicePrice)
    r.1.setSession h { r.1.session h with voiceResidue := 0 }

/-- The lapse count of a session is set to 0 (R11). -/
def State.refresh (s : State) (h : Nat) : State := s.setSession h { s.session h with lapseCount := 0 }

/-- A session's final or running usage rated, as USAGE and the first step of RELEASE do (R146, R18): the voice quantity clamped,
the lapse count set to 0, and the status the report earns. -/
def State.reportUsage (s : State) (h : Nat) (data voice : Half) (messages : Byte) : Rated × Status :=
  let v := min voice.toNat Config.maxVoice
  let status : Status :=
    if (s.session h).flags.barred data.toNat v messages.toNat then .barredUsage
    else if Config.maxVoice < voice.toNat then .clamped
    else .ok
  ((s.refresh h).rateReport h data.toNat v messages.toNat, status)

/-! ### Commands -/

/-- USAGE (R146, R147). -/
def execUsage (p : Port) (handle data voice : Half) (messages : Byte) (s : State) : Host.Outcome State Fault Refusal :=
  .next (s.command p [.cell] fun s => s.onServed handle fun h =>
    let r := s.reportUsage h data voice messages
    let x := r.1.state.session h
    (r.1.state, ⟨r.2, beBytes 4 r.1.charge ++ beBytes 4 r.1.taken ++ beBytes 4 r.1.shortfall ++ beBytes 2 x.dataResidue
      ++ beBytes 1 x.voiceResidue ++ beBytes 1 x.state.code ++ [x.reasons.byte]⟩))

/-- A price row's five fields as they are read back (R202). -/
def PriceRow.bytes (r : PriceRow) : List Byte :=
  beBytes 2 r.dataPrice ++ beBytes 2 r.dataIncrement ++ beBytes 2 r.voicePrice ++ beBytes 1 r.voiceIncrement ++ beBytes 2 r.messagePrice

/-- OK, or CLAMPED when a value was clamped (R189). -/
def clampStatus (clamped : Bool) : Status := if clamped then .clamped else .ok

/-- LOAD_PRICE_ROW (R143). -/
def execLoadPriceRow (p : Port) (plan zoneClass : Byte) (dataPrice dataIncrement voicePrice : Half) (voiceIncrement : Byte)
    (messagePrice : Half) (s : State) : Host.Outcome State Fault Refusal :=
  .next (s.command p [.purser] fun s =>
    if plan.toNat ≤ 7 ∧ zoneClass.toNat ≤ 7 then
      let di := clampTo 1 1024 dataIncrement.toNat
      let vi := clampTo 1 60 voiceIncrement.toNat
      let k := rowNumber plan.toNat zoneClass.toNat
      ({ s with tariff := { s.tariff with
          rows := s.tariff.rows.set PriceRow.cold k ⟨dataPrice.toNat, di, voicePrice.toNat, vi, messagePrice.toNat⟩ } },
        ⟨clampStatus (di != dataIncrement.toNat || vi != voiceIncrement.toNat), (s.tariff.rows.get PriceRow.cold k).bytes⟩)
    else (s, Reply.bare .badParam))

/-- SET_SURCHARGES (R144). -/
def execSetSurcharges (p : Port) (s0 s1 s2 s3 : Half) (s : State) : Host.Outcome State Fault Refusal :=
  .next (s.command p [.purser] fun s =>
    let old := s.tariff.surcharges
    ({ s with tariff := { s.tariff with
        surcharges := ⟨min 400 s0.toNat, min 400 s1.toNat, min 400 s2.toNat, min 400 s3.toNat⟩ } },
      ⟨clampStatus ([s0, s1, s2, s3].any fun x => decide (400 < x.toNat)),
        beBytes 2 old.s0 ++ beBytes 2 old.s1 ++ beBytes 2 old.s2 ++ beBytes 2 old.s3⟩))

/-- SET_DISCOUNTS (R145). -/
def execSetDiscounts (p : Port) (q0 q1 q2 q3 q4 q5 q6 q7 : Byte) (s : State) : Host.Outcome State Fault Refusal :=
  .next (s.command p [.purser] fun s =>
    let old := s.tariff.discounts
    let c := fun (x : Byte) => min 100 x.toNat
    ({ s with tariff := { s.tariff with discounts := ⟨c q0, c q1, c q2, c q3, c q4, c q5, c q6, c q7⟩ } },
      ⟨clampStatus ([q0, q1, q2, q3, q4, q5, q6, q7].any fun x => decide (100 < x.toNat)),
        [old.q0, old.q1, old.q2, old.q3, old.q4, old.q5, old.q6, old.q7].map (BitVec.ofNat 8)⟩))

/-- SETTLE_WINDOW_EXPIRES (R139). -/
def execSettleWindowExpires (s : State) : Host.Outcome State Fault Refusal :=
  .next (s.onExpiry s.rating.settleTimer State.settleContext)

end Sys2Proof.Machine
end

