-- ==== Sys2Proof/Machine/Selector.lean ====
section
/-! DEFINITION. The link selector (6): the consideration, start, completion and abandonment of swaps, the link state changes it
owns, and the command SWAP_CONFIRM with the events SWAP_TIMER_EXPIRES and DWELL_TIMER_EXPIRES. -/

namespace Sys2Proof.Machine

def State.link (s : State) (i : Slot) : Link := s.links.get i
def State.setLink (s : State) (i : Slot) (l : Link) : State := { s with links := s.links.set i l }

/-- A swap starts onto slot `b` (R111). -/
def State.startSwap (s : State) (b : Slot) : State :=
  let s1 : State := { s with selector := { s.selector with
    swap := some ⟨b, s.carrier, seconds s.params.swapTimeout⟩, lateMark := none } }
  (s1.setLink b { s1.link b with state := .ramping }).raise .swapBegin b.val

/-- The selector considers starting a swap (R108): nothing while one is in flight or no link is in STANDBY; otherwise a swap onto
the best standby when the forced or the voluntary condition holds (R109, R110). -/
def State.considerSwap (s : State) : State :=
  if s.selector.swap.isSome then s
  else
    match s.bestStandby with
    | none => s
    | some b => if s.forced || s.voluntary b then s.startSwap b else s

/-- A link enters HOLDOFF; `absent` when the report that caused the entry had present false (R100). -/
def Link.enterHoldoff (l : Link) (holdoff : Nat) (absent : Bool) : Link :=
  { l with state := .holdoff, holdoffTimer := some (seconds holdoff), healthy := false, qualTimer := none, faultTimer := none,
           absent := absent }

/-- The selector's part in a carrier's fault: the old carrier of a swap in flight becomes absent, shore dark begins with E11,
and a swap is considered (R115, R121, R108). -/
def State.carrierFaulted (s : State) (i : Slot) : State :=
  let s1 : State :=
    match s.selector.swap with
    | some w => if w.oldCarrier = some i then { s with selector := { s.selector with swap := some { w with oldCarrier := none } } } else s
    | none => s
  (s1.raise .shoreDark i.val).considerSwap

/-- The carrier faults: HOLDOFF, E10, and the selector is told (R99, R100). -/
def State.faultLink (s : State) (i : Slot) (absent : Bool) : State :=
  ((s.setLink i ((s.link i).enterHoldoff s.params.holdoff absent)).raise .linkFault i.val).carrierFaulted i

/-- The record of the swap in flight is removed and E9 raised for the candidate; the selector then considers (R119). -/
def State.dropSwap (s : State) (i : Slot) : State :=
  let s1 : State := { s with selector := { s.selector with swap := none } }
  (s1.raise .swapAbandoned i.val).considerSwap

/-- A hard-failure report of the candidate abandons the swap (R113). -/
def State.abandonFailed (s : State) (i : Slot) (absent : Bool) : State :=
  (s.setLink i ((s.link i).enterHoldoff s.params.holdoff absent)).dropSwap i

/-- The swap timer expires: the candidate enters HOLDOFF, absent mark clear, and the late mark names it (R118). -/
def State.abandonLate (s : State) : State :=
  match s.selector.swap with
  | none => s
  | some w =>
    let s1 := s.setLink w.candidate ((s.link w.candidate).enterHoldoff s.params.holdoff false)
    ({ s1 with selector := { s1.selector with lateMark := some w.candidate } } : State).dropSwap w.candidate

/-- The old carrier leaves CARRYING at completion: to STANDBY when healthy and eligible, to IDLE otherwise (R116, step 2). -/
def Link.retire (l : Link) : Link :=
  { l with state := if l.healthy && l.eligible then .standby else .idle, faultTimer := none,
           fresh := if l.healthy && l.eligible then l.fresh else false }

/-- The candidate enters CARRYING; its fault timer starts when its healthy flag is clear (R99). -/
def Link.enterCarrying (l : Link) (faultQual : Nat) : Link :=
  { l with state := .carrying, faultTimer := if l.healthy then l.faultTimer else some (seconds faultQual) }

/-- The swap onto `w.candidate` completes, in the order of R116. The consideration the old carrier's entry into STANDBY causes
is the one of step 7; a swap dwell of 0 s expires as it starts and causes another (R105). -/
def State.completeSwap (s : State) (w : Swap) : State :=
  let s1 : State := { s with selector := { s.selector with swap := none } }
  let s2 :=
    match w.oldCarrier with
    | some c => s1.setLink c (s1.link c).retire
    | none => s1
  let s3 := s2.setLink w.candidate ((s2.link w.candidate).enterCarrying s2.params.faultQual)
  let s4 : State := { s3 with selector := { s3.selector with dwellTimer := some (seconds s3.params.swapDwell) } }
  let s5 := (s4.raise .swapDone w.candidate.val).sendCostClass (s4.linkConfig.get w.candidate).costClass
  let s6 := s5.considerSwap
  if s6.params.swapDwell = 0 then ({ s6 with selector := { s6.selector with dwellTimer := none } } : State).considerSwap else s6

/-- The two response bytes of *Swap confirm*: the CARRYING slot and the candidate, 255 when there is none (6.5). -/
def State.swapBytes (s : State) : List Byte :=
  [slotByte s.carrier, slotByte (s.selector.swap.map Swap.candidate)]

/-- SWAP_CONFIRM (R116, R117). A confirm refused with BAD_PARAM gives no response bytes (notes/assumptions/32.md). -/
def execSwapConfirm (p : Port) (slot : Byte) (s : State) : Host.Outcome State Fault Refusal :=
  .next (s.command p [.link] fun s =>
    match slotOf slot with
    | none => (s, Reply.bare .badParam)
    | some i =>
      match s.selector.swap with
      | some w =>
        if w.candidate = i then (s.completeSwap w, ⟨.ok, (s.completeSwap w).swapBytes⟩)
        else (s, ⟨if s.selector.lateMark = some i then .tooLate else .notRamping, s.swapBytes⟩)
      | none => (s, ⟨if s.selector.lateMark = some i then .tooLate else .notRamping, s.swapBytes⟩))

/-- SWAP_TIMER_EXPIRES (R118). -/
def execSwapTimerExpires (s : State) : Host.Outcome State Fault Refusal :=
  .next (s.onExpiry (s.selector.swap.map Swap.timer) State.abandonLate)

/-- DWELL_TIMER_EXPIRES (R105). -/
def execDwellTimerExpires (s : State) : Host.Outcome State Fault Refusal :=
  .next (s.onExpiry s.selector.dwellTimer fun s =>
    ({ s with selector := { s.selector with dwellTimer := none } } : State).considerSwap)

end Sys2Proof.Machine
end

