-- ==== Sys2Proof/Machine/Links.lean ====
section
/-! DEFINITION. The link table (5): reports, eligibility, the link states and their timers, and the commands LINK_REPORT,
LOAD_LINK, READ_LINK with the events STALE_TIMER_EXPIRES, LINK_QUALIFICATION_EXPIRES, FAULT_TIMER_EXPIRES and
HOLDOFF_TIMER_EXPIRES. -/

namespace Sys2Proof.Machine

/-! ### Changes of one link -/

/-- A link enters DOWN (R95). -/
def Link.enterDown (l : Link) : Link :=
  { l with state := .down, raw := 0, smoothed := 0, healthy := false, stale := false, fresh := false,
           staleTimer := none, qualTimer := none }

/-- A QUALIFYING or STANDBY link returns to IDLE (R97, R98). -/
def Link.enterIdle (l : Link) : Link := { l with state := .idle, qualTimer := none }

/-- An IDLE link that is healthy and eligible enters QUALIFYING (R96). -/
def Link.enterQualifying (l : Link) (linkQual : Nat) : Link :=
  { l with state := .qualifying, qualTimer := some (seconds linkQual) }

/-- The eligible flag judged afresh, and what a change of it does to the link's state (R94). A candidate that loses it returns
to IDLE (R114); what the selector does then is `State.judgeLinks`. -/
def Link.judge (l : Link) (now : Bool) (linkQual : Nat) : Link :=
  if l.eligible = now then l
  else
    let m : Link := { l with eligible := now }
    match l.state with
    | .idle => if now && m.healthy then m.enterQualifying linkQual else m
    | .qualifying => if now then m else m.enterIdle
    | .standby => if now then m else m.enterIdle
    | .ramping => if now then m else { m with state := .idle }
    | _ => m

/-- The eligible flags of some slots judged afresh, each slot from its own state; then the selector is told: of the candidate's
loss, which abandons the swap (R114), and of the carrier's (R94, R108). Every slot is judged before the selector is told
(notes/assumptions/9.md). -/
def State.judgeLinks (s : State) (slots : List Slot) : State :=
  let s1 := slots.foldl (fun t i => t.setLink i ((t.link i).judge (t.eligibleNow i) t.params.linkQual)) s
  let lost := fun (i : Slot) => (s.link i).eligible && !(s1.link i).eligible
  let s2 :=
    match s.selector.swap with
    | some w => if lost w.candidate then s1.dropSwap w.candidate else s1
    | none => s1
  match s.carrier with
  | some c => if lost c then s2.considerSwap else s2
  | none => s2

/-! ### Reports (5.2) -/

/-- Stages 1 to 4 of a report for a loaded slot (R87): the fields and the raw figure stored, a DOWN link that is present brought
to IDLE (R95), the stale timer started anew, the smoothed figure and the healthy flag (R89, R90). -/
def Link.applyReport (l : Link) (par : Params) (present : Bool) (quality loss latency : Nat) : Link :=
  let l1 : Link := { l with present := present, quality := quality, loss := loss, latency := latency,
                            raw := rawFigure quality loss latency }
  let l2 : Link := if l1.state = .down ∧ present then { l1 with state := .idle, fresh := true, healthy := false } else l1
  if l2.state = .down then l2
  else
    let l3 : Link := { l2 with staleTimer := some (seconds par.staleTime), stale := false }
    if l3.state = .holdoff then l3
    else
      let figure := smoothFigure l3.fresh l3.smoothed l3.raw
      { l3 with smoothed := figure, fresh := false, healthy := judgeHealthy par.healthUpper par.healthLower l3.healthy figure }

/-- Stages 5 and 6: the link state acts on the report (R91 and the rules of 5.6). `wasHealthy` is the flag before the report. -/
def State.actOnReport (s : State) (i : Slot) (wasHealthy present hard : Bool) : State :=
  let l := s.link i
  match l.state with
  | .down => s
  | .idle =>
    if !present then s.setLink i l.enterDown
    else if !hard && l.healthy && l.eligible then s.setLink i (l.enterQualifying s.params.linkQual)
    else s
  | .qualifying =>
    if !present then s.setLink i l.enterDown
    else if hard || !l.healthy then s.setLink i l.enterIdle
    else s
  | .standby =>
    if !present then s.setLink i l.enterDown
    else if hard || !l.healthy then s.setLink i l.enterIdle
    else s
  | .ramping => if hard then s.abandonFailed i (!present) else s
  | .carrying =>
    if hard then s.faultLink i (!present)
    else if l.healthy then s.setLink i { l with faultTimer := none }
    else if wasHealthy then s.setLink i { l with faultTimer := some (seconds s.params.faultQual) }
    else s
  | .holdoff => if !present then s.setLink i { l with absent := true } else s

/-- A report for an unloaded slot stores its fields; in HOLDOFF it also acts as R100 lays down, its figures held (R86). -/
def Link.storeUnloaded (l : Link) (par : Params) (present : Bool) (quality loss latency : Nat) : Link :=
  let m : Link := { l with present := present, quality := quality, loss := loss, latency := latency }
  if l.state = .holdoff then
    { m with staleTimer := some (seconds par.staleTime), stale := false, absent := m.absent || !present }
  else m

/-- A report that is taken, its quality and loss clamped (R86, R87). -/
def State.takeReport (s : State) (i : Slot) (present : Bool) (quality loss latency : Nat) : State :=
  let l := s.link i
  if (s.linkConfig.get i).loaded then
    (s.setLink i (l.applyReport s.params present quality loss latency)).actOnReport i l.healthy present
      (hardFailure s.params.hardLossLimit present loss)
  else s.setLink i (l.storeUnloaded s.params present quality loss latency)

/-- LINK_REPORT (R86). -/
def execLinkReport (p : Port) (slot present quality : Byte) (loss latency : Half) (s : State) : Host.Outcome State Fault Refusal :=
  .next (s.command p [.link] fun s =>
    match slotOf slot, boolOf present with
    | some i, some here =>
      let t := s.takeReport i here (min 100 quality.toNat) (min 1000 loss.toNat) latency.toNat
      let l := t.link i
      (t, ⟨clampStatus (decide (100 < quality.toNat) || decide (1000 < loss.toNat)),
        beBytes 1 l.state.code ++ beBytes 1 l.smoothed ++ [flagByte l.healthy, flagByte l.eligible]⟩)
    | _, _ => (s, Reply.bare .badParam))

/-! ### Configuration (5.1) -/

/-- A slot is unloaded: from IDLE, QUALIFYING or STANDBY the link enters DOWN; DOWN and HOLDOFF stay (R85). A link that stays in
DOWN stays there with its figures at 0 (R86). -/
def State.unloadLink (s : State) (i : Slot) : State :=
  let l := s.link i
  let m : Link :=
    match l.state with
    | .down => l.enterDown
    | .idle => l.enterDown
    | .qualifying => l.enterDown
    | .standby => l.enterDown
    | _ => l
  ({ s with linkConfig := s.linkConfig.set i LinkConfig.unloaded } : State).setLink i { m with eligible := false }

/-- A slot is loaded or reloaded (R85). A load that carries the present configuration acts on nothing. -/
def State.loadLink (s : State) (i : Slot) (c : LinkConfig) : State :=
  if s.linkConfig.get i = c then s
  else ({ s with linkConfig := s.linkConfig.set i c } : State).judgeLinks [i]

/-- A slot in RAMPING or CARRYING. -/
def Link.engaged (l : Link) : Bool := l.state == .ramping || l.state == .carrying

/-- LOAD_LINK (R84). -/
def execLoadLink (p : Port) (slot loaded kind costClass rank : Byte) (zones : Half) (s : State) : Host.Outcome State Fault Refusal :=
  .next (s.command p [.purser] fun s =>
    match slotOf slot, boolOf loaded with
    | some i, some false =>
      if (s.link i).engaged then (s, Reply.bare .busy) else (s.unloadLink i, Reply.bare .ok)
    | some i, some true =>
      match linkKindOf kind with
      | some k =>
        if costClass.toNat ≤ 3 ∧ 1 ≤ rank.toNat ∧ rank.toNat ≤ 15 then
          let old := s.linkConfig.get i
          if old.loaded && (s.link i).engaged && (old.kind != k || old.costClass != costClass.toNat) then (s, Reply.bare .busy)
          else (s.loadLink i ⟨true, k, costClass.toNat, rank.toNat, zones⟩, Reply.bare .ok)
        else (s, Reply.bare .badParam)
      | none => (s, Reply.bare .badParam)
    | _, _ => (s, Reply.bare .badParam))

/-- READ_LINK (R102, R202). -/
def execReadLink (p : Port) (slot : Byte) (s : State) : Host.Outcome State Fault Refusal :=
  .next (s.command p anyRole fun s =>
    match slotOf slot with
    | none => (s, Reply.bare .badParam)
    | some i =>
      let c := s.linkConfig.get i
      let l := s.link i
      (s, ⟨.ok, [flagByte c.loaded] ++ beBytes 1 c.kind.code ++ beBytes 1 c.costClass ++ beBytes 1 c.rank ++ beBytes 2 c.zones.toNat
        ++ beBytes 1 l.state.code ++ [flagByte l.present] ++ beBytes 1 l.quality ++ beBytes 2 l.loss ++ beBytes 2 l.latency
        ++ beBytes 1 l.raw ++ beBytes 1 l.smoothed
        ++ [flagByte l.healthy, flagByte l.stale, flagByte l.eligible, flagByte l.fresh, flagByte l.absent]
        ++ beBytes 2 (remainingSeconds l.staleTimer) ++ beBytes 2 (remainingSeconds l.qualTimer)
        ++ beBytes 2 (remainingSeconds l.faultTimer) ++ beBytes 2 (remainingSeconds l.holdoffTimer)⟩))

/-! ### Timers -/

/-- A link goes stale (R92), and is not fresh from then on (R89; notes/assumptions/29.md). -/
def State.staleLink (s : State) (i : Slot) : State :=
  let l := s.link i
  let m : Link := { l with smoothed := 0, healthy := false, stale := true, fresh := false, staleTimer := none }
  let n : Link :=
    match l.state with
    | .qualifying => m.enterIdle
    | .standby => m.enterIdle
    | .carrying => if l.healthy then { m with faultTimer := some (seconds s.params.faultQual) } else m
    | _ => m
  (s.setLink i n).raise .linkStale i.val

/-- A link has qualified: it enters STANDBY and the selector is told (R97, R98). -/
def State.qualifyLink (s : State) (i : Slot) : State :=
  let l := s.link i
  if l.state = .qualifying then (s.setLink i { l with state := .standby, qualTimer := none }).considerSwap
  else s.setLink i { l with qualTimer := none }

/-- A carrier's fault timer expires (R99). -/
def State.faultTimerLink (s : State) (i : Slot) : State :=
  if (s.link i).state = .carrying then s.faultLink i false else s.setLink i { s.link i with faultTimer := none }

/-- A link leaves HOLDOFF: to DOWN when its absent mark is set or its slot is unloaded, to IDLE otherwise (R100). -/
def State.endHoldoff (s : State) (i : Slot) : State :=
  let l : Link := { s.link i with holdoffTimer := none }
  if l.state = .holdoff then
    if l.absent || !(s.linkConfig.get i).loaded then s.setLink i { l.enterDown with absent := false }
    else s.setLink i { l with state := .idle, smoothed := 0, fresh := true, healthy := false, absent := false }
  else s.setLink i l

/-- STALE_TIMER_EXPIRES (R92). -/
def execStaleTimerExpires (slot : Slot) (s : State) : Host.Outcome State Fault Refusal :=
  .next (s.onExpiry (s.link slot).staleTimer fun s => s.staleLink slot)

/-- LINK_QUALIFICATION_EXPIRES (R97). -/
def execLinkQualificationExpires (slot : Slot) (s : State) : Host.Outcome State Fault Refusal :=
  .next (s.onExpiry (s.link slot).qualTimer fun s => s.qualifyLink slot)

/-- FAULT_TIMER_EXPIRES (R99). -/
def execFaultTimerExpires (slot : Slot) (s : State) : Host.Outcome State Fault Refusal :=
  .next (s.onExpiry (s.link slot).faultTimer fun s => s.faultTimerLink slot)

/-- HOLDOFF_TIMER_EXPIRES (R100). -/
def execHoldoffTimerExpires (slot : Slot) (s : State) : Host.Outcome State Fault Refusal :=
  .next (s.onExpiry (s.link slot).holdoffTimer fun s => s.endHoldoff slot)

end Sys2Proof.Machine
end

