-- ==== Sys2Proof/Machine/Coverage.lean ====
section
/-! DEFINITION. Zones and the coverage controller (3): the coverage states, the effects of a change of zone, zone reports and the
candidate, and the commands LOAD_ZONE, READ_ZONE, ZONE_REPORT with the events FIX_TIMER_EXPIRES, CANDIDATE_QUALIFIES,
RESTORE_TIMER_EXPIRES, RAMP_TIMER_EXPIRES and GRACE_TIMER_EXPIRES. -/

namespace Sys2Proof.Machine

/-! ### The coverage states (3.5) -/

/-- A zone as an event's detail, 255 for UNKNOWN or none (R201). -/
def zoneDetail (z : Option Nat) : Nat := z.getD 255

/-- A change of coverage state: the permit follows the new state (R66) and E1 is raised with the current zone. -/
def State.changeCoverage (s : State) (c : Coverage) : State :=
  ({ s with coverage := { c with permit := c.state.permits } } : State).raise .coverageChanged (zoneDetail c.zone)

/-- RAMPING gives way to RADIATING (R61). -/
def State.enterRadiating (s : State) : State :=
  s.changeCoverage { s.coverage with state := .radiating, rampTimer := none, pacing := 0 }

/-- QUALIFYING gives way to RAMPING (R60), and at once to RADIATING with a ramp period of 0 s (R61). -/
def State.enterRamping (s : State) : State :=
  let s1 := s.changeCoverage { s.coverage with
    state := .ramping, restoreTimer := none, rampTimer := some (seconds s.params.rampPeriod), pacing := s.params.admissionPace }
  if s.params.rampPeriod = 0 then s1.enterRadiating else s1

/-- SILENT gives way to QUALIFYING (R59), and at once to RAMPING with a restore delay of 0 s. -/
def State.enterQualifying (s : State) : State :=
  let s1 := s.changeCoverage { s.coverage with state := .qualifying, restoreTimer := some (seconds s.params.restoreDelay) }
  if s.params.restoreDelay = 0 then s1.enterRamping else s1

/-- The coverage fields of SILENT: every timer of 3.5 stopped, the pacing count 0, no grace in force (R59). -/
def Coverage.silenced (c : Coverage) : Coverage :=
  { c with state := .silent, restoreTimer := none, rampTimer := none, graceTimer := none, graceInForce := 0, pacing := 0 }

/-- A withdrawal ends (R64): SILENT, the end-of-drain order, and the judgement on entry into SILENT (R59). -/
def State.endWithdrawal (s : State) : State :=
  let s1 := (s.changeCoverage s.coverage.silenced).endOfDrain
  if s1.radiationAllowed then s1.enterQualifying else s1

/-- A withdrawal begins with a grace (R62); it ends at once when no session is served or the grace is 0 s. -/
def State.beginWithdrawal (s : State) (grace : Nat) : State :=
  let s1 := (s.changeCoverage { s.coverage with state := .withdrawing, rampTimer := none, pacing := 0 }).drainOrder
  let s2 : State := { s1 with coverage := { s1.coverage with graceTimer := some (seconds grace), graceInForce := grace } }
  if s2.servedCount = 0 ∨ grace = 0 then s2.endWithdrawal else s2

/-- Radiation stops being allowed, the cause neither SILENCE nor the flush (R60, R62). -/
def State.loseRadiation (s : State) (grace : Nat) : State :=
  match s.coverage.state with
  | .silent => s
  | .qualifying => s.changeCoverage s.coverage.silenced
  | .ramping => s.beginWithdrawal grace
  | .radiating => s.beginWithdrawal grace
  | .withdrawing => s

/-- Radiation becomes allowed (R59); a withdrawal that has begun is not reversed (R62). -/
def State.gainRadiation (s : State) : State :=
  match s.coverage.state with
  | .silent => s.enterQualifying
  | .qualifying => s
  | .ramping => s
  | .radiating => s
  | .withdrawing => s

/-- The conditions judged afresh against the judgement before the event (R58). A judgement that finds them as they were changes
nothing; `grace` is the one the cause of a loss gives (R63). -/
def State.judgeCoverage (s : State) (wasAllowed : Bool) (grace : Nat) : State :=
  if s.radiationAllowed = wasAllowed then s
  else if wasAllowed then s.loseRadiation grace
  else s.gainRadiation

/-- SILENCE taken, or the start of a flush, ends service at once (R65). -/
def State.endOfService (s : State) : State :=
  match s.coverage.state with
  | .silent => s
  | .qualifying => s.changeCoverage s.coverage.silenced
  | .ramping => (s.changeCoverage s.coverage.silenced).drainOrder.endOfDrain
  | .radiating => (s.changeCoverage s.coverage.silenced).drainOrder.endOfDrain
  | .withdrawing => (s.changeCoverage s.coverage.silenced).drainOrder.endOfDrain

/-- The session table reports the served count after a close: a withdrawal ends when it has reached zero (R64). -/
def State.reportServed (s : State) : State :=
  if s.coverage.state = .withdrawing ∧ s.servedCount = 0 then s.endWithdrawal else s

/-! ### A change of current zone (3.3) -/

/-- A served ROAMING session is judged against the new zone by its agreement (R57). -/
def State.zoneReason (s : State) (z h : Nat) : State :=
  match (s.session h).agreement with
  | none => s
  | some i =>
    if zoneIn z (s.agreement i).zones then s.changeReasons Reasons.none Reasons.onlyZone h
    else s.changeReasons Reasons.onlyZone Reasons.none h

/-- The ZONE changes of a new current zone reach every served ROAMING session, by rising handle (R57;
notes/assumptions/11.md). -/
def State.zoneReasons (s : State) (z : Nat) : State :=
  (s.handlesOf fun x => x.served && x.agreement.isSome).foldl (fun t h => t.zoneReason z h) s

/-- A state in which a loss of radiation begins a withdrawal (R62). -/
def CoverageState.inService (c : CoverageState) : Bool :=
  match c with
  | .ramping => true
  | .radiating => true
  | _ => false

/-- Zone `z` qualifies (R56, R57). When the change begins a withdrawal, the drain order comes with the ZONE changes and no E14 or
E15 is raised for them. -/
def State.qualifyZone (s : State) (z : Nat) : State :=
  let was := s.radiationAllowed
  let s1 := ({ s with coverage := { s.coverage with zone := some z, lastZone := some z, candidate := none } } : State).raise
    .zoneChanged z
  let withdrawing := was && !s1.radiationAllowed && s1.coverage.state.inService
  let s2 := if withdrawing then s1.drainOrder else s1
  let s3 := (s2.zoneReasons z).judgeCoverage was (s.zoneGrace (some z))
  (s3.judgeLinks allSlots).sendZoneClass (s.zoneRecord z).tariffClass

/-- The fix timer expires (R52). -/
def State.loseFix (s : State) : State :=
  let was := s.radiationAllowed
  let s1 := ({ s with coverage := { s.coverage with zone := none, candidate := none, fixTimer := none } } : State).raise
    .zoneUnknown (zoneDetail s.coverage.lastZone)
  if s.coverage.zone.isSome then
    (s1.judgeCoverage was (s.zoneGrace s.coverage.lastZone)).judgeLinks allSlots
  else s1

/-! ### Zone reports (3.2) -/

/-- The qualification time of a kind (R54). -/
def Params.qualificationTime (p : Params) (k : ZoneKind) : Nat :=
  match k with
  | .permissive => p.permissiveQual
  | .restrictive => p.restrictiveQual

/-- The reported zone becomes the candidate with its timer started, and qualifies at once with a time of 0 s (R54, R56). -/
def State.setCandidate (s : State) (z : Nat) (k : ZoneKind) : State :=
  let time := s.params.qualificationTime k
  if time = 0 then s.qualifyZone z
  else { s with coverage := { s.coverage with candidate := some ⟨z, k, seconds time⟩ } }

/-- A report of a zone that differs from the current zone acts by the table of R54. -/
def State.reportOther (s : State) (z : Nat) (k : ZoneKind) : State :=
  match s.coverage.candidate with
  | none => s.setCandidate z k
  | some c =>
    if c.zone = z then s
    else
      match c.kind, k with
      | .permissive, _ => s.setCandidate z k
      | .restrictive, .permissive => s
      | .restrictive, .restrictive => { s with coverage := { s.coverage with candidate := some { c with zone := z } } }

/-- A report of the current zone drops a permissive candidate and leaves a restrictive one (R53). -/
def State.reportCurrent (s : State) : State :=
  match s.coverage.candidate with
  | some ⟨_, .permissive, _⟩ => { s with coverage := { s.coverage with candidate := none } }
  | _ => s

/-- A report of zone `z`: the fix timer is started anew (R51, R52), and the report acts on the candidate by R53, R54 or R55. -/
def State.takeZone (s : State) (z : Nat) : State :=
  let s1 : State := { s with coverage := { s.coverage with fixTimer := some (seconds s.params.fixTimeout) } }
  let kind := (s.zoneRecord z).kind
  match s.coverage.zone with
  | some current => if z = current then s1.reportCurrent else s1.reportOther z kind
  | none =>
    match kind with
    | .restrictive => s1.qualifyZone z
    | .permissive => s1.reportOther z .permissive

/-- The two response bytes of *Zone report* (R51). -/
def State.zoneBytes (s : State) : List Byte := [optByte s.coverage.zone] ++ beBytes 1 s.coverage.state.code

/-- ZONE_REPORT (R51). -/
def execZoneReport (p : Port) (zone : Byte) (s : State) : Host.Outcome State Fault Refusal :=
  .next (s.command p [.cell, .link] fun s =>
    if zone = 255 then (s, ⟨.ok, s.zoneBytes⟩)
    else
      match zoneOf zone with
      | none => (s, Reply.bare .badParam)
      | some z => (s.takeZone z, ⟨.ok, (s.takeZone z).zoneBytes⟩))

/-! ### Zone records (3.1) -/

/-- A zone record is written, and acts at once when its zone is the current zone (R48, R49). -/
def State.loadZone (s : State) (z : Nat) (r : ZoneRecord) : State :=
  let s1 : State := { s with zones := s.zones.set ZoneRecord.unloaded z r }
  if s.coverage.zone = some z then
    (s1.judgeCoverage s.radiationAllowed (s1.zoneGrace (some z))).sendZoneClass r.tariffClass
  else s1

/-- LOAD_ZONE (R48, R49). -/
def execLoadZone (p : Port) (zone loaded policy : Byte) (grace : Half) (tariffClass : Byte) (s : State) :
    Host.Outcome State Fault Refusal :=
  .next (s.command p [.purser] fun s =>
    match zoneOf zone, boolOf loaded with
    | some z, some false => (s.loadZone z ZoneRecord.unloaded, Reply.bare .ok)
    | some z, some true =>
      match policyOf policy with
      | some k =>
        if tariffClass.toNat ≤ 7 then
          (s.loadZone z ⟨true, k, min Config.maxGrace grace.toNat, tariffClass.toNat⟩,
            Reply.bare (clampStatus (decide (Config.maxGrace < grace.toNat))))
        else (s, Reply.bare .badParam)
      | none => (s, Reply.bare .badParam)
    | _, _ => (s, Reply.bare .badParam))

/-- READ_ZONE (R50, R202). -/
def execReadZone (p : Port) (zone : Byte) (s : State) : Host.Outcome State Fault Refusal :=
  .next (s.command p anyRole fun s =>
    match zoneOf zone with
    | none => (s, Reply.bare .badParam)
    | some z =>
      let r := s.zoneRecord z
      let c := s.coverage
      (s, ⟨.ok, [flagByte r.loaded] ++ beBytes 1 r.policy.code ++ beBytes 2 r.grace ++ beBytes 1 r.tariffClass
        ++ beBytes 1 c.state.code ++ [optByte c.zone, optByte c.lastZone, optByte (c.candidate.map Candidate.zone),
          optByte (c.candidate.map fun k => k.kind.code)]
        ++ beBytes 1 c.pacing ++ [flagByte c.permit] ++ beBytes 2 c.graceInForce⟩))

/-! ### Timers -/

/-- FIX_TIMER_EXPIRES (R52). -/
def execFixTimerExpires (s : State) : Host.Outcome State Fault Refusal :=
  .next (s.onExpiry s.coverage.fixTimer State.loseFix)

/-- CANDIDATE_QUALIFIES (R56). -/
def execCandidateQualifies (s : State) : Host.Outcome State Fault Refusal :=
  .next (s.onExpiry (s.coverage.candidate.map Candidate.timer) fun t =>
    match t.coverage.candidate with
    | none => t
    | some c => t.qualifyZone c.zone)

/-- RESTORE_TIMER_EXPIRES (R60). -/
def execRestoreTimerExpires (s : State) : Host.Outcome State Fault Refusal :=
  .next (s.onExpiry s.coverage.restoreTimer fun t =>
    if t.coverage.state = .qualifying then t.enterRamping
    else { t with coverage := { t.coverage with restoreTimer := none } })

/-- RAMP_TIMER_EXPIRES (R61). -/
def execRampTimerExpires (s : State) : Host.Outcome State Fault Refusal :=
  .next (s.onExpiry s.coverage.rampTimer fun t =>
    if t.coverage.state = .ramping then t.enterRadiating
    else { t with coverage := { t.coverage with rampTimer := none } })

/-- GRACE_TIMER_EXPIRES (R64). -/
def execGraceTimerExpires (s : State) : Host.Outcome State Fault Refusal :=
  .next (s.onExpiry s.coverage.graceTimer fun t =>
    if t.coverage.state = .withdrawing then t.endWithdrawal
    else { t with coverage := { t.coverage with graceTimer := none } })

end Sys2Proof.Machine
end

