-- ==== Sys2Proof/Machine/Bridge.lean ====
section
/-! DEFINITION. The bridge order line (4): the timing of lows and highs, trains, orders and the stuck line, and the events
BRIDGE_LINE_FALL, BRIDGE_LINE_RISE, LOW_REACHES_30_MS, LONG_LOW, STUCK, GAP_TIMER_EXPIRES and RECOVERY_TIMER_EXPIRES. -/

namespace Sys2Proof.Machine

/-! ### The length of a low -/

/-- The low in progress has reached a length. -/
def Bridge.lowFor (b : Bridge) (length : Nat) : Bool :=
  match b.lowTimer with
  | some e => decide (length ≤ e)
  | none => false

/-- The low has yet to be taken as one of 30 ms (notes/assumptions/22.md). -/
def Bridge.awaitsPulse (b : Bridge) : Bool := b.lowStage == .brief

/-- The low has yet to be taken as a long one: only a counted low of a train (R73). -/
def Bridge.awaitsLong (b : Bridge) : Bool := b.lowStage == .counted && b.state == .train

/-- The low has yet to be taken as a stuck one, from a low of 30 ms or more. -/
def Bridge.awaitsStuck (b : Bridge) : Bool := b.lowStage == .counted || b.lowStage == .long

/-- A low reaches 30 ms (R72, R73, R76). -/
def Bridge.reachPulse (b : Bridge) : Bridge :=
  let c : Bridge := { b with lowStage := .counted }
  match b.state with
  | .idle => { c with state := .train, pulseCount := 0, longLow := false }
  | .train => { c with gapTimer := none }
  | .recovering => { c with recoveryTimer := none }

/-- A low of a train has lasted longer than 400 ms (R73). -/
def Bridge.reachLong (b : Bridge) : Bridge := { b with longLow := true, lowStage := .long }

/-- The decoder takes a low of 30 ms. -/
def State.reachPulse (s : State) : State := { s with bridge := s.bridge.reachPulse }

/-- The decoder takes a low longer than 400 ms. -/
def State.reachLong (s : State) : State := { s with bridge := s.bridge.reachLong }

/-- A low reaches 5 s (R75, R76). E5 is raised when the stuck-reported mark is clear. -/
def State.reachStuck (s : State) : State :=
  let b := s.bridge
  match b.state with
  | .idle => s
  | .train =>
    ({ s with bridge := { b with state := .recovering, pulseCount := 0, longLow := false, gapTimer := none, stuckReported := true,
                                 lowStage := .stuck } } : State).raise .bridgeBad 3
  | .recovering =>
    let s1 : State := { s with bridge := { b with stuckReported := true, lowStage := .stuck } }
    if b.stuckReported then s1 else s1.raise .bridgeBad 3

/-- The low in progress reaches a length: the time to that moment passes and the decoder acts. -/
def State.onLow (s : State) (length : Nat) (ready : Bool) (rule : State → State) : State :=
  match s.bridge.lowTimer with
  | none => s
  | some e => if s.mainRuns && ready then rule (s.elapse (length - e)) else s

/-- LOW_REACHES_30_MS (R73). -/
def execLowReaches30Ms (s : State) : Host.Outcome State Fault Refusal :=
  .next (s.onLow Config.pulsePeriods s.bridge.awaitsPulse State.reachPulse)

/-- LONG_LOW (R73). -/
def execLongLow (s : State) : Host.Outcome State Fault Refusal :=
  .next (s.onLow Config.longLowPeriods s.bridge.awaitsLong State.reachLong)

/-- STUCK (R75, R76). -/
def execStuck (s : State) : Host.Outcome State Fault Refusal :=
  .next (s.onLow Config.stuckPeriods s.bridge.awaitsStuck State.reachStuck)

/-! ### Edges (4.1, 4.2) -/

/-- The lengths that the low in progress has reached and that wait to be taken, taken in rising order (notes/assumptions/22.md). -/
def State.takeLengths (s : State) : State :=
  let s1 := if s.bridge.lowFor Config.pulsePeriods && s.bridge.awaitsPulse then s.reachPulse else s
  let s2 := if s1.bridge.lowFor Config.longLowPeriods && s1.bridge.awaitsLong then s1.reachLong else s1
  if s2.bridge.lowFor Config.stuckPeriods && s2.bridge.awaitsStuck then s2.reachStuck else s2

/-- A fall of the line starts the low timer, in every decoder state (R70). -/
def Bridge.fall (b : Bridge) : Bridge := { b with lowTimer := some 0, lowStage := .brief }

/-- A rise of the line (R71, R73, R76), the low timer stopped (R70), once every length the low has reached has been taken. A low
shorter than 30 ms is a glitch: it leaves both timers as they are, but starts a recovery timer that has waited for the rise since
a start (R81; notes/assumptions/14.md). -/
def Bridge.rise (b : Bridge) : Bridge :=
  let r : Bridge := { b with lowTimer := none, lowStage := .brief }
  match b.state, b.lowStage with
  | .idle, _ => r
  | .train, .brief => r
  | .train, .counted => { r with pulseCount := min 5 (b.pulseCount + 1), gapTimer := some Config.restPeriods }
  | .train, _ => { r with gapTimer := some Config.restPeriods }
  | .recovering, .brief => if b.recoveryTimer.isSome then r else { r with recoveryTimer := some Config.restPeriods }
  | .recovering, _ => { r with recoveryTimer := some Config.restPeriods }

/-- The low in progress ends, classified by its length (R70, R71, R73). -/
def State.endLow (s : State) : State :=
  let t := s.takeLengths
  { t with bridge := t.bridge.rise }

/-- An edge of the line reaches the decoder while the main domain runs (notes/assumptions/28.md). -/
def State.edge (s : State) (high : Bool) (act : State → State) : State :=
  let s1 : State := { s with pins := { s.pins with bridgeHigh := high } }
  if s.mainRuns then act s1 else s1

/-- BRIDGE_LINE_FALL (R70). A line that is low does not fall (notes/assumptions/8.md). -/
def execBridgeLineFall (s : State) : Host.Outcome State Fault Refusal :=
  .next (if s.pins.bridgeHigh then s.edge false fun t => { t with bridge := t.bridge.fall } else s)

/-- BRIDGE_LINE_RISE (R70). A line that is high does not rise. -/
def execBridgeLineRise (s : State) : Host.Outcome State Fault Refusal :=
  .next (if s.pins.bridgeHigh then s else s.edge true State.endLow)

/-! ### Trains and orders (4.3) -/

/-- The standing orders after the order with a pulse count, 1 CLEAR, 2 SILENCE, 3 HARBOR, 4 LINK HOLD (R77). -/
def Standing.after (o : Standing) (order : Nat) : Standing :=
  match order with
  | 1 => ⟨false, false, false⟩
  | 2 => { o with silence := !o.silence }
  | 3 => { o with harbor := !o.harbor }
  | 4 => { o with linkHold := !o.linkHold }
  | _ => o

/-- The coverage controller reads a change of the standing orders (R65, R68, R78). -/
def State.coverageReads (s : State) (was : Bool) (old : Standing) : State :=
  if s.bridge.standing.silence && !old.silence then s.endOfService
  else s.judgeCoverage was (s.zoneGrace s.coverage.zone)

/-- The link table reads a change of the standing orders (R79, R94). -/
def State.linksRead (s : State) (old : Standing) : State :=
  if s.bridge.standing.harbor = old.harbor then s else s.judgeLinks allSlots

/-- The link selector reads a change of the standing orders (R79, R108). -/
def State.selectorReads (s : State) (old : Standing) : State :=
  if old.linkHold && !s.bridge.standing.linkHold then s.considerSwap else s

/-- An order is taken (R77): E4, the new standing orders, and the change sent to its three readers (R79; the order they are told
in is the model's, notes/assumptions/10.md). -/
def State.takeOrder (s : State) (order : Nat) : State :=
  let old := s.bridge.standing
  let s1 := ({ s with bridge := { s.bridge with standing := old.after order } } : State).raise .bridgeOrder order
  ((s1.coverageReads s.radiationAllowed old).linksRead old).selectorReads old

/-- A train ends and is judged as a whole (R74). A train that ends has a pulse or a long low. -/
def State.endTrain (s : State) : State :=
  let b := s.bridge
  let s1 : State := { s with bridge := { b with state := .idle, pulseCount := 0, longLow := false, gapTimer := none } }
  if b.longLow then s1.raise .bridgeBad 1
  else if b.pulseCount = 5 then s1.raise .bridgeBad 2
  else if b.pulseCount = 0 then s1
  else s1.takeOrder b.pulseCount

/-- GAP_TIMER_EXPIRES (R74). -/
def execGapTimerExpires (s : State) : Host.Outcome State Fault Refusal :=
  .next (s.onExpiry s.bridge.gapTimer State.endTrain)

/-- RECOVERY_TIMER_EXPIRES (R76). -/
def execRecoveryTimerExpires (s : State) : Host.Outcome State Fault Refusal :=
  .next (s.onExpiry s.bridge.recoveryTimer fun t =>
    { t with bridge := { t.bridge with state := .idle, stuckReported := false, recoveryTimer := none } })

end Sys2Proof.Machine
end

