-- ==== Sys2Proof/Machine/Sessions.lean ====
section
/-! DEFINITION. The session table (1): the commands ATTACH, RELEASE, KEEPALIVE, CLOSE_SESSION, SET_SESSION_FLAGS,
CLEAR_SESSION_FLAGS, READ_SESSION_BY_HANDLE, READ_SESSION_BY_IDENTITY and the event LAPSE_SWEEP_VISIT. -/

namespace Sys2Proof.Machine

/-! ### Attach (1.4) -/

/-- How a session will be charged: its basis, agreement, account and plan (R8). -/
structure Charging where
  basis : Basis
  agreement : Option Nat
  account : Nat
  plan : Nat

/-- The checks of R8 for an attach that names an onboard account. -/
def State.resolveOnboard (s : State) (a : Nat) : Except Status Charging :=
  let c := s.account a
  match c.kind with
  | .prepaid => if c.value = 0 then .error .credit else .ok ⟨.onboard, none, a, c.plan⟩
  | .closed => .error .badParam
  | .settlement => .error .badParam

/-- The checks of R8 for an attach that names none. -/
def State.resolveRoaming (s : State) (x : IdentityWord) : Except Status Charging :=
  match s.matchAgreement x with
  | none => .error .noAgreement
  | some i =>
    let g := s.agreement i
    if g.state = .suspended then .error .state
    else
      match s.coverage.zone with
      | none => .error .zone
      | some z => if zoneIn z g.zones then .ok ⟨.roaming, some i, g.account, g.plan⟩ else .error .zone

/-- The record of a new session (R9). -/
def State.newSession (s : State) (x : IdentityWord) (c : Charging) : Session :=
  { Session.free with
    state := .active, identity := x, basis := some c.basis, agreement := c.agreement, account := c.account, plan := c.plan,
    openTime := s.clock.calendar, segments := [Segment.opened s.rating.inForce 0 0 0 0] }

/-- An attach that passes every check takes handle `h` (R9); E24 when it takes the last FREE record (R10). -/
def State.openSession (s : State) (x : IdentityWord) (c : Charging) (h : Nat) : State :=
  let r := s.newSession x c
  let s1 := (s.setSession h r).countSession r fun n => n + 1
  let s2 : State :=
    if s1.coverage.state = .ramping then { s1 with coverage := { s1.coverage with pacing := s1.coverage.pacing - 1 } } else s1
  if s2.levelHolds .tableFull then s2.raise .tableFull h else s2

/-- The checks of R7 and R8 in their order, and the session that passes them (R9). -/
def State.attach (s : State) (x : IdentityWord) (account : Option Nat) : State × Reply :=
  if !s.coverage.state.inService then (s, Reply.bare .coverage)
  else if s.coverage.state = .ramping ∧ s.coverage.pacing = 0 then (s, Reply.bare .paced)
  else
    match s.lookupIdentity x with
    | some h =>
      if (s.session h).served then (s.refresh h, ⟨.already, beBytes 2 h⟩) else (s, ⟨.closing, beBytes 2 h⟩)
    | none =>
      match s.freeHandle with
      | none => (s, Reply.bare .full)
      | some h =>
        match (match account with | some a => s.resolveOnboard a | none => s.resolveRoaming x) with
        | .error st => (s, Reply.bare st)
        | .ok c => (s.openSession x c h, ⟨.ok, beBytes 2 h⟩)

/-- ATTACH (R7, R8, R9). -/
def execAttach (p : Port) (identity : IdentityWord) (accountPresent accountIndex : Byte) (s : State) :
    Host.Outcome State Fault Refusal :=
  .next (s.command p [.cell] fun s =>
    match identityValid identity, boolOf accountPresent with
    | true, some present => s.attach identity (if present then some accountIndex.toNat else none)
    | _, _ => (s, Reply.bare .badParam))

/-! ### Closing commands (1.7) -/

/-- What *Release* and *Close session* answer: the state the session was left in and its place in the owed-record list (R202). -/
def State.leftBytes (s : State) (h : Nat) : List Byte := beBytes 1 (s.session h).state.code ++ beBytes 2 (s.owedPlace h)

/-- A session is closed by a command or the sweep, and the served count is reported to the coverage controller (R14, R21). -/
def State.closeServed (s : State) (h : Nat) (reason : CloseReason) : State := (s.closeSession h reason).reportServed

/-- RELEASE (R18). -/
def execRelease (p : Port) (handle data voice : Half) (messages : Byte) (s : State) : Host.Outcome State Fault Refusal :=
  .next (s.command p [.cell] fun s => s.onServed handle fun h =>
    let r := s.reportUsage h data voice messages
    let t := ((r.1.state.roundData h).roundVoice h).closeServed h .released
    (t, ⟨r.2, t.leftBytes h⟩))

/-- CLOSE_SESSION (R19). -/
def execCloseSession (p : Port) (handle : Half) (s : State) : Host.Outcome State Fault Refusal :=
  .next (s.command p [.purser] fun s => s.onServed handle fun h =>
    (s.closeServed h .purser, ⟨.ok, (s.closeServed h .purser).leftBytes h⟩))

/-! ### Keeping a session alive (1.5) -/

/-- KEEPALIVE (R11). -/
def execKeepalive (p : Port) (handle : Half) (s : State) : Host.Outcome State Fault Refusal :=
  .next (s.command p [.cell] fun s => s.onServed handle fun h => (s.refresh h, Reply.bare .ok))

/-- A visit of the lapse sweep to handle `h` (R13). -/
def State.visit (s : State) (h : Nat) : State :=
  let x := s.session h
  if x.served then
    if x.lapseCount < 3 then s.setSession h { x with lapseCount := x.lapseCount + 1 }
    else ((s.closeSession h .lapsed).raise .sessionLapsed h).reportServed
  else s

/-- The sweep as a visit leaves it: a visit to handle 0 begins a pass with the lapse period in force, and the next visit falls a
1,024th of a quarter of the pass's lapse period later (R12). -/
def Sweep.advance (w : Sweep) (lapsePeriod : Nat) : Sweep :=
  let l := if w.position = 0 then lapsePeriod else w.lapsePeriod
  ⟨(w.position + 1) % Config.sessionCount, l, some (seconds l / (4 * Config.sessionCount))⟩

/-- LAPSE_SWEEP_VISIT (R12, R13). -/
def execLapseSweepVisit (s : State) : Host.Outcome State Fault Refusal :=
  .next (s.onExpiry s.sweep.timer fun t =>
    ({ t with sweep := t.sweep.advance t.params.lapsePeriod } : State).visit t.sweep.position)

/-! ### Session flags (1.9) -/

/-- A flag command with a mask that names only flags (R198, R22, R23). -/
def State.onFlags (s : State) (handle : Half) (mask : Byte) (rule : Nat → State × Reply) : State × Reply :=
  if mask.toNat < 16 then s.onServed handle rule else (s, Reply.bare .badParam)

/-- The flags of a mask join a session's flag set; HOLD newly set adds the reason HOLD (R22). -/
def State.setFlags (s : State) (h : Nat) (m : Flags) : State :=
  let x := s.session h
  let s1 := s.setSession h { x with flags := x.flags.union m }
  if m.hold && !x.flags.hold then s1.changeReasons Reasons.onlyHold Reasons.none h else s1

/-- The flags of a mask leave a session's flag set; HOLD newly cleared removes the reason HOLD (R23). -/
def State.clearFlags (s : State) (h : Nat) (m : Flags) : State :=
  let x := s.session h
  let s1 := s.setSession h { x with flags := x.flags.without m }
  if m.hold && x.flags.hold then s1.changeReasons Reasons.none Reasons.onlyHold h else s1

/-- SET_SESSION_FLAGS (R22). -/
def execSetSessionFlags (p : Port) (handle : Half) (mask : Byte) (s : State) : Host.Outcome State Fault Refusal :=
  .next (s.command p [.purser] fun s => s.onFlags handle mask fun h =>
    let t := s.setFlags h (Flags.ofMask mask)
    (t, ⟨.ok, [(t.session h).flags.byte]⟩))

/-- CLEAR_SESSION_FLAGS (R23). -/
def execClearSessionFlags (p : Port) (handle : Half) (mask : Byte) (s : State) : Host.Outcome State Fault Refusal :=
  .next (s.command p [.purser] fun s => s.onFlags handle mask fun h =>
    let t := s.clearFlags h (Flags.ofMask mask)
    (t, ⟨.ok, [(t.session h).flags.byte]⟩))

/-! ### Reading a session (1.10) -/

/-- The read-out of the session at a handle (R25). -/
def State.sessionBytes (s : State) (h : Nat) : List Byte := (s.session h).bytes h (s.owedPlace h)

/-- READ_SESSION_BY_HANDLE (R25). -/
def execReadSessionByHandle (p : Port) (handle : Half) (s : State) : Host.Outcome State Fault Refusal :=
  .next (s.command p anyRole fun s =>
    match handleOf handle with
    | none => (s, Reply.bare .badParam)
    | some h => (s, ⟨.ok, s.sessionBytes h⟩))

/-- READ_SESSION_BY_IDENTITY (R25, R6). -/
def execReadSessionByIdentity (p : Port) (identity : IdentityWord) (s : State) : Host.Outcome State Fault Refusal :=
  .next (s.command p anyRole fun s =>
    if identityValid identity then
      match s.lookupIdentity identity with
      | none => (s, Reply.bare .notFound)
      | some h => (s, ⟨.ok, s.sessionBytes h⟩)
    else (s, Reply.bare .badParam))

end Sys2Proof.Machine
end

