-- ==== Sys2Proof/Machine/Agreements.lean ====
section
/-! DEFINITION. The agreement table (2.1 to 2.4): the commands LOAD_AGREEMENT and READ_AGREEMENT. -/

namespace Sys2Proof.Machine

/-- Another record that is not EMPTY holds the code (R30, check 5). -/
def State.codeTaken (s : State) (i length : Nat) (code : CodeWord) : Bool :=
  (s.agreements.keys fun g => g.state != .empty && g.codeLength == length && g.code == code).any fun j => j != i

/-- The reasons a load adds to the sessions under the agreement, and the reasons it removes (R32, R33). -/
def State.loadReasons (s : State) (old new : Agreement) : Reasons × Reasons :=
  let zoneChange : Option Bool :=
    match s.coverage.zone with
    | some z => if old.state = .empty ∨ old.zones = new.zones then none else some (zoneIn z new.zones)
    | none => none
  (⟨false, zoneChange == some false, old.state == .opened && new.state == .suspended, false⟩,
    ⟨false, zoneChange == some true, old.state == .suspended && new.state == .opened, false⟩)

/-- A load that is taken writes the record, the session count kept, and sends its changes to the sessions under it, both changes
together (R31, R32, R33). -/
def State.loadAgreement (s : State) (i : Nat) (new : Agreement) : State :=
  let r := s.loadReasons (s.agreement i) new
  let s1 := s.setAgreement i new
  if r.1.isEmpty && r.2.isEmpty then s1 else s1.changeReasonsOf r.1 r.2 (s1.sessionsUnder i)

/-- LOAD_AGREEMENT (R30 to R33). -/
def execLoadAgreement (p : Port) (index state codeLength : Byte) (code : CodeWord) (zones : Half) (plan account : Byte) (s : State) :
    Host.Outcome State Fault Refusal :=
  .next (s.command p [.purser] fun s =>
    match agreementOf index with
    | none => (s, Reply.bare .badParam)
    | some i =>
      let old := s.agreement i
      if state = 0 then
        if old.count = 0 then (s.setAgreement i Agreement.emptied, Reply.bare .ok) else (s, Reply.bare .busy)
      else
        match agreementStateOf state with
        | none => (s, Reply.bare .badParam)
        | some st =>
          if codeValid codeLength.toNat code ∧ plan.toNat ≤ 7 ∧ (s.account account.toNat).kind = .settlement
              ∧ s.codeTaken i codeLength.toNat code = false then
            if old.state ≠ .empty ∧ old.count ≠ 0
                ∧ (old.codeLength ≠ codeLength.toNat ∨ old.code ≠ code ∨ old.account ≠ account.toNat) then
              (s, Reply.bare .busy)
            else
              (s.loadAgreement i ⟨st, codeLength.toNat, code, zones, plan.toNat, account.toNat, old.count⟩, Reply.bare .ok)
          else (s, Reply.bare .badParam))

/-- READ_AGREEMENT (R35, R202). -/
def execReadAgreement (p : Port) (index : Byte) (s : State) : Host.Outcome State Fault Refusal :=
  .next (s.command p anyRole fun s =>
    match agreementOf index with
    | none => (s, Reply.bare .badParam)
    | some i =>
      let g := s.agreement i
      (s, ⟨.ok, beBytes 1 g.state.code ++ beBytes 1 g.codeLength ++ beBytes 3 g.code.toNat ++ beBytes 2 g.zones.toNat
        ++ beBytes 1 g.plan ++ beBytes 1 g.account ++ beBytes 2 g.count⟩))

end Sys2Proof.Machine
end

