-- ==== Sys2Proof/Machine/Accounts.lean ====
section
/-! DEFINITION. The account table (2.5 to 2.9): the commands ACCOUNT_SET, ACCOUNT_ADJUST and READ_ACCOUNT. -/

namespace Sys2Proof.Machine

/-- The record an *Account set* writes, the session count kept (R38). -/
def Account.written (a : Account) (kind : AccountKind) (value threshold plan : Nat) : Account :=
  match kind with
  | .closed => ⟨.closed, 0, 0, 0, a.count⟩
  | .prepaid => ⟨.prepaid, value, threshold, plan, a.count⟩
  | .settlement => ⟨.settlement, value, 0, 0, a.count⟩

/-- A set that is taken (R38, R39). -/
def State.writeAccount (s : State) (i : Nat) (new : Account) : State :=
  let s1 := s.setAccount i new
  match new.kind with
  | .prepaid => s1.creditEffect i new.value
  | .closed => s1
  | .settlement => s1

/-- ACCOUNT_SET (R38, R39). -/
def execAccountSet (p : Port) (index kind : Byte) (value threshold : Value48) (plan : Byte) (s : State) :
    Host.Outcome State Fault Refusal :=
  .next (s.command p [.purser] fun s =>
    let i := index.toNat
    let old := s.account i
    match accountKindOf kind with
    | none => (s, Reply.bare .badParam)
    | some k =>
      if 7 < plan.toNat then (s, Reply.bare .badParam)
      else if k ≠ old.kind ∧ (old.count ≠ 0 ∨ s.agreementsNaming i ≠ 0) then (s, Reply.bare .busy)
      else (s.writeAccount i (old.written k value.toNat threshold.toNat plan.toNat), ⟨.ok, beBytes 6 old.value⟩))

/-- A value with a signed delta added, before the clamp; the sign is true for minus (R40). -/
def adjusted (value : Nat) (minus : Bool) (magnitude : Nat) : Int :=
  if minus then (value : Int) - magnitude else (value : Int) + magnitude

/-- The value an adjust writes (R40). -/
def adjustClamped (value : Nat) (minus : Bool) (magnitude : Nat) : Nat :=
  min Config.maxValue (adjusted value minus magnitude).toNat

/-- An adjust that is taken, with its clamp and its effect on the sessions of a PREPAID account; a delta of zero does nothing
(R40). -/
def State.adjustAccount (s : State) (i : Nat) (minus : Bool) (magnitude : Nat) : State :=
  let old := s.account i
  if magnitude = 0 then s
  else s.writeAccount i { old with value := adjustClamped old.value minus magnitude }

/-- ACCOUNT_ADJUST (R40). -/
def execAccountAdjust (p : Port) (index sign : Byte) (magnitude : Value48) (s : State) : Host.Outcome State Fault Refusal :=
  .next (s.command p [.purser] fun s =>
    let i := index.toNat
    let old := s.account i
    match boolOf sign with
    | none => (s, Reply.bare .badParam)
    | some minus =>
      if Config.maxDelta < magnitude.toNat then (s, Reply.bare .badParam)
      else
        match old.kind with
        | .closed => (s, Reply.bare .notFound)
        | _ =>
          (s.adjustAccount i minus magnitude.toNat,
            ⟨clampStatus (decide (adjusted old.value minus magnitude.toNat ≠ adjustClamped old.value minus magnitude.toNat)),
              beBytes 6 old.value⟩))

/-- READ_ACCOUNT (R45, R202). -/
def execReadAccount (p : Port) (index : Byte) (s : State) : Host.Outcome State Fault Refusal :=
  .next (s.command p anyRole fun s =>
    let a := s.account index.toNat
    (s, ⟨.ok, beBytes 1 a.kind.code ++ beBytes 6 a.value ++ beBytes 6 a.threshold ++ beBytes 1 a.plan ++ beBytes 2 a.count
      ++ beBytes 1 (s.agreementsNaming index.toNat)⟩))

end Sys2Proof.Machine
end

