-- ==== Sys2Proof/Machine/Records.lean ====
section
/-! DEFINITION. The purser's side of the charge record queue (9.3): the commands READ_RECORD, DROP_RECORD and READ_QUEUE_MARK. -/

namespace Sys2Proof.Machine

/-- READ_RECORD (R167, R200). -/
def execReadRecord (p : Port) (s : State) : Host.Outcome State Fault Refusal :=
  .next (s.command p [.purser] fun s =>
    match s.queue.records with
    | [] => (s, Reply.bare .empty)
    | r :: _ => (s, ⟨.ok, beBytes 2 s.queue.records.length ++ r.bytes⟩))

/-- The oldest record is removed, and the freed room is granted to the owed-record list; also the number of grants (R168). -/
def State.dropRecord (s : State) : State × Nat :=
  ({ s with queue := { s.queue with records := s.queue.records.tail } } : State).grantOwed s.owed

/-- DROP_RECORD (R168). -/
def execDropRecord (p : Port) (s : State) : Host.Outcome State Fault Refusal :=
  .next (s.command p [.purser] fun s =>
    if s.queue.records.isEmpty then (s, Reply.bare .empty)
    else
      let r := s.dropRecord
      (r.1, ⟨.ok, beBytes 2 r.1.queue.records.length ++ beBytes 1 r.2⟩))

/-- READ_QUEUE_MARK (R171). -/
def execReadQueueMark (p : Port) (s : State) : Host.Outcome State Fault Refusal :=
  .next (s.command p [.purser] fun s =>
    ({ s with queue := { s.queue with mark := s.queue.records.length } },
      ⟨.ok, beBytes 2 s.queue.mark ++ beBytes 2 s.queue.records.length ++ beBytes 2 s.owed.length⟩))

end Sys2Proof.Machine
end

