-- ==== Sys2Proof/Machine/Clock.lean ====
section
/-! DEFINITION. The ship's clock (7): the calendar's carries, the settlement of the period, the commands SET_CLOCK, SET_TRIM,
SET_OFF_PEAK_WINDOW and READ_CLOCK, and the event WHOLE_SECOND. -/

namespace Sys2Proof.Machine

/-- The clock settles the period: a change is written, raises E26 and is sent to the rating engine (R131). -/
def State.settlePeriod (s : State) : State :=
  let q := s.clock.periodNow
  if q = s.period then s
  else (({ s with period := q } : State).raise .periodChanged q.code).sendPeriod q

/-! ### Counting time (7.1) -/

/-- The year after the last month (R125). -/
def Calendar.nextYear (c : Calendar) : Calendar := { c with year := if c.year = 99 then 0 else c.year + 1 }

/-- The month after the last date (R125). -/
def Calendar.nextMonth (c : Calendar) : Calendar :=
  if c.month = 12 then ({ c with month := 1 } : Calendar).nextYear else { c with month := c.month + 1 }

/-- The next date, and the next day of the week with it (R125). -/
def Calendar.nextDate (c : Calendar) : Calendar :=
  let d : Calendar := { c with dayOfWeek := if c.dayOfWeek = 7 then 1 else c.dayOfWeek + 1 }
  if c.date = lastDate c.month c.year then ({ d with date := 1 } : Calendar).nextMonth else { d with date := c.date + 1 }

/-- The next hour (R125). -/
def Calendar.nextHour (c : Calendar) : Calendar :=
  if c.hours = 23 then ({ c with hours := 0 } : Calendar).nextDate else { c with hours := c.hours + 1 }

/-- The calendar one second on (R125). -/
def Calendar.advance (c : Calendar) : Calendar :=
  if c.seconds = 59 then
    if c.minutes = 59 then ({ c with seconds := 0, minutes := 0 } : Calendar).nextHour
    else { c with seconds := 0, minutes := c.minutes + 1 }
  else { c with seconds := c.seconds + 1 }

/-- The second that comes next ends an hour: its advance is an hour edge (R125). -/
def Calendar.endsHour (c : Calendar) : Bool := c.seconds == 59 && c.minutes == 59

/-- The clock after a whole second: the calendar advanced, the count from 0 with any period past the second's end, and the length of
the new second set by the trim in force (R124, R126). -/
def Clock.advance (c : Clock) : Clock :=
  let n := c.calendar.advance
  { c with calendar := n, subSecond := c.subSecond - c.secondLength, secondLength := secondLengthAt n.minutes n.seconds c.trim }

/-- The pacing count is set to the admission pace while the state is RAMPING (R61). -/
def State.refillPacing (s : State) : State :=
  if s.coverage.state = .ramping then { s with coverage := { s.coverage with pacing := s.params.admissionPace } } else s

/-- A whole second is taken. The period and the pacing count lie in the main domain and follow while it runs (R61, R131). -/
def State.takeSecond (s : State) : State :=
  let s1 : State := { s with clock := s.clock.advance }
  if s.mainRuns then (if s.clock.calendar.endsHour then s1.settlePeriod else s1).refillPacing else s1

/-- WHOLE_SECOND (R125): the rest of the second passes, and the calendar advances. -/
def execWholeSecond (s : State) : Host.Outcome State Fault Refusal :=
  .next (if s.clockRuns then (s.elapse (s.clock.secondLength - s.clock.subSecond)).takeSecond else s)

/-! ### Setting and reading the clock (7.2, 7.3, 7.5) -/

/-- The checks of *Set clock* (R127). -/
def Calendar.valid (c : Calendar) : Bool :=
  decide (c.seconds ≤ 59) && decide (c.minutes ≤ 59) && decide (c.hours ≤ 23) && decide (1 ≤ c.month) && decide (c.month ≤ 12)
    && decide (c.year ≤ 99) && decide (1 ≤ c.dayOfWeek) && decide (c.dayOfWeek ≤ 7)
    && decide (1 ≤ c.date) && decide (c.date ≤ lastDate c.month c.year)

/-- SET_CLOCK (R127). -/
def execSetClock (p : Port) (seconds minutes hours date month year dayOfWeek : Byte) (s : State) :
    Host.Outcome State Fault Refusal :=
  .next (s.command p [.purser] fun s =>
    let c : Calendar :=
      ⟨seconds.toNat, minutes.toNat, hours.toNat, date.toNat, month.toNat, year.toNat, dayOfWeek.toNat⟩
    if c.valid then
      (({ s with clock := { s.clock with
          calendar := c, subSecond := 0, secondLength := secondLengthAt c.minutes c.seconds s.clock.trim, notSet := false } }
          : State).settlePeriod,
        ⟨.ok, s.clock.calendar.bytes ++ [flagByte s.clock.notSet]⟩)
    else (s, Reply.bare .badParam))

/-- A trim as its sign byte and its magnitude (R198). -/
def trimBytes (t : Int) : List Byte := [flagByte (decide (t < 0)), BitVec.ofNat 8 t.natAbs]

/-- SET_TRIM (R128). -/
def execSetTrim (p : Port) (sign magnitude : Byte) (s : State) : Host.Outcome State Fault Refusal :=
  .next (s.command p [.purser] fun s =>
    match boolOf sign with
    | none => (s, Reply.bare .badParam)
    | some minus =>
      let m := min 127 magnitude.toNat
      ({ s with clock := { s.clock with trim := if minus then -(m : Int) else (m : Int) } },
        ⟨clampStatus (decide (127 < magnitude.toNat)), trimBytes s.clock.trim⟩))

/-- SET_OFF_PEAK_WINDOW (R130). -/
def execSetOffPeakWindow (p : Port) (startHour endHour : Byte) (s : State) : Host.Outcome State Fault Refusal :=
  .next (s.command p [.purser] fun s =>
    if startHour.toNat ≤ 23 ∧ endHour.toNat ≤ 23 then
      (({ s with clock := { s.clock with windowStart := startHour.toNat, windowEnd := endHour.toNat } } : State).settlePeriod,
        ⟨.ok, beBytes 1 s.clock.windowStart ++ beBytes 1 s.clock.windowEnd⟩)
    else (s, Reply.bare .badParam))

/-- READ_CLOCK (R133, R202). -/
def execReadClock (p : Port) (s : State) : Host.Outcome State Fault Refusal :=
  .next (s.command p anyRole fun s =>
    (s, ⟨.ok, s.clock.calendar.bytes ++ [flagByte s.clock.notSet] ++ trimBytes s.clock.trim
      ++ beBytes 1 s.clock.windowStart ++ beBytes 1 s.clock.windowEnd ++ beBytes 1 s.period.code⟩))

end Sys2Proof.Machine
end

