-- ==== Sys2Proof/Machine/Power.lean ====
section
/-! DEFINITION. The power supervisor (10): the domains, the starts, the flush, and the events MAIN_POWER_RISES, MAIN_POWER_FALLS,
RESET_LINE_FALLS, RESET_LINE_RISES, POWER_FAIL_WARNING_RISES, POWER_FAIL_WARNING_FALLS, BACKUP_DOMAIN_LOST and
INITIALIZATION_ENDS. -/

namespace Sys2Proof.Machine

/-! ### The two domains (10.1, 10.3) -/

/-- Every item of the backup domain at its cold value, the backup-valid mark clear (R173, R176). -/
def State.coldBackup (s : State) : State :=
  { s with
    clock := Clock.cold
    tariff := Tariff.cold
    zones := Table.empty
    linkConfig := Slots.all LinkConfig.unloaded
    agreements := Table.empty
    accounts := Table.empty
    queue := ⟨[], 0⟩
    params := Params.default
    backupValid := false }

/-- The main domain at the values of a start, the session counts 0, the period settled without an event (R177, R131). The lapse
sweep, the decoder's timers and the latches wait for the end of initialization (R178). -/
def State.startValues (s : State) : State :=
  { s with
    agreements := s.agreements.update Agreement.emptied fun g => { g with count := 0 }
    accounts := s.accounts.update Account.closed fun a => { a with count := 0 }
    period := s.clock.periodNow
    rating := Rating.start s.clock.periodNow
    sessions := Table.empty
    owed := []
    sweep := Sweep.start s.params.lapsePeriod
    coverage := Coverage.start
    bridge := Bridge.start
    links := s.linkConfig.map fun c => { Link.start with eligible := eligibleFor c none false }
    selector := Selector.start
    router := Router.start }

/-- The supervisor enters INITIALIZING for a start of a kind: a cold start takes the cold values, and both take the start values
(R174, R176, R177). -/
def State.beginStart (s : State) (kind : StartKind) : State :=
  let s1 := match kind with
    | .cold => s.coldBackup
    | .warm => s
  ({ s1 with power := ⟨.initializing, kind, false, 0⟩ } : State).startValues

/-- The kind of a start from OFF or RESET, by the backup-valid mark (R174). -/
def State.startKindNow (s : State) : StartKind := if s.backupValid then .warm else .cold

/-! ### The flush (10.5) -/

/-- The power-fail flush, one step in four parts (R180, R27). -/
def State.flush (s : State) : State :=
  let s1 : State := { s with power := { s.power with supervisor := .flushed, flushing := true } }
  let s2 := s1.endOfService
  s2.emptyTable.contribute (s2.sessions.count Session.notFree) s2.openCharges

/-! ### The end of initialization (10.3) -/

/-- The bridge decoder at the end of initialization: its recovery timer when the line is high, its low timer when it is low
(R81). -/
def Bridge.atStart (b : Bridge) (high : Bool) : Bridge :=
  if high then { b with recoveryTimer := some Config.restPeriods } else { b with lowTimer := some 0, lowStage := .brief }

/-- The latches of a start (R178): E0 with the start kind, E11, and E19, E20 and E25 where their conditions hold. -/
def State.latchStart (s : State) : State :=
  let s1 := (s.raise .warmStart s.power.startKind.code).raise .shoreDark 255
  let s2 := if s1.queue.records.isEmpty then s1 else s1.raise .recordReady 0
  let s3 := if s2.queueHasRoom then s2 else s2.raise .queueFull 0
  if s3.clock.notSet then s3.raise .clockNotSet 0 else s3

/-- The end of initialization (R178): the backup-valid mark set (R176), the period settled without an event (R131, R134), the
sweep and the decoder timed from this moment, the latches of the start, then RUNNING, or the flush when the warning is raised
(R183). The clock is left as it has counted since the entry into INITIALIZING (notes/assumptions/33.md). -/
def State.endInitialization (s : State) : State :=
  let s1 : State := { s with
    power := { s.power with supervisor := .running, initTime := 0 }
    backupValid := true
    period := s.clock.periodNow
    rating := Rating.start s.clock.periodNow
    sweep := { Sweep.start s.params.lapsePeriod with timer := some 0 }
    bridge := s.bridge.atStart s.pins.bridgeHigh }
  let s2 := s1.latchStart
  if s2.pins.warning then s2.flush else s2

/-! ### Events -/

/-- MAIN_POWER_RISES (R174). Main power that is present does not rise (notes/assumptions/31.md). -/
def execMainPowerRises (s : State) : Host.Outcome State Fault Refusal :=
  .next (match s.power.supervisor with
    | .off =>
      if s.pins.resetHigh then s.beginStart s.startKindNow
      else { s with power := { s.power with supervisor := .reset } }
    | .reset => s
    | .initializing => s
    | .running => s
    | .flushed => s)

/-- Main power falls: the main domain is lost, and takes its start values at once (R182; notes/assumptions/7.md). -/
def State.losePower (s : State) : State :=
  ({ s with power := { s.power with supervisor := .off, flushing := false, initTime := 0 } } : State).startValues

/-- MAIN_POWER_FALLS (R182). Main power that is absent does not fall. -/
def execMainPowerFalls (s : State) : Host.Outcome State Fault Refusal :=
  .next (if s.power.supervisor = .off then s else s.losePower)

/-- The supervisor enters RESET: the permit falls and every attention line is released; the rest of the main domain stops as it
stands (R179). -/
def State.enterReset (s : State) : State :=
  { s with
    power := { s.power with supervisor := .reset, initTime := 0 }
    coverage := { s.coverage with permit := false }
    router := { s.router with cell := s.router.cell.release, link := s.router.link.release, purser := s.router.purser.release } }

/-- RESET_LINE_FALLS (R179). In OFF and in RESET only the line changes. -/
def execResetLineFalls (s : State) : Host.Outcome State Fault Refusal :=
  let s1 : State := { s with pins := { s.pins with resetHigh := false } }
  .next (match s.power.supervisor with
    | .off => s1
    | .reset => s1
    | .initializing => s1.enterReset
    | .running => s1.enterReset
    | .flushed => s1.enterReset)

/-- RESET_LINE_RISES (R174, R179). -/
def execResetLineRises (s : State) : Host.Outcome State Fault Refusal :=
  let s1 : State := { s with pins := { s.pins with resetHigh := true } }
  .next (if s.power.supervisor = .reset then s1.beginStart s1.startKindNow else s1)

/-- POWER_FAIL_WARNING_RISES (R180, R183): the flush in RUNNING; in every other state only the line changes. -/
def execPowerFailWarningRises (s : State) : Host.Outcome State Fault Refusal :=
  let s1 : State := { s with pins := { s.pins with warning := true } }
  .next (if s.power.supervisor = .running then s1.flush else s1)

/-- POWER_FAIL_WARNING_FALLS (R181, R183): a warm start in FLUSHED; in every other state only the line changes. -/
def execPowerFailWarningFalls (s : State) : Host.Outcome State Fault Refusal :=
  let s1 : State := { s with pins := { s.pins with warning := false } }
  .next (if s.power.supervisor = .flushed then s1.beginStart .warm else s1)

/-- BACKUP_DOMAIN_LOST (R173): only while main power is absent. The lost items take their cold values at once
(notes/assumptions/7.md). -/
def execBackupDomainLost (s : State) : Host.Outcome State Fault Refusal :=
  .next (if s.power.supervisor = .off then s.coldBackup else s)

/-- INITIALIZATION_ENDS (R178). -/
def execInitializationEnds (s : State) : Host.Outcome State Fault Refusal :=
  .next (if s.power.supervisor = .initializing then s.endInitialization else s)

end Sys2Proof.Machine
end

