-- ==== Sys2Proof/Machine/Ports.lean ====
section
/-! DEFINITION. The command ports and the event router as software reaches them (11): the commands SET_PARAMETER, READ_STATUS,
READ_EVENT, SET_EVENT_ENABLES and PORT_RESET, the frames UNKNOWN_COMMAND and TRUNCATED_FRAME, and the event
ATTENTION_TIMER_EXPIRES. -/

namespace Sys2Proof.Machine

/-! ### Parameters (11.4) -/

/-- The range of a parameter that R190 clamps to its range and writes. Parameters 1, 2 and 13 have rules of their own. -/
def plainRange (number : Nat) : Option (Nat × Nat) :=
  match number with
  | 3 => some (5, 120)
  | 4 => some (0, 300)
  | 5 => some (0, 600)
  | 6 => some (1, 64)
  | 7 => some (30, 600)
  | 8 => some (1, 60)
  | 9 => some (1, 30)
  | 10 => some (1, 600)
  | 11 => some (5, 120)
  | 12 => some (0, 600)
  | 14 => some (100, 1000)
  | 15 => some (2, 60)
  | 16 => some (0, 10)
  | _ => none

/-- The value of such a parameter. -/
def Params.plain (p : Params) (number : Nat) : Nat :=
  match number with
  | 3 => p.fixTimeout
  | 4 => p.restoreDelay
  | 5 => p.rampPeriod
  | 6 => p.admissionPace
  | 7 => p.lapsePeriod
  | 8 => p.linkQual
  | 9 => p.faultQual
  | 10 => p.holdoff
  | 11 => p.swapTimeout
  | 12 => p.swapDwell
  | 14 => p.hardLossLimit
  | 15 => p.staleTime
  | 16 => p.settleWindow
  | _ => 0

/-- Such a parameter given a value. -/
def Params.putPlain (p : Params) (number v : Nat) : Params :=
  match number with
  | 3 => { p with fixTimeout := v }
  | 4 => { p with restoreDelay := v }
  | 5 => { p with rampPeriod := v }
  | 6 => { p with admissionPace := v }
  | 7 => { p with lapsePeriod := v }
  | 8 => { p with linkQual := v }
  | 9 => { p with faultQual := v }
  | 10 => { p with holdoff := v }
  | 11 => { p with swapTimeout := v }
  | 12 => { p with swapDwell := v }
  | 14 => { p with hardLossLimit := v }
  | 15 => { p with staleTime := v }
  | 16 => { p with settleWindow := v }
  | _ => p

/-- A parameter written: the parameters after it, the value it held, and whether a value was clamped; none is BAD_PARAM (R190). -/
def Params.write (p : Params) (number : Nat) (value : Half) : Option (Params × Nat × Bool) :=
  let v := value.toNat
  if number = 1 then
    let w := min 60 v
    some ({ p with permissiveQual := w, restrictiveQual := min p.restrictiveQual w }, p.permissiveQual,
      w != v || decide (w < p.restrictiveQual))
  else if number = 2 then
    let w := min (min 10 v) p.permissiveQual
    some ({ p with restrictiveQual := w }, p.restrictiveQual, w != v)
  else if number = 13 then
    let upper := min 100 (v / 256)
    let lower := min 100 (v % 256)
    if upper ≤ lower then none
    else some ({ p with healthUpper := upper, healthLower := lower }, p.healthUpper * 256 + p.healthLower,
      upper != v / 256 || lower != v % 256)
  else
    match plainRange number with
    | none => none
    | some (low, high) => some (p.putPlain number (clampTo low high v), p.plain number, clampTo low high v != v)

/-- SET_PARAMETER (R190). -/
def execSetParameter (p : Port) (number : Byte) (value : Half) (s : State) : Host.Outcome State Fault Refusal :=
  .next (s.command p [.purser] fun s =>
    match s.params.write number.toNat value with
    | none => (s, Reply.bare .badParam)
    | some (q, old, clamped) => ({ s with params := q }, ⟨clampStatus clamped, beBytes 2 old⟩))

/-! ### Read status (11.5) -/

/-- The response of *Read status* (R191, R202). The window cause reads 255 while no window runs (notes/assumptions/13.md). -/
def State.statusBytes (s : State) (p : Port) : List Byte :=
  let x := s.port p
  [flagByte x.truncated] ++ beBytes 4 x.enables.toNat ++ beBytes 1 x.pending.length ++ [flagByte x.lineLow]
    ++ beBytes 1 s.power.supervisor.code ++ beBytes 1 s.power.startKind.code ++ [flagByte s.power.flushing]
    ++ [s.bridge.standing.byte] ++ beBytes 1 s.bridge.state.code
    ++ [slotByte s.carrier, slotByte (s.selector.swap.map Swap.candidate), slotByte (s.selector.swap.bind Swap.oldCarrier)]
    ++ beBytes 2 (remainingSeconds (s.selector.swap.map Swap.timer)) ++ beBytes 2 (remainingSeconds s.selector.dwellTimer)
    ++ [slotByte s.selector.lateMark] ++ s.rating.inForce.bytes ++ optContextBytes s.rating.pendingContext
    ++ [optByte (s.rating.cause.map WindowCause.code)] ++ beBytes 1 (remainingSeconds s.rating.settleTimer)

/-- READ_STATUS (R191): the port's last-frame-truncated mark is cleared after the response is formed. -/
def execReadStatus (p : Port) (s : State) : Host.Outcome State Fault Refusal :=
  .next (s.command p anyRole fun s => (s.setPort p { s.port p with truncated := false }, ⟨.ok, s.statusBytes p⟩))

/-! ### Events (11.6) -/

/-- The entry a read chooses: the lowest kind among the entries that are not renewed, which stand first, or else the first in the
order of renewed entries (R194). -/
def PortState.first (x : PortState) : Option Entry := x.pending.head?

/-- The entry of a kind renewed at a read: for a level kind that is enabled and whose condition holds, at the last place of the
renewed entries (R193, R196). -/
def State.renewal (s : State) (x : PortState) (k : EventKind) : List Entry :=
  if x.enabled k && s.levelHolds k then [⟨k, s.renewalDetail k, false, true⟩] else []

/-- A port after a read of its first entry: the entry removed, renewed where R193 says so, and the attention line (R195). -/
def State.afterRead (s : State) (x : PortState) (e : Entry) : PortState :=
  let rest := x.pending.tail ++ s.renewal x e.kind
  if rest.isEmpty then ({ x with pending := rest } : PortState).release else ({ x with pending := rest } : PortState).pullLow

/-- The flags byte of an entry: bit 0 the overrun mark, bit 1 the renewed mark (R201). -/
def Entry.flags (e : Entry) : Byte := maskBit e.overrun 0 ||| maskBit e.renewed 1

/-- READ_EVENT (R194, R201). -/
def execReadEvent (p : Port) (s : State) : Host.Outcome State Fault Refusal :=
  .next (s.command p anyRole fun s =>
    let x := s.port p
    match x.first with
    | none => (s, ⟨.ok, [255, 0, 0, 0, 0, 0]⟩)
    | some e =>
      let y := s.afterRead x e
      (s.setPort p y, ⟨.ok, beBytes 1 e.kind.number ++ beBytes 2 e.detail ++ [e.flags]
        ++ beBytes 1 s.clock.calendar.seconds ++ beBytes 1 y.pending.length⟩))

/-- The latches a port is given for level kinds whose conditions hold, each with its stored detail (R196, R197). -/
def State.latchLevels (s : State) (x : PortState) (kinds : List EventKind) : PortState :=
  kinds.foldl (fun y k => if s.levelHolds k then { y with pending := insertFresh ⟨k, s.router.details.get k, false, false⟩ y.pending } else y) x

/-- The enable set of a port replaced: a level kind added while its condition holds is latched at once, unless an entry of it is
still pending (R196). A line that latches a first entry falls; a line released before stays so (notes/assumptions/12.md). -/
def State.replaceEnables (s : State) (x : PortState) (set : BitVec 27) : PortState :=
  let added := levelKinds.filter fun k => set.getLsbD k.number && !x.enabled k && !x.holds k
  let y := s.latchLevels { x with enables := set } added
  if x.pending.isEmpty && !y.pending.isEmpty then y.pullLow else y

/-- SET_EVENT_ENABLES (R196). -/
def execSetEventEnables (p : Port) (enables : Quad) (s : State) : Host.Outcome State Fault Refusal :=
  .next (s.command p anyRole fun s =>
    if enables.toNat < 2 ^ 27 then
      (s.setPort p (s.replaceEnables (s.port p) (enables.setWidth 27)), ⟨.ok, beBytes 4 (s.port p).enables.toNat⟩)
    else (s, Reply.bare .badParam))

/-- A port after a port reset (R197). -/
def State.portAfterReset (s : State) (x : PortState) : PortState :=
  let y := s.latchLevels { x with enables := PortState.start.enables, pending := [], truncated := false } levelKinds
  if y.pending.isEmpty then y.release else y.pullLow

/-- PORT_RESET (R197). -/
def execPortReset (p : Port) (s : State) : Host.Outcome State Fault Refusal :=
  .next (s.command p anyRole fun s => (s.setPort p (s.portAfterReset (s.port p)), Reply.bare .ok))

/-- ATTENTION_TIMER_EXPIRES (R195): the line is released while the entries stay pending. -/
def execAttentionTimerExpires (p : Port) (s : State) : Host.Outcome State Fault Refusal :=
  .next (s.onExpiry (s.port p).attention fun t => t.setPort p (t.port p).release)

/-! ### What the part sends in a frame (11.1, 11.7) -/

/-- The byte a frame of a command with `n` parameter bytes sends as its frame byte `k`, counted from 1 (R186, R198): none while the
code and the parameters come in, then the filler, the status code, the response bytes, and zeros. A frame that carries no
judged command sends no status (R187). -/
def Frame.sends (f : Frame) (n k : Nat) : Option Byte :=
  match f with
  | .idle => none
  | .answered st response =>
    if k < n + 2 then none
    else
      match k - (n + 2) with
      | 0 => some 0
      | 1 => some (BitVec.ofNat 8 st.code)
      | j + 2 => some (response.getD j 0)

/-- What port `p` sends as frame byte `k` of its frame. -/
def State.sends (s : State) (p : Port) (n k : Nat) : Option Byte := (s.port p).frame.sends n k

/-! ### Frames that carry no command (11.1) -/

/-- UNKNOWN_COMMAND (R188): no answer in OFF, STATE outside RUNNING, UNKNOWN otherwise. A code of the command summary spells no
such frame (notes/assumptions/17.md). -/
def execUnknownCommand (p : Port) (code : Byte) (s : State) : Host.Outcome State Fault Refusal :=
  if (parameterCount code.toNat).isSome then .fault .illFormedCommand
  else
    .next (match s.power.supervisor with
      | .off => s
      | .running => s.answer p (Reply.bare .unknown)
      | .reset => s.answer p (Reply.bare .state)
      | .initializing => s.answer p (Reply.bare .state)
      | .flushed => s.answer p (Reply.bare .state))

/-- TRUNCATED_FRAME (R187, R175): the frame is discarded and the port's mark is set; in OFF no port acts. -/
def execTruncatedFrame (p : Port) (s : State) : Host.Outcome State Fault Refusal :=
  .next (if s.power.supervisor = .off then s
    else s.setPort p { s.port p with truncated := true, frame := .idle })

end Sys2Proof.Machine
end

