-- ==== Sys2Proof/Machine/Dispatch.lean ====
section
/-! DEFINITION. The meaning of every command, one arm per constructor. -/

namespace Sys2Proof.Machine

def exec (i : Instr) (s : State) : Host.Outcome State Fault Refusal :=
  match i with
  | .attach p identity accountPresent accountIndex => Sys2Proof.Machine.execAttach p identity accountPresent accountIndex s
  | .release p handle data voice messages => Sys2Proof.Machine.execRelease p handle data voice messages s
  | .keepalive p handle => Sys2Proof.Machine.execKeepalive p handle s
  | .usage p handle data voice messages => Sys2Proof.Machine.execUsage p handle data voice messages s
  | .zoneReport p zone => Sys2Proof.Machine.execZoneReport p zone s
  | .linkReport p slot present quality loss latency => Sys2Proof.Machine.execLinkReport p slot present quality loss latency s
  | .swapConfirm p slot => Sys2Proof.Machine.execSwapConfirm p slot s
  | .loadZone p zone loaded policy grace tariffClass => Sys2Proof.Machine.execLoadZone p zone loaded policy grace tariffClass s
  | .loadLink p slot loaded kind costClass rank zones => Sys2Proof.Machine.execLoadLink p slot loaded kind costClass rank zones s
  | .loadPriceRow p plan zoneClass dataPrice dataIncrement voicePrice voiceIncrement messagePrice => Sys2Proof.Machine.execLoadPriceRow p plan zoneClass dataPrice dataIncrement voicePrice voiceIncrement messagePrice s
  | .setSurcharges p s0 s1 s2 s3 => Sys2Proof.Machine.execSetSurcharges p s0 s1 s2 s3 s
  | .setDiscounts p q0 q1 q2 q3 q4 q5 q6 q7 => Sys2Proof.Machine.execSetDiscounts p q0 q1 q2 q3 q4 q5 q6 q7 s
  | .setOffPeakWindow p startHour endHour => Sys2Proof.Machine.execSetOffPeakWindow p startHour endHour s
  | .loadAgreement p index state codeLength code zones plan account => Sys2Proof.Machine.execLoadAgreement p index state codeLength code zones plan account s
  | .accountSet p index kind value threshold plan => Sys2Proof.Machine.execAccountSet p index kind value threshold plan s
  | .accountAdjust p index sign magnitude => Sys2Proof.Machine.execAccountAdjust p index sign magnitude s
  | .setSessionFlags p handle mask => Sys2Proof.Machine.execSetSessionFlags p handle mask s
  | .clearSessionFlags p handle mask => Sys2Proof.Machine.execClearSessionFlags p handle mask s
  | .closeSession p handle => Sys2Proof.Machine.execCloseSession p handle s
  | .readRecord p => Sys2Proof.Machine.execReadRecord p s
  | .dropRecord p => Sys2Proof.Machine.execDropRecord p s
  | .readQueueMark p => Sys2Proof.Machine.execReadQueueMark p s
  | .setClock p seconds minutes hours date month year dayOfWeek => Sys2Proof.Machine.execSetClock p seconds minutes hours date month year dayOfWeek s
  | .setTrim p sign magnitude => Sys2Proof.Machine.execSetTrim p sign magnitude s
  | .setParameter p number value => Sys2Proof.Machine.execSetParameter p number value s
  | .readStatus p => Sys2Proof.Machine.execReadStatus p s
  | .readSessionByHandle p handle => Sys2Proof.Machine.execReadSessionByHandle p handle s
  | .readSessionByIdentity p identity => Sys2Proof.Machine.execReadSessionByIdentity p identity s
  | .readAccount p index => Sys2Proof.Machine.execReadAccount p index s
  | .readAgreement p index => Sys2Proof.Machine.execReadAgreement p index s
  | .readLink p slot => Sys2Proof.Machine.execReadLink p slot s
  | .readZone p zone => Sys2Proof.Machine.execReadZone p zone s
  | .readClock p => Sys2Proof.Machine.execReadClock p s
  | .readEvent p => Sys2Proof.Machine.execReadEvent p s
  | .setEventEnables p enables => Sys2Proof.Machine.execSetEventEnables p enables s
  | .portReset p => Sys2Proof.Machine.execPortReset p s
  | .unknownCommand p code => Sys2Proof.Machine.execUnknownCommand p code s
  | .truncatedFrame p => Sys2Proof.Machine.execTruncatedFrame p s
  | .lapseSweepVisit => Sys2Proof.Machine.execLapseSweepVisit s
  | .fixTimerExpires => Sys2Proof.Machine.execFixTimerExpires s
  | .candidateQualifies => Sys2Proof.Machine.execCandidateQualifies s
  | .restoreTimerExpires => Sys2Proof.Machine.execRestoreTimerExpires s
  | .rampTimerExpires => Sys2Proof.Machine.execRampTimerExpires s
  | .graceTimerExpires => Sys2Proof.Machine.execGraceTimerExpires s
  | .wholeSecond => Sys2Proof.Machine.execWholeSecond s
  | .bridgeLineFall => Sys2Proof.Machine.execBridgeLineFall s
  | .bridgeLineRise => Sys2Proof.Machine.execBridgeLineRise s
  | .lowReaches30Ms => Sys2Proof.Machine.execLowReaches30Ms s
  | .longLow => Sys2Proof.Machine.execLongLow s
  | .stuck => Sys2Proof.Machine.execStuck s
  | .gapTimerExpires => Sys2Proof.Machine.execGapTimerExpires s
  | .recoveryTimerExpires => Sys2Proof.Machine.execRecoveryTimerExpires s
  | .staleTimerExpires slot => Sys2Proof.Machine.execStaleTimerExpires slot s
  | .linkQualificationExpires slot => Sys2Proof.Machine.execLinkQualificationExpires slot s
  | .faultTimerExpires slot => Sys2Proof.Machine.execFaultTimerExpires slot s
  | .holdoffTimerExpires slot => Sys2Proof.Machine.execHoldoffTimerExpires slot s
  | .swapTimerExpires => Sys2Proof.Machine.execSwapTimerExpires s
  | .dwellTimerExpires => Sys2Proof.Machine.execDwellTimerExpires s
  | .settleWindowExpires => Sys2Proof.Machine.execSettleWindowExpires s
  | .attentionTimerExpires p => Sys2Proof.Machine.execAttentionTimerExpires p s
  | .mainPowerRises => Sys2Proof.Machine.execMainPowerRises s
  | .mainPowerFalls => Sys2Proof.Machine.execMainPowerFalls s
  | .resetLineFalls => Sys2Proof.Machine.execResetLineFalls s
  | .resetLineRises => Sys2Proof.Machine.execResetLineRises s
  | .powerFailWarningRises => Sys2Proof.Machine.execPowerFailWarningRises s
  | .powerFailWarningFalls => Sys2Proof.Machine.execPowerFailWarningFalls s
  | .backupDomainLost => Sys2Proof.Machine.execBackupDomainLost s
  | .initializationEnds => Sys2Proof.Machine.execInitializationEnds s

end Sys2Proof.Machine
end

