-- ==== Sys2Proof/Machine/Tick.lean ====
section
/-! DEFINITION. What the part does when no command waits: one period of the time base passes, and the first event that is due is
put into the queue (notes/assumptions/2.md). -/

namespace Sys2Proof.Machine

/-- A running timer whose duration has passed. -/
def dueTimer (t : Timer) : Bool := t == some 0

/-- An event, when its condition holds. -/
def dueWhen (due : Bool) (i : Instr) : List Instr := if due then [i] else []

/-- The events of one link that are due. -/
def State.dueOfLink (s : State) (i : Slot) : List Instr :=
  let l := s.link i
  dueWhen (dueTimer l.staleTimer) (.staleTimerExpires i) ++ dueWhen (dueTimer l.qualTimer) (.linkQualificationExpires i)
    ++ dueWhen (dueTimer l.faultTimer) (.faultTimerExpires i) ++ dueWhen (dueTimer l.holdoffTimer) (.holdoffTimerExpires i)

/-- The events of the main domain that are due while it runs, in the order in which the model takes them
(notes/assumptions/3.md). -/
def State.dueOfMain (s : State) : List Instr :=
  let c := s.coverage
  let b := s.bridge
  dueWhen (dueTimer s.sweep.timer) .lapseSweepVisit ++ dueWhen (dueTimer c.fixTimer) .fixTimerExpires
    ++ dueWhen (dueTimer (c.candidate.map Candidate.timer)) .candidateQualifies
    ++ dueWhen (dueTimer c.restoreTimer) .restoreTimerExpires ++ dueWhen (dueTimer c.rampTimer) .rampTimerExpires
    ++ dueWhen (dueTimer c.graceTimer) .graceTimerExpires
    ++ dueWhen (b.lowFor Config.pulsePeriods && b.awaitsPulse) .lowReaches30Ms
    ++ dueWhen (b.lowFor Config.longLowPeriods && b.awaitsLong) .longLow
    ++ dueWhen (b.lowFor Config.stuckPeriods && b.awaitsStuck && b.state != .idle) .stuck
    ++ dueWhen (dueTimer b.gapTimer) .gapTimerExpires ++ dueWhen (dueTimer b.recoveryTimer) .recoveryTimerExpires
    ++ allSlots.flatMap s.dueOfLink
    ++ dueWhen (dueTimer (s.selector.swap.map Swap.timer)) .swapTimerExpires
    ++ dueWhen (dueTimer s.selector.dwellTimer) .dwellTimerExpires ++ dueWhen (dueTimer s.rating.settleTimer) .settleWindowExpires
    ++ [Port.cell, .link, .purser].flatMap fun p => dueWhen (dueTimer (s.port p).attention) (.attentionTimerExpires p)

/-- The events that are due, in the order in which the model takes them. -/
def State.dueEvents (s : State) : List Instr :=
  dueWhen (s.clockRuns && decide (s.clock.secondLength ≤ s.clock.subSecond)) .wholeSecond
    ++ (if s.mainRuns then s.dueOfMain else [])
    ++ dueWhen (s.power.supervisor == .initializing && decide (Config.initializationPeriods ≤ s.power.initTime)) .initializationEnds

/-- The first event that is due joins the queue. -/
def State.takeDue (s : State) : State :=
  match s.dueEvents with
  | [] => s
  | i :: _ => { s with pending := s.pending ++ [i] }

/-- A step with no command waiting: an event already due is queued before any time passes; otherwise one period passes, and the
first event it makes due is queued. -/
def State.tick (s : State) : State :=
  match s.dueEvents with
  | [] => (s.elapse 1).takeDue
  | _ => s.takeDue

end Sys2Proof.Machine
end

