-- ==== Sys2Proof/WellFormed.lean ====
section
/-! DEFINITION. The well-formed commands: every term but an unknown command whose code is one of the command summary (R188). A
parameter outside its range is no ill-formed term, since the command's own rule refuses or clamps it. -/

namespace Sys2Proof

/-- A term stands for a frame or an event that can reach the part. -/
def Instr.wellFormed (i : Instr) : Bool :=
  match i with
  | .unknownCommand _ code => (parameterCount code.toNat).isNone
  | _ => true

end Sys2Proof
end

