-- ==== Sys2Proof/Safety.lean ====
section
/-! DEFINITION. What the statements are made of: which commands a port takes (11.3), and the laws the reference gives the part's
state. Every law is a condition on one state; that each step keeps it is stated apart. -/

namespace Sys2Proof.Machine

/-! ### The command summary (11.3) -/

/-- The roles the command summary lists for a code; none for a code that is not in it. -/
def summaryRoles (code : Nat) : List Port :=
  match code with
  | 16 => [.cell]
  | 17 => [.cell]
  | 18 => [.cell]
  | 19 => [.cell]
  | 20 => [.cell, .link]
  | 32 => [.link]
  | 33 => [.link]
  | n => if 48 ≤ n ∧ n ≤ 65 then [.purser] else if 80 ≤ n ∧ n ≤ 90 then [.cell, .link, .purser] else []

/-- The port a frame came on; none for an event. -/
def framePort (i : Instr) : Option Port :=
  match i with
  | .attach p _ _ _ => some p
  | .release p _ _ _ _ => some p
  | .keepalive p _ => some p
  | .usage p _ _ _ _ => some p
  | .zoneReport p _ => some p
  | .linkReport p _ _ _ _ _ => some p
  | .swapConfirm p _ => some p
  | .loadZone p _ _ _ _ _ => some p
  | .loadLink p _ _ _ _ _ _ => some p
  | .loadPriceRow p _ _ _ _ _ _ _ => some p
  | .setSurcharges p _ _ _ _ => some p
  | .setDiscounts p _ _ _ _ _ _ _ _ => some p
  | .setOffPeakWindow p _ _ => some p
  | .loadAgreement p _ _ _ _ _ _ _ => some p
  | .accountSet p _ _ _ _ _ => some p
  | .accountAdjust p _ _ _ => some p
  | .setSessionFlags p _ _ => some p
  | .clearSessionFlags p _ _ => some p
  | .closeSession p _ => some p
  | .readRecord p => some p
  | .dropRecord p => some p
  | .readQueueMark p => some p
  | .setClock p _ _ _ _ _ _ _ => some p
  | .setTrim p _ _ => some p
  | .setParameter p _ _ => some p
  | .readStatus p => some p
  | .readSessionByHandle p _ => some p
  | .readSessionByIdentity p _ => some p
  | .readAccount p _ => some p
  | .readAgreement p _ => some p
  | .readLink p _ => some p
  | .readZone p _ => some p
  | .readClock p => some p
  | .readEvent p => some p
  | .setEventEnables p _ => some p
  | .portReset p => some p
  | .unknownCommand p _ => some p
  | .truncatedFrame p => some p
  | .lapseSweepVisit => none
  | .fixTimerExpires => none
  | .candidateQualifies => none
  | .restoreTimerExpires => none
  | .rampTimerExpires => none
  | .graceTimerExpires => none
  | .wholeSecond => none
  | .bridgeLineFall => none
  | .bridgeLineRise => none
  | .lowReaches30Ms => none
  | .longLow => none
  | .stuck => none
  | .gapTimerExpires => none
  | .recoveryTimerExpires => none
  | .staleTimerExpires _ => none
  | .linkQualificationExpires _ => none
  | .faultTimerExpires _ => none
  | .holdoffTimerExpires _ => none
  | .swapTimerExpires => none
  | .dwellTimerExpires => none
  | .settleWindowExpires => none
  | .attentionTimerExpires _ => none
  | .mainPowerRises => none
  | .mainPowerFalls => none
  | .resetLineFalls => none
  | .resetLineRises => none
  | .powerFailWarningRises => none
  | .powerFailWarningFalls => none
  | .backupDomainLost => none
  | .initializationEnds => none


/-- The state without what belongs to port `p`'s frame in progress: what a refusal leaves as it was (R189). -/
def State.withFrame (s : State) (p : Port) (f : Frame) : State := s.setPort p { s.port p with frame := f }

/-- A served session given a reason set: DRAINING stays, a live session is ACTIVE exactly when the set is empty (R1, R4, R5). -/
def Session.judged (x : Session) (r : Reasons) : Session :=
  { x with reasons := r, state := if x.state = .draining then .draining else if r = Reasons.none then .active else .suspended }

/-- Every port that is enabled for kind `k` in `s` has an entry of it pending in `t`. -/
def State.Latched (s t : State) (k : EventKind) : Prop := ∀ p : Port, (s.port p).enabled k = true → (t.port p).holds k = true

/-- No occurrence of kind `k` is latched between `s` and `t`: every port holds the entry of the kind that it held. -/
def State.Unlatched (s t : State) (k : EventKind) : Prop :=
  ∀ p : Port, ((t.port p).pending.filter fun e => e.kind == k) = (s.port p).pending.filter fun e => e.kind == k

/-- Sessions that go from one state to another tell it by events of kind `k`: with none, no occurrence is latched; otherwise every
enabled port holds one entry, not renewed, with the handle of such a session, and no other port latches anything. -/
def State.TellsMoves (s t : State) (k : EventKind) (old new : SessionState) : Prop :=
  ((∀ h, (s.session h).state = old → (t.session h).state ≠ new) → s.Unlatched t k)
    ∧ ((∃ h, (s.session h).state = old ∧ (t.session h).state = new) →
      ∃ h, (s.session h).state = old ∧ (t.session h).state = new
        ∧ ∀ p : Port, ((t.port p).pending.filter fun e => e.kind == k)
            = if (s.port p).enabled k = true then [⟨k, h, (t.port p).pending.any fun e => e.kind == k && e.overrun, false⟩]
              else (s.port p).pending.filter fun e => e.kind == k)

/-- E14 and E15 are raised exactly where a change of reasons suspends or resumes a session (R4, R5). -/
def State.TellsReasons (s t : State) : Prop :=
  s.TellsMoves t .sessionSuspended .active .suspended ∧ s.TellsMoves t .sessionResumed .suspended .active

/-- `t` is `s` after a charge against session `h` is handed on (R151, R152): debited from the session's account, its shortfall added
to the session's, and itemized with its quantities in the session's segments. -/
def State.Charged (s : State) (h data voice messages charge : Nat) (t : State) : Prop :=
  ∃ (w : State) (taken short : Nat), s.debit (s.session h).account charge = (w, taken, short)
    ∧ t = (w.setSession h { w.session h with
        shortfall := min Config.maxValue ((w.session h).shortfall + short) }).addToSegments h data voice messages charge

/-- `t` is `s` at the entry into INITIALIZING for a start of a kind (R173, R174, R176, R177): the backup domain kept with its session
counts 0, or cold; the main domain at its start values. -/
def State.StartedFrom (s t : State) (kind : StartKind) : Prop :=
  t.power = ⟨.initializing, kind, false, 0⟩ ∧ t.pins = s.pins ∧ t.pending = s.pending
    ∧ (kind = .warm → t.clock = s.clock ∧ t.tariff = s.tariff ∧ t.zones = s.zones ∧ t.linkConfig = s.linkConfig
        ∧ t.queue = s.queue ∧ t.params = s.params ∧ t.backupValid = s.backupValid
        ∧ (∀ i, t.account i = { s.account i with count := 0 }) ∧ ∀ i, t.agreement i = { s.agreement i with count := 0 })
    ∧ (kind = .cold → t.clock = Clock.cold ∧ t.tariff = Tariff.cold ∧ t.zones = Table.empty
        ∧ t.linkConfig = Slots.all LinkConfig.unloaded ∧ t.queue = ⟨[], 0⟩ ∧ t.params = Params.default ∧ t.backupValid = false
        ∧ t.accounts = Table.empty ∧ t.agreements = Table.empty)
    ∧ t.sessions = Table.empty ∧ t.owed = [] ∧ t.coverage = Coverage.start ∧ t.bridge = Bridge.start
    ∧ t.selector = Selector.start ∧ t.router = Router.start ∧ t.period = t.clock.periodNow
    ∧ t.rating = ⟨⟨0, 0, t.clock.periodNow⟩, none, none, none⟩
    ∧ ∀ i : Slot, t.link i = { Link.start with
        eligible := (t.linkConfig.get i).loaded && (t.linkConfig.get i).kind == .satellite }

/-! ### What the coverage controller does (3.5) -/

/-- The handles of the served sessions, rising. -/
def State.servedHandles (s : State) : List Nat := (List.range Config.sessionCount).filter fun h => (s.session h).served

/-- The CLOSE record of session `h` with COVERAGE_END, made as the calendar stands (R21, R162, R163). -/
def State.coverageRecord (s : State) (h : Nat) : ChargeRecord :=
  ⟨s.clock.calendar, s.clock.notSet,
    .close ⟨h, (s.session h).identity, (s.session h).account, (s.session h).agreement, (s.session h).plan, (s.session h).openTime⟩
      .coverageEnd (s.session h).part (s.session h).shortfall (s.session h).dataResidue (s.session h).voiceResidue
      (s.session h).segments⟩

/-- Nothing of the session table, its accounts and agreements, and the queue differs between `s` and `t`. -/
def State.KeepsTable (s t : State) : Prop :=
  t.sessions = s.sessions ∧ t.owed = s.owed ∧ t.queue = s.queue ∧ t.accounts = s.accounts ∧ t.agreements = s.agreements

/-- `t` is `s` after every served session is made DRAINING and no other session touched (R20). -/
def State.Drains (s t : State) : Prop :=
  (∀ h, t.session h = if (s.session h).served = true then { s.session h with state := .draining } else s.session h)
    ∧ t.owed = s.owed ∧ t.queue = s.queue ∧ t.accounts = s.accounts ∧ t.agreements = s.agreements

/-- `t` is `s` after every served session is closed with COVERAGE_END, by rising handle (R21, R14): the lowest handles take the
queue's room with a CLOSE record each and become FREE, the rest become CLOSING at the tail of the owed-record list; the counts of
accounts and agreements fall by the sessions that are FREE; E19, E20 and E21 tell of a queue and a list that fill. -/
def State.ClosesServed (s t : State) : Prop :=
  ∀ freed waiting : List Nat,
    freed = s.servedHandles.take (Config.ordinaryLimit - s.queue.records.length) →
    waiting = s.servedHandles.drop (Config.ordinaryLimit - s.queue.records.length) →
    t.queue.records = s.queue.records ++ freed.map s.coverageRecord
    ∧ t.queue.mark = max s.queue.mark t.queue.records.length
    ∧ t.owed = s.owed ++ waiting
    ∧ (∀ h, t.session h =
        if h ∈ freed then Session.free
        else if h ∈ waiting then { s.session h with state := .closing, closeReason := some .coverageEnd }
        else s.session h)
    ∧ (∀ a, t.account a = { s.account a with
        count := (s.account a).count - freed.countP fun h => (s.session h).account == a })
    ∧ (∀ i, t.agreement i = { s.agreement i with
        count := (s.agreement i).count - freed.countP fun h => (s.session h).agreement == some i })
    ∧ (s.queue.records = [] → freed ≠ [] → s.Latched t .recordReady)
    ∧ (s.queue.records.length < Config.ordinaryLimit → t.queue.records.length = Config.ordinaryLimit → s.Latched t .queueFull)
    ∧ (s.owed = [] → waiting ≠ [] → s.Latched t .recordOwed)

/-- `t` has the coverage fields `c`, but for the zone side of the controller, which stands in `t` as it stands; and between `s` and
`t` the coverage state has changed `n` times: E1 with the current zone for each, the entry as so many occurrences leave it. -/
def State.CoverageIs (s t : State) (n : Nat) (c : Coverage) : Prop :=
  t.coverage = { c with
      zone := t.coverage.zone, lastZone := t.coverage.lastZone, candidate := t.coverage.candidate, fixTimer := t.coverage.fixTimer }
    ∧ ((fun u : State => u.raise .coverageChanged (t.coverage.zone.getD 255))^[n] s).Unlatched t .coverageChanged

/-- The coverage fields in SILENT (R59): the permit low, the restore, ramp and grace timers stopped, no pacing count and no grace
in force. -/
def Coverage.stopped (c : Coverage) : Coverage :=
  { c with state := .silent, permit := false, restoreTimer := none, rampTimer := none, graceTimer := none, graceInForce := 0,
           pacing := 0 }

/-- `t` is `s`, in SILENT, after radiation becomes allowed (R59, R60, R61): QUALIFYING with the restore timer started, or past it
where the restore delay, or the ramp period as well, is 0 s. -/
def State.Qualifies (s t : State) : Prop :=
  (s.params.restoreDelay ≠ 0 →
    s.CoverageIs t 1 { s.coverage with
      state := .qualifying, permit := false, restoreTimer := some (s.params.restoreDelay * Config.periodsPerSecond) })
  ∧ (s.params.restoreDelay = 0 → s.params.rampPeriod ≠ 0 →
    s.CoverageIs t 2 { s.coverage with
      state := .ramping, permit := true, restoreTimer := none, pacing := s.params.admissionPace
      rampTimer := some (s.params.rampPeriod * Config.periodsPerSecond) })
  ∧ (s.params.restoreDelay = 0 → s.params.rampPeriod = 0 →
    s.CoverageIs t 3 { s.coverage with
      state := .radiating, permit := true, restoreTimer := none, rampTimer := none, pacing := 0 })

/-- `t` is `s` after radiation stops being allowed, the cause neither SILENCE nor the flush, with a grace in seconds (R60, R62,
R64): QUALIFYING returns to SILENT; service is withdrawn, the sessions DRAINING and the grace timer running, or ends at once when
nobody is served or the grace is 0 s; a withdrawal in progress runs on. -/
def State.LosesRadiation (s t : State) (grace : Nat) : Prop :=
  (s.coverage.state = .silent ∨ s.coverage.state = .withdrawing → s.CoverageIs t 0 s.coverage ∧ s.KeepsTable t)
  ∧ (s.coverage.state = .qualifying → s.CoverageIs t 1 s.coverage.stopped ∧ s.KeepsTable t)
  ∧ (s.coverage.state = .ramping ∨ s.coverage.state = .radiating →
    (grace ≠ 0 → s.servedHandles ≠ [] →
      s.CoverageIs t 1 { s.coverage with
        state := .withdrawing, permit := true, rampTimer := none, pacing := 0, graceInForce := grace
        graceTimer := some (grace * Config.periodsPerSecond) }
      ∧ s.Drains t)
    ∧ (grace = 0 ∨ s.servedHandles = [] → s.CoverageIs t 2 s.coverage.stopped ∧ s.ClosesServed t))

/-- `t` is `s` after the conditions of R58 are judged afresh: whether radiation was allowed before the event, whether it is now, and
the grace its cause gives a withdrawal (R63). A withdrawal that has begun is not reversed (R62). -/
def State.CoverageJudged (s t : State) (was now : Bool) (grace : Nat) : Prop :=
  (was = now → s.CoverageIs t 0 s.coverage ∧ s.KeepsTable t)
  ∧ (was = false → now = true → s.KeepsTable t
    ∧ (s.coverage.state = .silent → s.Qualifies t) ∧ (s.coverage.state ≠ .silent → s.CoverageIs t 0 s.coverage))
  ∧ (was = true → now = false → s.LosesRadiation t grace)

/-! ### Power (10) -/

/-- The supervisor stands where its inputs have put it (R174, R179, R180, R183), the flushing condition holds in FLUSHED alone
while the main domain runs (R181), a running part has its backup-valid mark (R176), in INITIALIZING the main domain holds its
start values (R177), and in FLUSHED the session table is empty (R27). That a main domain that is lost (R182) holds its start values
in OFF as well is the model's choice, notes/assumptions/7.md. -/
abbrev State.PowerLaw (s : State) : Prop :=
  (s.power.supervisor = .flushed → s.power.flushing = true)
    ∧ (s.power.flushing = true → s.power.supervisor = .flushed ∨ s.power.supervisor = .reset)
    ∧ (s.power.supervisor = .initializing ∨ s.mainRuns = true → s.pins.resetHigh = true)
    ∧ (s.power.supervisor = .reset → s.pins.resetHigh = false)
    ∧ (s.power.supervisor = .running → s.pins.warning = false)
    ∧ (s.power.supervisor = .flushed → s.pins.warning = true)
    ∧ (s.mainRuns = true → s.backupValid = true)
    ∧ (s.power.supervisor = .off ∨ s.power.supervisor = .initializing →
        s.sessions = Table.empty ∧ s.owed = [] ∧ s.coverage = Coverage.start ∧ s.bridge = Bridge.start
          ∧ s.selector = Selector.start ∧ ∀ i : Slot, (s.link i).state = .down)
    ∧ (s.power.supervisor = .flushed → s.sessions = Table.empty ∧ s.owed = [])

/-! ### Tables (1.1, 2.1, 2.5, 3.1, 8.3) -/

/-- The tables are in canonical form, each within its size (R2, R28, R36, R47, R142). -/
abbrev State.TablesLaw (s : State) : Prop :=
  s.sessions.wf Session.free Config.sessionCount = true
    ∧ s.agreements.wf Agreement.emptied Config.agreementCount = true
    ∧ s.accounts.wf Account.closed Config.accountCount = true
    ∧ s.zones.wf ZoneRecord.unloaded Config.zoneCount = true
    ∧ s.tariff.rows.wf PriceRow.cold 64 = true
    ∧ (∀ e ∈ s.sessions.entries, e.2.account < Config.accountCount
        ∧ ∀ i ∈ e.2.agreement, i < Config.agreementCount)
    ∧ ∀ e ∈ s.agreements.entries, e.2.account < Config.accountCount

/-- The figures the purser loads lie in their ranges (R28, R36, R48, R84, R130, R142 to R145). -/
abbrev State.LoadedLaw (s : State) : Prop :=
  (∀ e ∈ s.tariff.rows.entries, e.2.dataPrice ≤ 65535 ∧ 1 ≤ e.2.dataIncrement ∧ e.2.dataIncrement ≤ 1024
      ∧ e.2.voicePrice ≤ 65535 ∧ 1 ≤ e.2.voiceIncrement ∧ e.2.voiceIncrement ≤ 60 ∧ e.2.messagePrice ≤ 65535)
    ∧ (∀ c ∈ [0, 1, 2, 3], s.tariff.surcharges.get c ≤ 400)
    ∧ (∀ p ∈ [0, 1, 2, 3, 4, 5, 6, 7], s.tariff.discounts.get p ≤ 100)
    ∧ (∀ e ∈ s.zones.entries, e.2.loaded = true ∧ e.2.grace ≤ Config.maxGrace ∧ e.2.tariffClass ≤ 7)
    ∧ (∀ i : Slot, (s.linkConfig.get i = LinkConfig.unloaded ∨ (s.linkConfig.get i).loaded = true
        ∧ 1 ≤ (s.linkConfig.get i).rank ∧ (s.linkConfig.get i).rank ≤ 15) ∧ (s.linkConfig.get i).costClass ≤ 3)
    ∧ (∀ e ∈ s.agreements.entries, e.2.plan ≤ 7 ∧ (e.2.state ≠ .empty → codeValid e.2.codeLength e.2.code = true))
    ∧ ∀ e ∈ s.accounts.entries, e.2.value ≤ Config.maxValue ∧ e.2.threshold ≤ Config.maxValue ∧ e.2.plan ≤ 7
        ∧ (e.2.kind ≠ .prepaid → e.2.threshold = 0 ∧ e.2.plan = 0) ∧ (e.2.kind = .closed → e.2.value = 0)

/-! ### Sessions (1) -/

/-- One record that is listed, so not FREE (1.1, R1, R16): live and ACTIVE exactly while its reason set is empty, its close reason
present exactly in CLOSING, and every figure in its range. -/
abbrev Session.Lawful (x : Session) : Prop :=
  x.state ≠ .free
    ∧ (x.state = .active → x.reasons = Reasons.none) ∧ (x.state = .suspended → x.reasons ≠ Reasons.none)
    ∧ (x.closeReason.isSome = true ↔ x.state = .closing)
    ∧ (x.basis = some .roaming ↔ x.agreement.isSome = true) ∧ x.basis.isSome = true
    ∧ x.lapseCount ≤ 3 ∧ x.part ≤ 255 ∧ x.plan ≤ 7 ∧ x.dataResidue ≤ 1023 ∧ x.voiceResidue ≤ 59
    ∧ x.shortfall ≤ Config.maxValue
    ∧ 1 ≤ x.segments.length ∧ x.segments.length ≤ Config.segmentLimit

/-- The session table (R1, R2, R16): every listed record lawful, identities held once, and the owed-record list holding each
CLOSING handle once and no other. -/
abbrev State.SessionLaw (s : State) : Prop :=
  (∀ e ∈ s.sessions.entries, e.2.Lawful)
    ∧ (s.sessions.entries.map fun e => e.2.identity).Nodup
    ∧ s.owed.Nodup
    ∧ (∀ h ∈ s.owed, (s.session h).state = .closing)
    ∧ ∀ e ∈ s.sessions.entries, e.2.state = .closing → e.1 ∈ s.owed

/-- The session counts of agreements and accounts count the sessions that name them (R28, R37). -/
abbrev State.CountLaw (s : State) : Prop :=
  (∀ i < Config.agreementCount, (s.agreement i).count = s.sessions.count fun x => x.agreement == some i)
    ∧ ∀ a < Config.accountCount, (s.account a).count = s.sessions.count fun x => x.notFree && x.account == a

/-- Who pays (R28, R29, R36, R38): agreements that are not EMPTY name SETTLEMENT accounts and hold different codes; a roaming
session is under such an agreement, on its account; an onboard session is on a PREPAID account. -/
abbrev State.PartyLaw (s : State) : Prop :=
  (∀ e ∈ s.agreements.entries, e.2.state ≠ .empty → (s.account e.2.account).kind = .settlement)
    ∧ ((s.agreements.entries.filter fun e => e.2.state != .empty).map fun e => (e.2.codeLength, e.2.code)).Nodup
    ∧ ∀ e ∈ s.sessions.entries,
        (∀ i ∈ e.2.agreement, (s.agreement i).state ≠ .empty ∧ (s.agreement i).account = e.2.account)
          ∧ (e.2.agreement = none → (s.account e.2.account).kind = .prepaid)

/-- The suspension reasons of a served session (R22, R28, R33, R36, R39): HOLD follows the flag, CREDIT an account at zero,
AGREEMENT a suspended agreement, and ZONE, while the zone is known, an agreement that does not permit it. -/
abbrev State.ReasonsLaw (s : State) : Prop :=
  ∀ e ∈ s.sessions.entries, e.2.served = true →
    e.2.reasons.hold = e.2.flags.hold
      ∧ (∀ i ∈ e.2.agreement, e.2.reasons.credit = false
          ∧ e.2.reasons.agreement = ((s.agreement i).state == .suspended)
          ∧ ∀ z ∈ s.coverage.zone, e.2.reasons.zone = !zoneIn z (s.agreement i).zones)
      ∧ (e.2.agreement = none → e.2.reasons.credit = ((s.account e.2.account).value == 0)
          ∧ e.2.reasons.agreement = false ∧ e.2.reasons.zone = false)

/-! ### Coverage (3) -/

/-- The coverage controller (R59 to R64, R66): the permit, each timer running in its own state alone, the pacing count 0 outside
RAMPING, and the state agreeing with the radiation condition (R58) while the main domain runs. -/
abbrev State.CoverageLaw (s : State) : Prop :=
  s.coverage.permit = (s.mainRuns && s.coverage.state.permits)
    ∧ (s.coverage.restoreTimer.isSome = true ↔ s.coverage.state = .qualifying)
    ∧ (s.coverage.rampTimer.isSome = true ↔ s.coverage.state = .ramping)
    ∧ (s.coverage.graceTimer.isSome = true ↔ s.coverage.state = .withdrawing)
    ∧ (s.coverage.state ≠ .ramping → s.coverage.pacing = 0)
    ∧ (s.coverage.state ≠ .withdrawing → s.coverage.graceInForce = 0)
    ∧ (s.mainRuns = true → s.coverage.state = .silent → s.radiationAllowed = false)
    ∧ (s.mainRuns = true → s.coverage.state = .qualifying ∨ s.coverage.state.inService = true → s.radiationAllowed = true)
    ∧ (s.power.supervisor = .flushed → s.coverage.state = .silent)

/-- The zone side of the controller (R52 to R56): a known zone is the last known one, and the fix timer runs while a zone or a
candidate is held; a candidate is another zone than the current one, and permissive while none is known. -/
abbrev State.ZoneLaw (s : State) : Prop :=
  (∀ z ∈ s.coverage.zone, z < Config.zoneCount ∧ s.coverage.lastZone = some z)
    ∧ (∀ z ∈ s.coverage.lastZone, z < Config.zoneCount)
    ∧ (s.coverage.zone.isSome = true ∨ s.coverage.candidate.isSome = true → s.coverage.fixTimer.isSome = true)
    ∧ ∀ c ∈ s.coverage.candidate, c.zone < Config.zoneCount ∧ s.coverage.zone ≠ some c.zone
        ∧ (s.coverage.zone = none → c.kind = .permissive)

/-- Whom the ship serves in each coverage state (R20, R21, R59, R64, R65): nobody in SILENT and QUALIFYING, nobody DRAINING in
RAMPING and RADIATING, and in WITHDRAWING at least one session, all DRAINING. -/
abbrev State.ServiceLaw (s : State) : Prop :=
  ∀ e ∈ s.sessions.entries,
      (s.coverage.state = .silent ∨ s.coverage.state = .qualifying → e.2.served = false)
        ∧ (s.coverage.state.inService = true → e.2.state ≠ .draining)
        ∧ (s.coverage.state = .withdrawing → e.2.live = false)

/-- A withdrawal has a session left to drain (R64). -/
abbrev State.WithdrawalLaw (s : State) : Prop := s.coverage.state = .withdrawing → 1 ≤ s.servedCount

/-! ### The bridge order line (4) -/

/-- The decoder (R70 to R76): what holds in each of its states, and the low timer running exactly while the line is low and the
main domain runs. The stage of a low is the model's own field, so the clauses on it are the model's, notes/assumptions/22.md. -/
abbrev State.BridgeLaw (s : State) : Prop :=
  s.bridge.pulseCount ≤ 5
    ∧ (s.bridge.state ≠ .train → s.bridge.pulseCount = 0 ∧ s.bridge.longLow = false ∧ s.bridge.gapTimer = none)
    ∧ (s.bridge.state ≠ .recovering → s.bridge.recoveryTimer = none ∧ s.bridge.stuckReported = false)
    ∧ (s.bridge.state = .idle → s.bridge.lowStage = .brief)
    ∧ (s.bridge.state = .train → s.bridge.lowStage ≠ .stuck ∧ (s.bridge.gapTimer.isSome = true ↔ s.bridge.lowStage = .brief))
    ∧ (s.bridge.state = .train → s.bridge.lowStage ≠ .counted → s.bridge.longLow = true ∨ 1 ≤ s.bridge.pulseCount)
    ∧ (s.bridge.state = .recovering → s.bridge.lowStage ≠ .brief → s.bridge.recoveryTimer = none)
    ∧ (s.bridge.lowTimer = none → s.bridge.lowStage = .brief)
    ∧ (s.mainRuns = true → (s.bridge.lowTimer.isSome = true ↔ s.pins.bridgeHigh = false))
    ∧ (s.mainRuns = true → s.bridge.state = .recovering → s.bridge.lowTimer = none → s.bridge.recoveryTimer.isSome = true)

/-! ### Links and the selector (5, 6) -/

/-- One slot (R85, R86, R92, R95 to R100): each timer in the states in which it runs, a link that qualifies or stands by healthy and
eligible, a candidate eligible, and an unloaded slot DOWN with its figures at 0 or in HOLDOFF. -/
abbrev State.SlotLaw (s : State) (i : Slot) : Prop :=
  ((s.link i).qualTimer.isSome = true ↔ (s.link i).state = .qualifying)
    ∧ ((s.link i).holdoffTimer.isSome = true ↔ (s.link i).state = .holdoff)
    ∧ ((s.link i).faultTimer.isSome = true ↔ (s.link i).state = .carrying ∧ (s.link i).healthy = false)
    ∧ ((s.link i).state = .down → (s.link i).staleTimer = none ∧ (s.link i).healthy = false ∧ (s.link i).stale = false
        ∧ (s.link i).fresh = false ∧ (s.link i).smoothed = 0)
    ∧ ((s.link i).state = .qualifying ∨ (s.link i).state = .standby → (s.link i).healthy = true ∧ (s.link i).eligible = true)
    ∧ ((s.link i).state = .ramping → (s.link i).eligible = true)
    ∧ ((s.link i).absent = true → (s.link i).state = .holdoff)
    ∧ ((s.linkConfig.get i).loaded = false → (s.link i).state = .down ∧ (s.link i).raw = 0 ∨ (s.link i).state = .holdoff)
    ∧ (s.link i).smoothed ≤ 100 ∧ (s.link i).raw ≤ 100 ∧ (s.link i).quality ≤ 100 ∧ (s.link i).loss ≤ 1000
    ∧ (s.mainRuns = true ∨ s.power.supervisor = .initializing → (s.link i).eligible = s.eligibleNow i)

/-- The six slots and the selector (R104, R115): the slot in RAMPING is the candidate of the swap in flight, at most one slot
carries, and the old carrier of a swap in flight is the slot that carries, or none when none does. -/
abbrev State.LinkLaw (s : State) : Prop :=
  (∀ i : Slot, s.SlotLaw i)
    ∧ (∀ i : Slot, (s.link i).state = .ramping ↔ s.selector.swap.map Swap.candidate = some i)
    ∧ (∀ i : Slot, (s.link i).state = .carrying ↔ s.carrier = some i)
    ∧ ∀ w ∈ s.selector.swap, w.oldCarrier = s.carrier

/-! ### Clock and rating (7, 8) -/

/-- The ship's clock (R125, R126, R128, R130): a date of the calendar, a trim and a window in range, and a second of the length a
trim can give it. -/
abbrev State.ClockLaw (s : State) : Prop :=
  s.clock.calendar.valid = true ∧ -127 ≤ s.clock.trim ∧ s.clock.trim ≤ 127
    ∧ s.clock.windowStart ≤ 23 ∧ s.clock.windowEnd ≤ 23
    ∧ 32641 ≤ s.clock.secondLength ∧ s.clock.secondLength ≤ 32895
    ∧ (s.clock.calendar.endsHour = false → s.clock.secondLength = Config.periodsPerSecond)

/-- The rating contexts (R131, R135 to R139): the pending context and the cause stand exactly while the settle window runs, and,
while the main domain runs, the newest context has the current period, the current zone's tariff class, and the carrier's cost
class. -/
abbrev State.RatingLaw (s : State) : Prop :=
  s.rating.pendingContext.isSome = s.rating.settleTimer.isSome
    ∧ s.rating.cause.isSome = s.rating.settleTimer.isSome
    ∧ s.rating.newest.zoneClass ≤ 7 ∧ s.rating.newest.costClass ≤ 3
    ∧ (s.mainRuns = true → s.period = s.clock.periodNow ∧ s.rating.newest.period = s.period)
    ∧ (∀ z ∈ s.coverage.zone, s.rating.newest.zoneClass = (s.zoneRecord z).tariffClass)
    ∧ ∀ i ∈ s.carrier, s.rating.newest.costClass = (s.linkConfig.get i).costClass

/-! ### The queue (9.3) -/

/-- The charge record queue (R166, R168, R171): at most 512 records, at most 511 unless the newest is a POWER_CUT record, the mark
between the occupancy and 512, and a session owed a record only while the queue holds 511 or more. -/
abbrev State.QueueLaw (s : State) : Prop :=
  s.queue.records.length ≤ s.queue.mark ∧ s.queue.mark ≤ Config.ordinaryLimit + 1
    ∧ (Config.ordinaryLimit < s.queue.records.length → s.queue.newestIsPowerCut = true)
    ∧ (s.owed ≠ [] → Config.ordinaryLimit ≤ s.queue.records.length)

/-! ### Ports and parameters (11) -/

/-- One port's pending set (R192 to R196): one entry for each kind, the entries that are not renewed first and by rising kind
number, only level kinds renewed, and the attention line low only while an entry is pending and exactly while its timer runs. -/
abbrev PortState.Lawful (x : PortState) : Prop :=
  (x.pending.map Entry.kind).Nodup
    ∧ x.pending.Pairwise (fun a b => a.renewed = true → b.renewed = true)
    ∧ (x.pending.filter fun e => !e.renewed).Pairwise (fun a b => a.kind.number < b.kind.number)
    ∧ (∀ e ∈ x.pending, e.renewed = true → e.kind ∈ levelKinds ∧ e.overrun = false)
    ∧ (x.lineLow = true → x.pending ≠ [])
    ∧ x.attention.isSome = x.lineLow

/-- The three ports, every attention line released while the main domain does not run (R175, R179, R182). -/
abbrev State.PortLaw (s : State) : Prop :=
  s.router.cell.Lawful ∧ s.router.link.Lawful ∧ s.router.purser.Lawful
    ∧ (s.mainRuns = false → s.router.cell.lineLow = false ∧ s.router.link.lineLow = false ∧ s.router.purser.lineLow = false)

/-- Every parameter lies in its range (R190). -/
abbrev State.ParamsLaw (s : State) : Prop :=
  s.params.permissiveQual ≤ 60 ∧ s.params.restrictiveQual ≤ 10 ∧ s.params.restrictiveQual ≤ s.params.permissiveQual
    ∧ (∀ n ∈ [3, 4, 5, 6, 7, 8, 9, 10, 11, 12, 14, 15, 16], ∀ r ∈ plainRange n, r.1 ≤ s.params.plain n ∧ s.params.plain n ≤ r.2)
    ∧ s.params.healthLower < s.params.healthUpper ∧ s.params.healthUpper ≤ 100

/-- All the laws together. -/
abbrev State.Lawful (s : State) : Prop :=
  s.PowerLaw ∧ s.TablesLaw ∧ s.LoadedLaw ∧ s.ParamsLaw ∧ s.SessionLaw ∧ s.CountLaw ∧ s.PartyLaw ∧ s.ReasonsLaw ∧ s.CoverageLaw
    ∧ s.ZoneLaw ∧ s.ServiceLaw ∧ s.WithdrawalLaw ∧ s.BridgeLaw ∧ s.LinkLaw ∧ s.ClockLaw ∧ s.RatingLaw ∧ s.QueueLaw ∧ s.PortLaw

end Sys2Proof.Machine
end

