-- ==== Sys2Proof/Certificates/Slice0/Obligations.lean ====
section
/-! DEFINITION. The statements for the provers. A command that a port takes is answered in its port's frame state, so a statement
that gives the answer gives it as `withFrame`, the state with that frame. -/

open Sys2Proof Sys2Proof.Machine

/-! ### The queue of commands and the ports' first checks -/

/-- With a command at the front of the queue, a step is that command's meaning over the queue's rest. -/
def Obligations.StepRunsFrontCommand : Prop :=
  ∀ (s : State) (i : Instr) (rest : List Instr), s.pending = i :: rest → step s = exec i { s with pending := rest }

/-- With no command waiting, a step lets one period of the time base pass and queues the first event that is then due; an event
that is due already is queued before any time passes. The model's choice, notes/assumptions/2.md. -/
def Obligations.IdleStepPassesOnePeriod : Prop :=
  ∀ s : State, s.pending = [] →
    (s.dueEvents = [] → step s = .next (s.elapse 1).takeDue)
      ∧ ∀ (i : Instr) (rest : List Instr), s.dueEvents = i :: rest → step s = .next { s with pending := [i] }

/-- Every well-formed command runs to a next state in every state and leaves the queue of waiting commands as it is; the one kind
of ill-formed term faults (notes/assumptions/17.md). -/
def Obligations.WellFormedCommandCompletes : Prop :=
  ∀ (i : Instr) (s : State),
    (i.wellFormed = true → ∃ t, exec i s = .next t ∧ t.pending = s.pending) ∧ (i.wellFormed = false → exec i s = .fault .illFormedCommand)

/-- A timed row has no effect while its timer is stopped or the part that owns it does not run: the main domain for all but the
clock's whole second and the end of initialization, and a low in progress for the three lengths of a low. The model's choice,
notes/assumptions/1.md and 22.md. -/
def Obligations.StoppedTimersDoNothing : Prop :=
  ∀ s : State,
    (∀ i : Instr, s.mainRuns = false →
      i ∈ [Instr.lapseSweepVisit, .fixTimerExpires, .candidateQualifies, .restoreTimerExpires, .rampTimerExpires,
          .graceTimerExpires, .lowReaches30Ms, .longLow, .stuck, .gapTimerExpires, .recoveryTimerExpires, .swapTimerExpires,
          .dwellTimerExpires, .settleWindowExpires]
        ∨ (∃ j : Slot, i ∈ [Instr.staleTimerExpires j, .linkQualificationExpires j, .faultTimerExpires j, .holdoffTimerExpires j])
        ∨ (∃ p : Port, i = .attentionTimerExpires p) →
      exec i s = .next s)
    ∧ (s.sweep.timer = none → exec .lapseSweepVisit s = .next s)
    ∧ (s.coverage.fixTimer = none → exec .fixTimerExpires s = .next s)
    ∧ (s.coverage.candidate = none → exec .candidateQualifies s = .next s)
    ∧ (s.coverage.restoreTimer = none → exec .restoreTimerExpires s = .next s)
    ∧ (s.coverage.rampTimer = none → exec .rampTimerExpires s = .next s)
    ∧ (s.coverage.graceTimer = none → exec .graceTimerExpires s = .next s)
    ∧ (s.bridge.lowTimer = none ∨ s.bridge.lowStage ≠ .brief → exec .lowReaches30Ms s = .next s)
    ∧ (s.bridge.lowTimer = none ∨ s.bridge.lowStage ≠ .counted ∨ s.bridge.state ≠ .train → exec .longLow s = .next s)
    ∧ (s.bridge.lowTimer = none ∨ s.bridge.lowStage = .brief ∨ s.bridge.lowStage = .stuck → exec .stuck s = .next s)
    ∧ (s.bridge.gapTimer = none → exec .gapTimerExpires s = .next s)
    ∧ (s.bridge.recoveryTimer = none → exec .recoveryTimerExpires s = .next s)
    ∧ (∀ j : Slot,
        ((s.link j).staleTimer = none → exec (.staleTimerExpires j) s = .next s)
        ∧ ((s.link j).qualTimer = none → exec (.linkQualificationExpires j) s = .next s)
        ∧ ((s.link j).faultTimer = none → exec (.faultTimerExpires j) s = .next s)
        ∧ ((s.link j).holdoffTimer = none → exec (.holdoffTimerExpires j) s = .next s))
    ∧ (s.selector.swap = none → exec .swapTimerExpires s = .next s)
    ∧ (s.selector.dwellTimer = none → exec .dwellTimerExpires s = .next s)
    ∧ (s.rating.settleTimer = none → exec .settleWindowExpires s = .next s)
    ∧ (∀ p : Port, (s.port p).attention = none → exec (.attentionTimerExpires p) s = .next s)
    ∧ (s.clockRuns = false → exec .wholeSecond s = .next s)
    ∧ (s.power.supervisor ≠ .initializing → exec .initializationEnds s = .next s)

/-- The checks of R188 for every command frame: no answer in OFF, STATE in RESET, INITIALIZING and FLUSHED, UNKNOWN for a code
that is not in the command summary, ROLE on a port whose role is not listed; each changes nothing but the port's frame. -/
def Obligations.PortChecksComeFirst : Prop :=
  ∀ (i : Instr) (p : Port) (code : Byte) (parameters : List Byte) (s : State),
    i.wellFormed = true → framePort i = some p → frameParts i = some (code, parameters) →
      (s.power.supervisor = .off → exec i s = .next s)
      ∧ (s.power.supervisor = .reset ∨ s.power.supervisor = .initializing ∨ s.power.supervisor = .flushed →
          exec i s = .next (s.withFrame p (.answered .state [])))
      ∧ (s.power.supervisor = .running → parameterCount code.toNat = none →
          exec i s = .next (s.withFrame p (.answered .unknown [])))
      ∧ (s.power.supervisor = .running → (parameterCount code.toNat).isSome = true → p ∉ summaryRoles code.toNat →
          exec i s = .next (s.withFrame p (.answered .role [])))

/-- A status code of 16 or above leaves everything but the port's frame as it was (R189). -/
def Obligations.RefusalLeavesStateUnchanged : Prop :=
  ∀ (i : Instr) (p : Port) (s t : State) (st : Status) (response : List Byte),
    framePort i = some p → s.power.supervisor ≠ .off → exec i s = .next t →
    (t.port p).frame = .answered st response → 16 ≤ st.code → t = s.withFrame p (.answered st response)

/-- A truncated frame sets its port's last-frame-truncated mark, gives no answer and changes nothing else (R187); that it does
nothing in OFF, where no port acts, is the model's choice, notes/assumptions/7.md. *Read status* shows the mark with the rest of its response (R191, R202), and clears it. A frame whose
code is not in the command summary is answered UNKNOWN in RUNNING (R188). How an absent context and cause read is deduced,
notes/assumptions/13.md. -/
def Obligations.FramesWithoutCommand : Prop :=
  ∀ (p : Port) (s : State),
    (∀ code : Byte, parameterCount code.toNat = none → s.power.supervisor = .running →
      exec (.unknownCommand p code) s = .next (s.withFrame p (.answered .unknown [])))
    ∧ (s.power.supervisor ≠ .off →
      exec (.truncatedFrame p) s = .next (s.setPort p { s.port p with truncated := true, frame := .idle }))
    ∧ (s.power.supervisor = .off → exec (.truncatedFrame p) s = .next s)
    ∧ (s.power.supervisor = .running →
      exec (.readStatus p) s = .next ((s.setPort p { s.port p with truncated := false }).withFrame p (.answered .ok
        ([flagByte (s.port p).truncated] ++ beBytes 4 (s.port p).enables.toNat ++ beBytes 1 (s.port p).pending.length
          ++ [flagByte (s.port p).lineLow, BitVec.ofNat 8 s.power.supervisor.code, BitVec.ofNat 8 s.power.startKind.code,
            flagByte s.power.flushing, s.bridge.standing.byte, BitVec.ofNat 8 s.bridge.state.code, slotByte s.carrier,
            slotByte (s.selector.swap.map fun w => w.candidate), slotByte (s.selector.swap.bind fun w => w.oldCarrier)]
          ++ beBytes 2 (remainingSeconds (s.selector.swap.map fun w => w.timer))
          ++ beBytes 2 (remainingSeconds s.selector.dwellTimer) ++ [slotByte s.selector.lateMark] ++ s.rating.inForce.bytes
          ++ optContextBytes s.rating.pendingContext ++ [optByte (s.rating.cause.map fun c => c.code)]
          ++ beBytes 1 (remainingSeconds s.rating.settleTimer)))))

/-- The frame of every well-formed command reads back as that command, with any bytes after it ignored, and every shorter frame
that has its code byte reads as truncated (R186, R187). Once the command is taken the part sends the filler 0, the status
code, the response bytes and then zeros as the frame's next bytes (R186, R198), and a refusal has no response bytes but for
*Attach* refused with CLOSING and *Swap confirm* refused with TOO_LATE or NOT_RAMPING; a truncated frame is given none of
these. That *Swap confirm* refused with BAD_PARAM has none is the model's, notes/assumptions/32.md. -/
def Obligations.FrameReadsBack : Prop :=
  (∀ (i : Instr) (p : Port) (bytes extra : List ClockedByte),
    i.wellFormed = true → framePort i = some p → encode i = some bytes →
      readFrame p (bytes ++ extra) = some i
        ∧ ∀ n, 0 < n → n < bytes.length → readFrame p (bytes.take n) = some (.truncatedFrame p))
  ∧ (∀ (i : Instr) (p : Port) (code : Byte) (parameters : List Byte) (n : Nat) (s : State),
    i.wellFormed = true → framePort i = some p → frameParts i = some (code, parameters) → n = parameters.length →
    s.power.supervisor ≠ .off → ∃ (t : State) (st : Status) (response : List Byte),
      exec i s = .next t
      ∧ (∀ k, k < n + 2 → t.sends p n k = none)
      ∧ t.sends p n (n + 2) = some 0
      ∧ t.sends p n (n + 3) = some (BitVec.ofNat 8 st.code)
      ∧ (∀ k, k < response.length → t.sends p n (n + 4 + k) = response[k]?)
      ∧ (∀ k, response.length ≤ k → t.sends p n (n + 4 + k) = some 0)
      ∧ (16 ≤ st.code → response = [] ∨ (∃ x a b, i = .attach p x a b) ∧ st = .closing
          ∨ (∃ b, i = .swapConfirm p b) ∧ (st = .tooLate ∨ st = .notRamping)))
  ∧ ∀ (p : Port) (s : State), s.power.supervisor ≠ .off → ∃ t : State,
      exec (.truncatedFrame p) s = .next t ∧ ∀ n k, t.sends p n k = none

/-! ### The session table (1) -/

/-- The refusals of *Attach* and the answer ALREADY, in the order of the checks of R7 and R8. -/
def Obligations.AttachChecks : Prop :=
  ∀ (s : State) (x : IdentityWord) (present index : Byte), s.power.supervisor = .running →
    (identityValid x = false ∨ boolOf present = none →
      exec (.attach .cell x present index) s = .next (s.withFrame .cell (.answered .badParam [])))
    ∧ ∀ onboard : Bool, identityValid x = true → boolOf present = some onboard →
      (s.coverage.state = .silent ∨ s.coverage.state = .qualifying ∨ s.coverage.state = .withdrawing →
        exec (.attach .cell x present index) s = .next (s.withFrame .cell (.answered .coverage [])))
      ∧ (s.coverage.state = .ramping → s.coverage.pacing = 0 →
        exec (.attach .cell x present index) s = .next (s.withFrame .cell (.answered .paced [])))
      ∧ (s.coverage.state = .radiating ∨ s.coverage.state = .ramping ∧ s.coverage.pacing ≠ 0 →
        (∀ h, s.lookupIdentity x = some h → (s.session h).served = true →
          exec (.attach .cell x present index) s =
            .next ((s.setSession h { s.session h with lapseCount := 0 }).withFrame .cell (.answered .already (beBytes 2 h))))
        ∧ (∀ h, s.lookupIdentity x = some h → (s.session h).served = false →
          exec (.attach .cell x present index) s = .next (s.withFrame .cell (.answered .closing (beBytes 2 h))))
        ∧ (s.lookupIdentity x = none → s.freeHandle = none →
          exec (.attach .cell x present index) s = .next (s.withFrame .cell (.answered .full [])))
        ∧ (s.lookupIdentity x = none → s.freeHandle.isSome = true → onboard = true →
          ((s.account index.toNat).kind ≠ .prepaid →
            exec (.attach .cell x present index) s = .next (s.withFrame .cell (.answered .badParam [])))
          ∧ ((s.account index.toNat).kind = .prepaid → (s.account index.toNat).value = 0 →
            exec (.attach .cell x present index) s = .next (s.withFrame .cell (.answered .credit []))))
        ∧ (s.lookupIdentity x = none → s.freeHandle.isSome = true → onboard = false →
          (s.matchAgreement x = none →
            exec (.attach .cell x present index) s = .next (s.withFrame .cell (.answered .noAgreement [])))
          ∧ ∀ i, s.matchAgreement x = some i →
            ((s.agreement i).state = .suspended →
              exec (.attach .cell x present index) s = .next (s.withFrame .cell (.answered .state [])))
            ∧ ((s.agreement i).state ≠ .suspended → (∀ z, s.coverage.zone = some z → zoneIn z (s.agreement i).zones = false) →
              exec (.attach .cell x present index) s = .next (s.withFrame .cell (.answered .zone [])))))

/-- An attach that passes every check takes the FREE record of the lowest handle (R9): the record it makes, the counts it raises,
the pacing count it uses, E24 when the table is then full, and nothing else. -/
def Obligations.AttachAdmits : Prop :=
  ∀ (s : State) (x : IdentityWord) (present index : Byte) (c : Charging) (h : Nat),
    s.TablesLaw → s.power.supervisor = .running → identityValid x = true →
    (s.coverage.state = .radiating ∨ s.coverage.state = .ramping ∧ s.coverage.pacing ≠ 0) →
    (∀ k, (s.session k).state ≠ .free → (s.session k).identity ≠ x) →
    h < Config.sessionCount → (s.session h).state = .free → (∀ k, k < h → (s.session k).state ≠ .free) →
    (present = 1 ∧ (s.account index.toNat).kind = .prepaid ∧ (s.account index.toNat).value ≠ 0
        ∧ c = ⟨.onboard, none, index.toNat, (s.account index.toNat).plan⟩
      ∨ present = 0 ∧ ∃ i z, s.matchAgreement x = some i ∧ (s.agreement i).state = .opened ∧ s.coverage.zone = some z
        ∧ zoneIn z (s.agreement i).zones = true ∧ c = ⟨.roaming, some i, (s.agreement i).account, (s.agreement i).plan⟩) →
    ∃ t : State,
      exec (.attach .cell x present index) s = .next (t.withFrame .cell (.answered .ok (beBytes 2 h)))
      ∧ t.session h =
          { state := .active, identity := x, basis := some c.basis, agreement := c.agreement, account := c.account, plan := c.plan,
            reasons := Reasons.none, flags := Flags.none, lapseCount := 0, openTime := s.clock.calendar, dataResidue := 0,
            voiceResidue := 0, shortfall := 0, part := 0, closeReason := none,
            segments := [⟨s.rating.inForce, false, 0, 0, 0, 0⟩] }
      ∧ (∀ k, k ≠ h → t.session k = s.session k)
      ∧ (∀ a, t.account a = { s.account a with count := (s.account a).count + if a = c.account then 1 else 0 })
      ∧ (∀ i, t.agreement i = { s.agreement i with count := (s.agreement i).count + if c.agreement = some i then 1 else 0 })
      ∧ ((∃ k, k < Config.sessionCount ∧ (t.session k).state = .free) → t.router = s.router)
      ∧ ((∀ k, k < Config.sessionCount → (t.session k).state ≠ .free) → t.router = (s.raise .tableFull h).router)
      ∧ t = { s with
          sessions := t.sessions, accounts := t.accounts, agreements := t.agreements, router := t.router,
          coverage := { s.coverage with
            pacing := s.coverage.pacing - if s.coverage.state = .ramping then 1 else 0 } }

/-- The commands that name a session by handle and act on served sessions alone: BAD_PARAM above 1,023 or for a mask with a bit of
no flag, NOT_FOUND for a FREE record, CLOSING for a closing session (R3, R11, R18, R19, R22, R23, R146). -/
def Obligations.SessionCommandsRefuse : Prop :=
  ∀ (s : State) (handle data voice : Half) (messages mask : Byte) (i : Instr) (p : Port), s.power.supervisor = .running →
    (16 ≤ mask.toNat →
      exec (.setSessionFlags .purser handle mask) s = .next (s.withFrame .purser (.answered .badParam []))
      ∧ exec (.clearSessionFlags .purser handle mask) s = .next (s.withFrame .purser (.answered .badParam [])))
    ∧ (mask.toNat < 16 →
      (i, p) ∈ [(Instr.keepalive .cell handle, Port.cell), (.release .cell handle data voice messages, .cell),
        (.usage .cell handle data voice messages, .cell), (.closeSession .purser handle, .purser),
        (.setSessionFlags .purser handle mask, .purser), (.clearSessionFlags .purser handle mask, .purser)] →
      (Config.sessionCount ≤ handle.toNat → exec i s = .next (s.withFrame p (.answered .badParam [])))
      ∧ (handle.toNat < Config.sessionCount → (s.session handle.toNat).state = .free →
          exec i s = .next (s.withFrame p (.answered .notFound [])))
      ∧ (handle.toNat < Config.sessionCount → (s.session handle.toNat).state = .closing →
          exec i s = .next (s.withFrame p (.answered .closing []))))

/-- *Close session* closes a served session by the procedure of R14: with room in the queue its CLOSE record is appended and the
record is FREE, its counts lowered (R15); without room it is CLOSING at the tail of the owed-record list (R16). The last served
session of a withdrawal ends it (R64). -/
def Obligations.CloseSessionCloses : Prop :=
  ∀ (s : State) (handle : Half), s.TablesLaw → s.power.supervisor = .running → handle.toNat < Config.sessionCount →
    (s.session handle.toNat).served = true → handle.toNat ∉ s.owed →
    ∃ t : State,
      (s.queue.records.length < Config.ordinaryLimit →
        t.queue.records = s.queue.records ++ [⟨s.clock.calendar, s.clock.notSet,
          .close ⟨handle.toNat, (s.session handle.toNat).identity, (s.session handle.toNat).account,
              (s.session handle.toNat).agreement, (s.session handle.toNat).plan, (s.session handle.toNat).openTime⟩
            .purser (s.session handle.toNat).part (s.session handle.toNat).shortfall (s.session handle.toNat).dataResidue
            (s.session handle.toNat).voiceResidue (s.session handle.toNat).segments⟩]
        ∧ t.queue.mark = max s.queue.mark (s.queue.records.length + 1)
        ∧ t.session handle.toNat = Session.free
        ∧ (∀ a, t.account a = { s.account a with
            count := (s.account a).count - if a = (s.session handle.toNat).account then 1 else 0 })
        ∧ (∀ i, t.agreement i = { s.agreement i with
            count := (s.agreement i).count - if (s.session handle.toNat).agreement = some i then 1 else 0 })
        ∧ (s.queue.records = [] → s.Latched t .recordReady)
        ∧ (s.queue.records.length + 1 = Config.ordinaryLimit → s.Latched t .queueFull)
        ∧ t = { s with sessions := t.sessions, accounts := t.accounts, agreements := t.agreements, queue := t.queue,
                       router := t.router })
      ∧ (Config.ordinaryLimit ≤ s.queue.records.length →
        t.session handle.toNat = { s.session handle.toNat with state := .closing, closeReason := some .purser }
        ∧ (s.owed = [] → s.Latched t .recordOwed) ∧ (s.owed ≠ [] → t.router = s.router)
        ∧ t = { s with sessions := t.sessions, owed := s.owed ++ [handle.toNat], router := t.router })
      ∧ (∀ k, k ≠ handle.toNat → t.session k = s.session k)
      ∧ (s.coverage.state ≠ .withdrawing ∨ t.servedCount ≠ 0 →
        exec (.closeSession .purser handle) s = .next (t.withFrame .purser (.answered .ok
          (if s.queue.records.length < Config.ordinaryLimit then [0, 0, 0] else 4 :: beBytes 2 (s.owed.length + 1)))))
      ∧ (s.coverage.state = .withdrawing → t.servedCount = 0 →
        exec (.closeSession .purser handle) s = .next (t.endWithdrawal.withFrame .purser (.answered .ok
          (if s.queue.records.length < Config.ordinaryLimit then [0, 0, 0] else 4 :: beBytes 2 (s.owed.length + 1)))))

/-- *Release* of a served session completes (R18, R153): the final usage is rated in the stages of `UsageIsRatedInStages`; then each
residue that is not zero is charged as one whole increment, data before voice, one unit at the price of the row of the context
in force, surcharged and discounted by R149; each such charge is debited, its shortfall added to the session, itemized with
zero quantities, and the residue is then 0; then the session is closed with RELEASED (R14). BARRED_USAGE is given before
CLAMPED, and the response says where the session was left: FREE, with a CLOSE record in which no residue is dropped, while
the queue has room, and otherwise CLOSING at the tail of the owed-record list. -/
def Obligations.ReleaseClosesWithoutResidue : Prop :=
  ∀ (s u v : State) (handle data voice : Half) (messages : Byte) (h d q m sum charge : Nat) (x : Session) (row : PriceRow)
    (price : Nat → Nat), s.power.supervisor = .running → handle.toNat = h → h < Config.sessionCount → s.session h = x →
    x.served = true → d = data.toNat → q = min 3600 voice.toNat → m = messages.toNat →
    row = s.priceRow x.plan s.rating.inForce.zoneClass →
    (∀ base, price base =
      if s.rating.inForce.period = .offpeak then
        ((base * (100 + s.tariff.surcharges.get s.rating.inForce.costClass) + 50) / 100
          * (100 - s.tariff.discounts.get x.plan) + 50) / 100
      else (base * (100 + s.tariff.surcharges.get s.rating.inForce.costClass) + 50) / 100) →
    sum = price ((x.dataResidue + d) / row.dataIncrement * row.dataPrice)
      + price ((x.voiceResidue + q) / row.voiceIncrement * row.voicePrice) + price (m * row.messagePrice) →
    charge = min sum 4294967295 →
    u = s.setSession h { x with
      lapseCount := 0, dataResidue := (x.dataResidue + d) % row.dataIncrement,
      voiceResidue := (x.voiceResidue + q) % row.voiceIncrement } →
    v = (if 4294967295 < sum then u.raise .chargeClamped h else u) →
    ∃ a b c t : State,
      exec (.release .cell handle data voice messages) s = .next (t.withFrame .cell (.answered
        (if x.flags.dataBar = true ∧ d ≠ 0 ∨ x.flags.voiceBar = true ∧ q ≠ 0 ∨ x.flags.msgBar = true ∧ m ≠ 0 then .barredUsage
          else if 3600 < voice.toNat then .clamped else .ok)
        (beBytes 1 (t.session h).state.code ++ beBytes 2 (t.owedPlace h))))
      ∧ v.Charged h d q m charge a
      ∧ ((a.session h).dataResidue = 0 → b = a)
      ∧ ((a.session h).dataResidue ≠ 0 → ∃ r : State,
          a.Charged h 0 0 0 (price row.dataPrice) r ∧ b = r.setSession h { r.session h with dataResidue := 0 })
      ∧ ((b.session h).voiceResidue = 0 → c = b)
      ∧ ((b.session h).voiceResidue ≠ 0 → ∃ r : State,
          b.Charged h 0 0 0 (price row.voicePrice) r ∧ c = r.setSession h { r.session h with voiceResidue := 0 })
      ∧ t = (c.closeSession h .released).reportServed
      ∧ (s.Lawful →
        (c.queue.records.length < Config.ordinaryLimit →
          t.session h = Session.free
          ∧ t.queue.records = c.queue.records ++ [⟨s.clock.calendar, s.clock.notSet,
              .close ⟨h, x.identity, x.account, x.agreement, x.plan, x.openTime⟩ .released (c.session h).part
                (c.session h).shortfall 0 0 (c.session h).segments⟩])
        ∧ (Config.ordinaryLimit ≤ c.queue.records.length →
          t.session h = { c.session h with state := .closing, closeReason := some .released }
          ∧ (c.session h).dataResidue = 0 ∧ (c.session h).voiceResidue = 0 ∧ t.owed = s.owed ++ [h]))

/-- The flag commands (R22, R23): the flags of the mask join or leave the set, HOLD newly set or newly cleared moves the reason
HOLD with it, with E14 or E15 where a live session changes state, and nothing else changes. -/
def Obligations.SessionFlagsMoveHold : Prop :=
  ∀ (s : State) (handle : Half) (mask : Byte) (h : Nat) (x : Session),
    s.power.supervisor = .running → mask.toNat < 16 → handle.toNat = h → h < Config.sessionCount → s.session h = x →
    x.served = true → (x.state = .active → x.reasons = Reasons.none) →
    ((Flags.ofMask mask).hold = false ∨ x.flags.hold = true →
      exec (.setSessionFlags .purser handle mask) s =
        .next ((s.setSession h { x with flags := x.flags.union (Flags.ofMask mask) }).withFrame .purser
          (.answered .ok [(x.flags.union (Flags.ofMask mask)).byte])))
    ∧ ((Flags.ofMask mask).hold = true → x.flags.hold = false →
      (x.state = .active → exec (.setSessionFlags .purser handle mask) s =
        .next (((s.setSession h { x with
            flags := x.flags.union (Flags.ofMask mask), reasons := { x.reasons with hold := true }, state := .suspended }).raise
              .sessionSuspended h).withFrame .purser (.answered .ok [(x.flags.union (Flags.ofMask mask)).byte])))
      ∧ (x.state ≠ .active → exec (.setSessionFlags .purser handle mask) s =
        .next ((s.setSession h { x with
            flags := x.flags.union (Flags.ofMask mask), reasons := { x.reasons with hold := true } }).withFrame .purser
              (.answered .ok [(x.flags.union (Flags.ofMask mask)).byte]))))
    ∧ ((Flags.ofMask mask).hold = false ∨ x.flags.hold = false →
      exec (.clearSessionFlags .purser handle mask) s =
        .next ((s.setSession h { x with flags := x.flags.without (Flags.ofMask mask) }).withFrame .purser
          (.answered .ok [(x.flags.without (Flags.ofMask mask)).byte])))
    ∧ ((Flags.ofMask mask).hold = true → x.flags.hold = true →
      (x.state = .suspended → { x.reasons with hold := false } = Reasons.none →
        exec (.clearSessionFlags .purser handle mask) s =
          .next (((s.setSession h { x with
              flags := x.flags.without (Flags.ofMask mask), reasons := Reasons.none, state := .active }).raise .sessionResumed h).withFrame
                .purser (.answered .ok [(x.flags.without (Flags.ofMask mask)).byte])))
      ∧ (x.state ≠ .suspended ∨ { x.reasons with hold := false } ≠ Reasons.none →
        exec (.clearSessionFlags .purser handle mask) s =
          .next ((s.setSession h { x with
              flags := x.flags.without (Flags.ofMask mask), reasons := { x.reasons with hold := false } }).withFrame .purser
                (.answered .ok [(x.flags.without (Flags.ofMask mask)).byte]))))

/-- *Keepalive* sets the lapse count of a served session to 0 and changes nothing else (R11). A visit of the lapse sweep (R12,
R13): the time to it passes, the sweep moves on to the next handle, a visit to handle 0 taking up the lapse period in force, a
1,024th of a quarter of the pass's lapse period away (8 periods for each second of it); and the record visited is left alone,
counted, or closed with LAPSED and E13. A timed row first lets the time that remains to its timer pass (the model's choice,
notes/assumptions/1.md). -/
def Obligations.LapseCountKeptAndSwept : Prop :=
  (∀ (s : State) (handle : Half), s.power.supervisor = .running → handle.toNat < Config.sessionCount →
    (s.session handle.toNat).served = true →
    exec (.keepalive .cell handle) s =
      .next ((s.setSession handle.toNat { s.session handle.toNat with lapseCount := 0 }).withFrame .cell (.answered .ok [])))
  ∧ ∀ (s : State) (r h l : Nat) (u : State), s.mainRuns = true → s.sweep.timer = some r → s.sweep.position = h →
    (l = if h = 0 then s.params.lapsePeriod else s.sweep.lapsePeriod) →
    u = { s.elapse r with sweep := ⟨(h + 1) % 1024, l, some (8 * l)⟩ } →
    ((s.session h).served = false → exec .lapseSweepVisit s = .next u)
    ∧ ((s.session h).served = true → (s.session h).lapseCount < 3 →
      exec .lapseSweepVisit s = .next (u.setSession h { s.session h with lapseCount := (s.session h).lapseCount + 1 }))
    ∧ ((s.session h).served = true → 3 ≤ (s.session h).lapseCount →
      exec .lapseSweepVisit s = .next ((u.closeSession h .lapsed).raise .sessionLapsed h).reportServed)

/-- The reads of sessions, accounts, agreements, links, zones and the clock change nothing and answer OK with the fields of
R25, R35, R45, R50, R102 and R133 in the layouts of R200 and R202, those of a session and a segment written out last; a handle, index, slot, zone or identity out of range is
BAD_PARAM, and an identity no session holds NOT_FOUND. How absent fields read is deduced, notes/assumptions/13.md. -/
def Obligations.ReadsChangeNothing : Prop :=
  ∀ (s : State) (p : Port), s.power.supervisor = .running →
    (∀ handle : Half,
      (1024 ≤ handle.toNat → exec (.readSessionByHandle p handle) s = .next (s.withFrame p (.answered .badParam [])))
      ∧ (handle.toNat < 1024 → exec (.readSessionByHandle p handle) s = .next (s.withFrame p (.answered .ok
          ((s.session handle.toNat).bytes handle.toNat (s.owedPlace handle.toNat))))))
    ∧ (∀ x : IdentityWord,
      (identityValid x = false → exec (.readSessionByIdentity p x) s = .next (s.withFrame p (.answered .badParam [])))
      ∧ (identityValid x = true → s.lookupIdentity x = none →
          exec (.readSessionByIdentity p x) s = .next (s.withFrame p (.answered .notFound [])))
      ∧ ∀ h, identityValid x = true → s.lookupIdentity x = some h →
          exec (.readSessionByIdentity p x) s = .next (s.withFrame p (.answered .ok ((s.session h).bytes h (s.owedPlace h)))))
    ∧ (∀ a : Byte, exec (.readAccount p a) s = .next (s.withFrame p (.answered .ok
        (beBytes 1 (s.account a.toNat).kind.code ++ beBytes 6 (s.account a.toNat).value ++ beBytes 6 (s.account a.toNat).threshold
          ++ beBytes 1 (s.account a.toNat).plan ++ beBytes 2 (s.account a.toNat).count
          ++ beBytes 1 (s.agreementsNaming a.toNat)))))
    ∧ (∀ i : Byte,
      (64 ≤ i.toNat → exec (.readAgreement p i) s = .next (s.withFrame p (.answered .badParam [])))
      ∧ (i.toNat < 64 → exec (.readAgreement p i) s = .next (s.withFrame p (.answered .ok
          (beBytes 1 (s.agreement i.toNat).state.code ++ beBytes 1 (s.agreement i.toNat).codeLength
            ++ beBytes 3 (s.agreement i.toNat).code.toNat ++ beBytes 2 (s.agreement i.toNat).zones.toNat
            ++ beBytes 1 (s.agreement i.toNat).plan ++ beBytes 1 (s.agreement i.toNat).account
            ++ beBytes 2 (s.agreement i.toNat).count)))))
    ∧ (∀ b : Byte, 6 ≤ b.toNat → exec (.readLink p b) s = .next (s.withFrame p (.answered .badParam [])))
    ∧ (∀ (b : Byte) (i : Slot), b.toNat = i.val → exec (.readLink p b) s = .next (s.withFrame p (.answered .ok
        ([flagByte (s.linkConfig.get i).loaded] ++ beBytes 1 (s.linkConfig.get i).kind.code
          ++ beBytes 1 (s.linkConfig.get i).costClass ++ beBytes 1 (s.linkConfig.get i).rank
          ++ beBytes 2 (s.linkConfig.get i).zones.toNat ++ beBytes 1 (s.link i).state.code ++ [flagByte (s.link i).present]
          ++ beBytes 1 (s.link i).quality ++ beBytes 2 (s.link i).loss ++ beBytes 2 (s.link i).latency
          ++ beBytes 1 (s.link i).raw ++ beBytes 1 (s.link i).smoothed
          ++ [flagByte (s.link i).healthy, flagByte (s.link i).stale, flagByte (s.link i).eligible, flagByte (s.link i).fresh,
            flagByte (s.link i).absent]
          ++ beBytes 2 (remainingSeconds (s.link i).staleTimer) ++ beBytes 2 (remainingSeconds (s.link i).qualTimer)
          ++ beBytes 2 (remainingSeconds (s.link i).faultTimer) ++ beBytes 2 (remainingSeconds (s.link i).holdoffTimer)))))
    ∧ (∀ b : Byte, 16 ≤ b.toNat → exec (.readZone p b) s = .next (s.withFrame p (.answered .badParam [])))
    ∧ (∀ b : Byte, b.toNat < 16 → exec (.readZone p b) s = .next (s.withFrame p (.answered .ok
        ([flagByte (s.zoneRecord b.toNat).loaded] ++ beBytes 1 (s.zoneRecord b.toNat).policy.code
          ++ beBytes 2 (s.zoneRecord b.toNat).grace ++ beBytes 1 (s.zoneRecord b.toNat).tariffClass
          ++ beBytes 1 s.coverage.state.code
          ++ [optByte s.coverage.zone, optByte s.coverage.lastZone, optByte (s.coverage.candidate.map fun c => c.zone),
            optByte (s.coverage.candidate.map fun c => c.kind.code)]
          ++ beBytes 1 s.coverage.pacing ++ [flagByte s.coverage.permit] ++ beBytes 2 s.coverage.graceInForce))))
    ∧ exec (.readClock p) s = .next (s.withFrame p (.answered .ok
        ([s.clock.calendar.seconds, s.clock.calendar.minutes, s.clock.calendar.hours, s.clock.calendar.date,
            s.clock.calendar.month, s.clock.calendar.year, s.clock.calendar.dayOfWeek].map (BitVec.ofNat 8)
          ++ [flagByte s.clock.notSet, flagByte (decide (s.clock.trim < 0)), BitVec.ofNat 8 s.clock.trim.natAbs]
          ++ beBytes 1 s.clock.windowStart ++ beBytes 1 s.clock.windowEnd ++ beBytes 1 s.period.code)))
    ∧ (∀ (x : Session) (h place : Nat), x.bytes h place =
        beBytes 2 h
          ++ ([match x.state with | .free => 0 | .active => 1 | .suspended => 2 | .draining => 3 | .closing => 4] : List Byte)
          ++ beBytes 8 x.identity.toNat
          ++ ([match x.basis with | some .roaming => 0 | some .onboard => 1 | none => 255,
            match x.agreement with | some i => BitVec.ofNat 8 i | none => 255,
            BitVec.ofNat 8 x.account, BitVec.ofNat 8 x.plan,
            (if x.reasons.credit then 1 else 0) + (if x.reasons.zone then 2 else 0) + (if x.reasons.agreement then 4 else 0)
              + (if x.reasons.hold then 8 else 0),
            (if x.flags.dataBar then 1 else 0) + (if x.flags.voiceBar then 2 else 0) + (if x.flags.msgBar then 4 else 0)
              + (if x.flags.hold then 8 else 0),
            BitVec.ofNat 8 x.lapseCount] : List Byte)
          ++ [x.openTime.seconds, x.openTime.minutes, x.openTime.hours, x.openTime.date, x.openTime.month, x.openTime.year,
            x.openTime.dayOfWeek].map (BitVec.ofNat 8)
          ++ beBytes 2 x.dataResidue ++ [BitVec.ofNat 8 x.voiceResidue] ++ beBytes 6 x.shortfall
          ++ ([BitVec.ofNat 8 x.part,
            match x.closeReason with
            | none => 0
            | some .released => 1
            | some .lapsed => 2
            | some .coverageEnd => 3
            | some .purser => 4] : List Byte)
          ++ beBytes 2 place ++ [BitVec.ofNat 8 x.segments.length] ++ x.segments.flatMap Segment.bytes)
    ∧ ∀ g : Segment, g.bytes =
        [BitVec.ofNat 8 g.key.zoneClass, BitVec.ofNat 8 g.key.costClass, if g.key.period = .offpeak then 1 else 0,
            if g.mixed then 1 else 0]
          ++ beBytes 4 g.data ++ beBytes 4 g.voice ++ beBytes 4 g.messages ++ beBytes 6 g.charge

/-! ### Agreements and accounts (2) -/

/-- Lookup by identity finds the one session that is not FREE and holds it (R6); an identity matches the six-digit agreement of its
first six digits, or else the five-digit agreement of its first five, among the agreements that are not EMPTY, whatever their
state (R29). -/
def Obligations.LookupAndLongestMatch : Prop :=
  ∀ (s : State) (x : IdentityWord), s.TablesLaw → s.SessionLaw → s.LoadedLaw → s.PartyLaw →
    (∀ h, s.lookupIdentity x = some h ↔ (s.session h).state ≠ .free ∧ (s.session h).identity = x)
    ∧ ∀ i, s.matchAgreement x = some i ↔
        (s.agreement i).state ≠ .empty
        ∧ ((s.agreement i).codeLength = 6 ∧ (s.agreement i).code = x.extractLsb' 40 24
          ∨ (s.agreement i).codeLength = 5 ∧ (s.agreement i).code.extractLsb' 4 20 = x.extractLsb' 44 20
            ∧ ∀ j, (s.agreement j).state ≠ .empty → (s.agreement j).codeLength = 6 → (s.agreement j).code ≠ x.extractLsb' 40 24)

/-- *Load agreement* makes the checks of R30 in their order; a load that passes them writes the record with its count kept and
sends the AGREEMENT and ZONE changes of R32 and R33, both together, to the served sessions under it, with E14 and E15 exactly
where a session is suspended or resumed by them (R4, R5). -/
def Obligations.LoadAgreementChecksAndSends : Prop :=
  ∀ (s : State) (index state len : Byte) (code : CodeWord) (zones : Half) (plan account : Byte) (old : Agreement),
    s.TablesLaw → s.SessionLaw → s.power.supervisor = .running → s.agreement index.toNat = old →
    (64 ≤ index.toNat → exec (.loadAgreement .purser index state len code zones plan account) s =
      .next (s.withFrame .purser (.answered .badParam [])))
    ∧ (index.toNat < 64 →
      (state = 0 → old.count ≠ 0 → exec (.loadAgreement .purser index state len code zones plan account) s =
        .next (s.withFrame .purser (.answered .busy [])))
      ∧ (state = 0 → old.count = 0 → exec (.loadAgreement .purser index state len code zones plan account) s =
        .next ((s.setAgreement index.toNat Agreement.emptied).withFrame .purser (.answered .ok [])))
      ∧ (state ≠ 0 →
        (2 < state.toNat ∨ codeValid len.toNat code = false ∨ 7 < plan.toNat
            ∨ (s.account account.toNat).kind ≠ .settlement
            ∨ (∃ j, j ≠ index.toNat ∧ (s.agreement j).state ≠ .empty ∧ (s.agreement j).codeLength = len.toNat
                ∧ (s.agreement j).code = code) →
          exec (.loadAgreement .purser index state len code zones plan account) s =
            .next (s.withFrame .purser (.answered .badParam [])))
        ∧ (state.toNat ≤ 2 → codeValid len.toNat code = true → plan.toNat ≤ 7 → (s.account account.toNat).kind = .settlement →
            (∀ j, j ≠ index.toNat → (s.agreement j).state ≠ .empty → (s.agreement j).codeLength = len.toNat →
              (s.agreement j).code ≠ code) →
          (old.state ≠ .empty → old.count ≠ 0 →
              (old.codeLength ≠ len.toNat ∨ old.code ≠ code ∨ old.account ≠ account.toNat) →
            exec (.loadAgreement .purser index state len code zones plan account) s =
              .next (s.withFrame .purser (.answered .busy [])))
          ∧ (old.state = .empty ∨ old.count = 0
              ∨ old.codeLength = len.toNat ∧ old.code = code ∧ old.account = account.toNat →
            ∃ t : State,
              exec (.loadAgreement .purser index state len code zones plan account) s =
                .next (t.withFrame .purser (.answered .ok []))
              ∧ t = { s with agreements := t.agreements, sessions := t.sessions, router := t.router }
              ∧ t.agreement index.toNat = ⟨if state = 1 then .opened else .suspended, len.toNat, code, zones, plan.toNat,
                  account.toNat, old.count⟩
              ∧ (∀ j, j ≠ index.toNat → t.agreement j = s.agreement j)
              ∧ s.TellsReasons t
              ∧ ∀ h, t.session h =
                  if (s.session h).served = true ∧ (s.session h).agreement = some index.toNat then
                    (s.session h).judged { (s.session h).reasons with
                      agreement :=
                        if old.state = .opened ∧ state = 2 then true
                        else if old.state = .suspended ∧ state = 1 then false
                        else (s.session h).reasons.agreement
                      zone :=
                        match s.coverage.zone with
                        | some z => if old.state = .empty ∨ old.zones = zones then (s.session h).reasons.zone else !zoneIn z zones
                        | none => (s.session h).reasons.zone }
                  else s.session h))))

/-- *Account set* (R38) and *Account adjust* (R40): the checks in their order, the value and the record each writes, and the value
each answers with. What writing a record does to the account's sessions is `CreditFollowsValue`. -/
def Obligations.AccountCommandsWrite : Prop :=
  ∀ (s : State) (index kind sign : Byte) (value threshold magnitude : Value48) (plan : Byte) (a : Account),
    s.power.supervisor = .running → s.account index.toNat = a →
    (2 < kind.toNat ∨ 7 < plan.toNat → exec (.accountSet .purser index kind value threshold plan) s =
      .next (s.withFrame .purser (.answered .badParam [])))
    ∧ (∀ k : AccountKind, accountKindOf kind = some k → plan.toNat ≤ 7 →
      (k ≠ a.kind → a.count ≠ 0 ∨ s.agreementsNaming index.toNat ≠ 0 →
        exec (.accountSet .purser index kind value threshold plan) s = .next (s.withFrame .purser (.answered .busy [])))
      ∧ (k = a.kind ∨ a.count = 0 ∧ s.agreementsNaming index.toNat = 0 →
        exec (.accountSet .purser index kind value threshold plan) s =
          .next ((s.writeAccount index.toNat
            ⟨k, if k = .closed then 0 else value.toNat, if k = .prepaid then threshold.toNat else 0,
              if k = .prepaid then plan.toNat else 0, a.count⟩).withFrame .purser (.answered .ok (beBytes 6 a.value)))))
    ∧ (2 ≤ sign.toNat ∨ Config.maxDelta < magnitude.toNat → exec (.accountAdjust .purser index sign magnitude) s =
        .next (s.withFrame .purser (.answered .badParam [])))
    ∧ (sign.toNat < 2 → magnitude.toNat ≤ Config.maxDelta →
      (a.kind = .closed → exec (.accountAdjust .purser index sign magnitude) s =
        .next (s.withFrame .purser (.answered .notFound [])))
      ∧ (a.kind ≠ .closed → a.value ≤ Config.maxValue →
        (magnitude = 0 → exec (.accountAdjust .purser index sign magnitude) s =
          .next (s.withFrame .purser (.answered .ok (beBytes 6 a.value))))
        ∧ (magnitude ≠ 0 → sign = 1 → exec (.accountAdjust .purser index sign magnitude) s =
          .next ((s.writeAccount index.toNat { a with value := a.value - magnitude.toNat }).withFrame .purser
            (.answered (if a.value < magnitude.toNat then .clamped else .ok) (beBytes 6 a.value))))
        ∧ (magnitude ≠ 0 → sign = 0 → exec (.accountAdjust .purser index sign magnitude) s =
          .next ((s.writeAccount index.toNat { a with value := min Config.maxValue (a.value + magnitude.toNat) }).withFrame .purser
            (.answered (if Config.maxValue < a.value + magnitude.toNat then .clamped else .ok) (beBytes 6 a.value))))))

/-- A record written to the account table by *Account set* or *Account adjust* changes that record alone; for a PREPAID account
CREDIT is then in the reason set of every served session on it exactly when the value is zero, with E14 and E15 exactly where
that suspends or resumes a session, and E16 is raised at zero and only there; for the other kinds nothing reaches any session
(R38, R39, R40, R4, R5). -/
def Obligations.CreditFollowsValue : Prop :=
  ∀ (s : State) (a : Nat) (new : Account), s.TablesLaw → s.SessionLaw →
    (s.writeAccount a new).account a = new
    ∧ (∀ b, b ≠ a → (s.writeAccount a new).account b = s.account b)
    ∧ (new.kind ≠ .prepaid → s.writeAccount a new = { s with accounts := (s.writeAccount a new).accounts })
    ∧ (new.kind = .prepaid →
      s.writeAccount a new = { s with accounts := (s.writeAccount a new).accounts, sessions := (s.writeAccount a new).sessions,
                                      router := (s.writeAccount a new).router }
      ∧ (∀ h, (s.writeAccount a new).session h =
          if (s.session h).served = true ∧ (s.session h).account = a then
            (s.session h).judged { (s.session h).reasons with credit := new.value == 0 }
          else s.session h)
      ∧ s.TellsReasons (s.writeAccount a new)
      ∧ (new.value = 0 → s.Latched (s.writeAccount a new) .creditExhausted)
      ∧ (new.value ≠ 0 → s.Unlatched (s.writeAccount a new) .creditExhausted))

/-- A debit takes what the account can give and hands the rest over as shortfall (R41, R42, R43): a PREPAID value falls to no less
than zero, with E17 exactly when it passes below the threshold, and E16 with CREDIT exactly when it ends at zero, E14 telling of
the sessions that suspends; a SETTLEMENT value rises to no more than its limit, with E18 exactly when it saturates. -/
def Obligations.DebitSplitsCharge : Prop :=
  ∀ (s : State) (a charge : Nat) (c : Account) (t : State) (taken short : Nat),
    s.TablesLaw → s.SessionLaw → s.account a = c → s.debit a charge = (t, taken, short) →
    (charge = 0 → t = s ∧ taken = 0 ∧ short = 0)
    ∧ (charge ≠ 0 → c.kind = .prepaid →
      taken = min charge c.value ∧ taken + short = charge
      ∧ t.account a = { c with value := c.value - taken } ∧ (∀ b, b ≠ a → t.account b = s.account b)
      ∧ (c.threshold ≤ c.value → c.value - taken < c.threshold → s.Latched t .lowBalance)
      ∧ (c.value < c.threshold ∨ c.threshold ≤ c.value - taken → s.Unlatched t .lowBalance)
      ∧ (c.value - taken = 0 → s.Latched t .creditExhausted)
      ∧ (c.value - taken ≠ 0 → s.Unlatched t .creditExhausted)
      ∧ s.TellsReasons t
      ∧ (∀ h, t.session h =
          if c.value - taken = 0 ∧ (s.session h).served = true ∧ (s.session h).account = a then
            (s.session h).judged { (s.session h).reasons with credit := true }
          else s.session h)
      ∧ t = { s with accounts := t.accounts, sessions := t.sessions, router := t.router })
    ∧ (charge ≠ 0 → c.kind = .settlement → c.value ≤ Config.maxValue →
      taken = min charge (Config.maxValue - c.value) ∧ taken + short = charge
      ∧ t.account a = { c with value := c.value + taken } ∧ (∀ b, b ≠ a → t.account b = s.account b)
      ∧ (short = 0 → t.router = s.router) ∧ (short ≠ 0 → t.router = (s.raise .settlementSaturated a).router)
      ∧ t = { s with accounts := t.accounts, router := t.router })

/-! ### Zones and coverage (3) -/

/-- *Load zone* (R48, R49): BAD_PARAM for a zone, flag, policy or class out of range, a grace above 600 s clamped, the record
written; a zone that is not the current one changes nothing else, and for the current zone the radiation condition of R58 is
judged afresh and the tariff class sent. The judgement is `CoverageJudged`: radiation that becomes allowed in SILENT starts the
restore timer, and in RAMPING or RADIATING a loss begins a withdrawal with the new record's grace, 0 s if unloaded (R59 to R63). -/
def Obligations.LoadZoneWrites : Prop :=
  ∀ (s : State) (zone loaded policy : Byte) (grace : Half) (cls : Byte) (r : ZoneRecord),
    s.power.supervisor = .running →
    (s.radiationAllowed = true ↔ ∃ z, s.coverage.zone = some z ∧ (s.zoneRecord z).loaded = true ∧ (s.zoneRecord z).policy = .radiate
      ∧ s.bridge.standing.silence = false ∧ s.bridge.standing.harbor = false ∧ s.power.flushing = false)
    ∧ (16 ≤ zone.toNat ∨ 2 ≤ loaded.toNat ∨ loaded = 1 ∧ (2 ≤ policy.toNat ∨ 8 ≤ cls.toNat) →
      exec (.loadZone .purser zone loaded policy grace cls) s = .next (s.withFrame .purser (.answered .badParam [])))
    ∧ (zone.toNat < 16 →
        (loaded = 0 ∧ r = ⟨false, .radiate, 0, 0⟩
          ∨ loaded = 1 ∧ policy.toNat < 2 ∧ cls.toNat < 8
            ∧ r = ⟨true, if policy = 0 then .radiate else .noRadiate, min 600 grace.toNat, cls.toNat⟩) →
      (s.coverage.zone ≠ some zone.toNat →
        exec (.loadZone .purser zone loaded policy grace cls) s =
          .next (({ s with zones := s.zones.set ZoneRecord.unloaded zone.toNat r } : State).withFrame .purser
            (.answered (if loaded = 1 ∧ 600 < grace.toNat then .clamped else .ok) [])))
      ∧ (s.coverage.zone = some zone.toNat → ∀ u v : State,
        u = { s with zones := s.zones.set ZoneRecord.unloaded zone.toNat r } → v = u.judgeCoverage s.radiationAllowed r.grace →
        exec (.loadZone .purser zone loaded policy grace cls) s =
          .next ((v.sendZoneClass r.tariffClass).withFrame .purser
            (.answered (if loaded = 1 ∧ 600 < grace.toNat then .clamped else .ok) []))
        ∧ (s.Lawful → u.CoverageJudged v s.radiationAllowed u.radiationAllowed r.grace
          ∧ v = { u with
              coverage := v.coverage, sessions := v.sessions, owed := v.owed, accounts := v.accounts, agreements := v.agreements
              queue := v.queue, router := v.router }
          ∧ v.coverage = { s.coverage with
              state := v.coverage.state, permit := v.coverage.permit, restoreTimer := v.coverage.restoreTimer
              rampTimer := v.coverage.rampTimer, graceTimer := v.coverage.graceTimer, graceInForce := v.coverage.graceInForce
              pacing := v.coverage.pacing })))

/-- *Zone report* on the cell and link ports (R51, R53, R54, R55): 255 changes nothing, 16 to 254 is BAD_PARAM, and a zone number
starts the fix timer anew and acts on the candidate by its kind. `set` makes the reported zone the candidate of kind `k`, or
qualifies it at once where the qualification time is 0 s (R56). -/
def Obligations.ZoneReportMovesCandidate : Prop :=
  ∀ (s u : State) (p : Port) (b : Byte) (kind : ZoneKind) (set : State),
    s.power.supervisor = .running → p = .cell ∨ p = .link →
    kind = (if (s.zoneRecord b.toNat).loaded = true ∧ (s.zoneRecord b.toNat).policy = .radiate then .permissive else .restrictive) →
    u = { s with coverage := { s.coverage with fixTimer := some (s.params.fixTimeout * Config.periodsPerSecond) } } →
    set = (if s.params.qualificationTime kind = 0 then u.qualifyZone b.toNat
      else { u with coverage := { u.coverage with
        candidate := some ⟨b.toNat, kind, s.params.qualificationTime kind * Config.periodsPerSecond⟩ } }) →
    (b = 255 → exec (.zoneReport p b) s = .next (s.withFrame p (.answered .ok [optByte s.coverage.zone, BitVec.ofNat 8 s.coverage.state.code])))
    ∧ (16 ≤ b.toNat → b ≠ 255 → exec (.zoneReport p b) s = .next (s.withFrame p (.answered .badParam [])))
    ∧ (b.toNat < 16 → ∃ t : State,
      exec (.zoneReport p b) s = .next (t.withFrame p (.answered .ok [optByte t.coverage.zone, BitVec.ofNat 8 t.coverage.state.code]))
      ∧ (s.coverage.zone = some b.toNat →
          (∀ c, s.coverage.candidate = some c → c.kind = .permissive → t = { u with coverage := { u.coverage with candidate := none } })
          ∧ (s.coverage.candidate = none ∨ (∃ c, s.coverage.candidate = some c ∧ c.kind = .restrictive) → t = u))
      ∧ (s.coverage.zone ≠ some b.toNat → s.coverage.zone.isSome = true ∨ kind = .permissive →
          (s.coverage.candidate = none → t = set)
          ∧ ∀ c, s.coverage.candidate = some c →
              (c.zone = b.toNat → t = u)
              ∧ (c.zone ≠ b.toNat → c.kind = .permissive → t = set)
              ∧ (c.zone ≠ b.toNat → c.kind = .restrictive → kind = .permissive → t = u)
              ∧ (c.zone ≠ b.toNat → c.kind = .restrictive → kind = .restrictive →
                  t = { u with coverage := { u.coverage with candidate := some { c with zone := b.toNat } } }))
      ∧ (s.coverage.zone = none → kind = .restrictive → t = u.qualifyZone b.toNat))

/-- The candidate's qualification timer and the fix timer (R52, R56, R57): the candidate's zone becomes the current and last
known zone with E2, the newest rating context takes its tariff class, and every served roaming session is judged against it,
with E14 and E15 exactly where that suspends or resumes a session; or the current zone becomes UNKNOWN, the candidate is
dropped, E3 is raised and no session's reasons change, nor is E14 or E15 raised. Then the radiation condition is judged
(`CoverageJudged`): a loss in RAMPING or RADIATING begins a withdrawal with E1 and the grace timer at the new zone's grace, or at
the last known zone's when the zone is UNKNOWN, or ends service at once (R58 to R63). `v` is the state with the sessions judged. A
timed row first lets the time that remains to its timer pass (the model's choice, notes/assumptions/1.md). -/
def Obligations.ZoneTimersChangeZone : Prop :=
  ∀ s : State, s.Lawful → s.mainRuns = true →
    (∀ c, s.coverage.candidate = some c → ∃ v t : State,
      v = { s.elapse c.timer with sessions := v.sessions }
      ∧ (∀ h, v.session h =
          match (s.session h).agreement with
          | some i => if (s.session h).served = true then
              (s.session h).judged { (s.session h).reasons with zone := !zoneIn c.zone (s.agreement i).zones } else s.session h
          | none => s.session h)
      ∧ v.CoverageJudged t s.radiationAllowed t.radiationAllowed (s.zoneRecord c.zone).grace
      ∧ exec .candidateQualifies s = .next t
      ∧ t.coverage.zone = some c.zone ∧ t.coverage.lastZone = some c.zone ∧ t.coverage.candidate = none
      ∧ s.Latched t .zoneChanged
      ∧ t.rating.newest.zoneClass = (s.zoneRecord c.zone).tariffClass
      ∧ (∀ h i, (t.session h).served = true → (t.session h).agreement = some i →
          (t.session h).reasons.zone = !zoneIn c.zone (s.agreement i).zones)
      ∧ s.TellsReasons t
      ∧ (s.coverage.state.inService = true → (s.zoneRecord c.zone).kind = .restrictive →
          t.coverage.state = .withdrawing ∧ t.coverage.graceInForce = (s.zoneRecord c.zone).grace
            ∧ t.coverage.graceTimer = some ((s.zoneRecord c.zone).grace * Config.periodsPerSecond) ∧ s.Latched t .coverageChanged
            ∧ (∀ h, (t.session h).live = false)
          ∨ t.coverage.state = .silent ∧ ∀ h, (t.session h).served = false)
      ∧ t.power = s.power ∧ t.tariff = s.tariff ∧ t.zones = s.zones ∧ t.linkConfig = s.linkConfig ∧ t.params = s.params
      ∧ t.bridge.standing = s.bridge.standing ∧ t.clock.calendar = s.clock.calendar)
    ∧ (∀ r, s.coverage.fixTimer = some r → ∃ t : State,
      exec .fixTimerExpires s = .next t
      ∧ (s.elapse r).CoverageJudged t s.radiationAllowed false
          (match s.coverage.lastZone with
          | some z => (s.zoneRecord z).grace
          | none => 0)
      ∧ t.coverage.zone = none ∧ t.coverage.candidate = none ∧ t.coverage.fixTimer = none
      ∧ t.coverage.lastZone = s.coverage.lastZone ∧ s.Latched t .zoneUnknown
      ∧ t.rating.inForce = s.rating.inForce ∧ t.rating.pendingContext = s.rating.pendingContext
      ∧ (∀ h, (t.session h).served = true → (t.session h).reasons = (s.session h).reasons)
      ∧ s.Unlatched t .sessionSuspended ∧ s.Unlatched t .sessionResumed
      ∧ (∀ i : Slot, (t.link i).eligible = ((s.linkConfig.get i).loaded &&
          match (s.linkConfig.get i).kind with
          | .satellite => true
          | .shoreCellular => false
          | .harbor => s.bridge.standing.harbor))
      ∧ t.power = s.power ∧ t.tariff = s.tariff ∧ t.zones = s.zones ∧ t.linkConfig = s.linkConfig ∧ t.params = s.params
      ∧ t.bridge.standing = s.bridge.standing ∧ t.clock.calendar = s.clock.calendar)

/-- The restore and ramp timers (R60, R61): QUALIFYING gives way to RAMPING with the permit raised, the ramp timer started and
the pacing count at the admission pace, and RAMPING to RADIATING with the count 0; each change raises E1 with the current
zone, and a ramp period of 0 s ends as it starts. A timed row first lets the time that remains to its timer pass (the model's
choice, notes/assumptions/1.md). -/
def Obligations.RestoreAndRampTimers : Prop :=
  ∀ (s u v : State) (r : Nat), s.mainRuns = true → u = s.elapse r →
    v = ({ u with coverage := { u.coverage with
        state := .ramping, restoreTimer := none, rampTimer := some (s.params.rampPeriod * Config.periodsPerSecond),
        pacing := s.params.admissionPace, permit := true } } : State).raise .coverageChanged (s.coverage.zone.getD 255) →
    (s.coverage.state = .qualifying → s.coverage.restoreTimer = some r →
      (s.params.rampPeriod ≠ 0 → exec .restoreTimerExpires s = .next v)
      ∧ (s.params.rampPeriod = 0 → exec .restoreTimerExpires s =
          .next (({ v with coverage := { v.coverage with state := .radiating, rampTimer := none, pacing := 0 } } : State).raise
            .coverageChanged (s.coverage.zone.getD 255))))
    ∧ (s.coverage.state = .ramping → s.coverage.rampTimer = some r →
      exec .rampTimerExpires s =
        .next (({ u with coverage := { u.coverage with state := .radiating, rampTimer := none, pacing := 0, permit := true } }
          : State).raise .coverageChanged (s.coverage.zone.getD 255)))

/-- The grace timer ends a withdrawal (R64, R21, R59): every session still DRAINING is closed with COVERAGE_END by rising handle, the
lowest handles with a CLOSE record while the queue has room and the rest owed one; nobody is served, and the coverage state is
SILENT with the permit low and E1, or, where radiation has become allowed meanwhile, QUALIFYING with the restore timer started at
the restore delay and a second E1, and past it where the delay is 0 s. `w` is the state at the entry into SILENT. The same entry
ends a withdrawal whose last session has been closed, with no record. A timed row first lets the time that remains to its timer
pass (the model's choice, notes/assumptions/1.md). -/
def Obligations.GraceTimerEndsWithdrawal : Prop :=
  (∀ s w : State, s.TablesLaw →
    w = ({ s with coverage := s.coverage.stopped } : State).raise .coverageChanged (s.coverage.zone.getD 255) →
    (s.coverage.state ≠ .withdrawing ∨ s.servedHandles ≠ [] → s.reportServed = s)
    ∧ (s.coverage.state = .withdrawing → s.servedHandles = [] →
      s.reportServed = s.endWithdrawal
      ∧ (s.radiationAllowed = false → s.endWithdrawal = w)
      ∧ (s.radiationAllowed = true → w.Qualifies s.endWithdrawal
        ∧ s.endWithdrawal = { w with coverage := s.endWithdrawal.coverage, router := s.endWithdrawal.router })))
  ∧ ∀ (s u w : State) (r : Nat), s.Lawful → s.mainRuns = true → s.coverage.graceTimer = some r → u = s.elapse r →
    w = ({ u with coverage := u.coverage.stopped } : State).raise .coverageChanged (s.coverage.zone.getD 255) →
    ∃ t : State,
      exec .graceTimerExpires s = .next t
      ∧ u.ClosesServed t
      ∧ (s.radiationAllowed = false → w.CoverageIs t 0 w.coverage)
      ∧ (s.radiationAllowed = true → w.Qualifies t)
      ∧ s.Latched t .coverageChanged
      ∧ t.coverage.graceTimer = none ∧ t.coverage.graceInForce = 0
      ∧ (s.radiationAllowed = false → t.coverage.state = .silent ∧ t.coverage.permit = false)
      ∧ (s.radiationAllowed = true → t.coverage.state = .qualifying ∨ t.coverage.state = .ramping ∨ t.coverage.state = .radiating)
      ∧ (∀ h, (s.session h).state = .draining →
          t.session h = Session.free
          ∨ t.session h = { s.session h with state := .closing, closeReason := some .coverageEnd } ∧ h ∈ t.owed)
      ∧ (∀ h, (s.session h).state ≠ .draining → t.session h = s.session h)
      ∧ t.power = s.power ∧ t.tariff = s.tariff ∧ t.zones = s.zones ∧ t.linkConfig = s.linkConfig ∧ t.params = s.params
      ∧ t.rating.inForce = s.rating.inForce ∧ t.selector.swap.isSome = s.selector.swap.isSome
      ∧ t.bridge.standing = s.bridge.standing ∧ t.coverage.zone = s.coverage.zone

/-! ### The bridge order line (4) -/

/-- The edges of the bridge order line and the lengths of a low (R70 to R73, R75, R76): what each does in each decoder state. At a
rise the low is classified by its length, `e` periods so far, whatever of it has been taken before: a glitch, a pulse, a long
low, or a stuck one. An edge to the level already held does nothing, and an edge in a main domain that does not run changes
the line alone: both are the model's, notes/assumptions/8.md and 28.md. A timed row first lets the time that remains to its
timer pass (the model's choice, notes/assumptions/1.md). The durations in periods, the stage of a low with the lengths a rise
takes first, and the rise of a glitch before the recovery timer has been started are the model's: notes/assumptions/4.md,
22.md, 14.md. -/
def Obligations.BridgeLineTimed : Prop :=
  ∀ (s : State) (b : Bridge), s.bridge = b →
    (s.pins.bridgeHigh = false → exec .bridgeLineFall s = .next s)
    ∧ (s.pins.bridgeHigh = true → exec .bridgeLineRise s = .next s)
    ∧ (s.mainRuns = false → s.pins.bridgeHigh = true →
        exec .bridgeLineFall s = .next { s with pins := { s.pins with bridgeHigh := false } })
    ∧ (s.mainRuns = false → s.pins.bridgeHigh = false →
        exec .bridgeLineRise s = .next { s with pins := { s.pins with bridgeHigh := true } })
    ∧ (s.mainRuns = true → s.pins.bridgeHigh = true →
        exec .bridgeLineFall s = .next { s with
          pins := { s.pins with bridgeHigh := false }, bridge := { b with lowTimer := some 0, lowStage := .brief } })
    ∧ (∀ (e : Nat) (r : Bridge) (after : Bridge → State), s.mainRuns = true → s.pins.bridgeHigh = false → b.lowTimer = some e →
        r = { b with lowTimer := none, lowStage := .brief } →
        (∀ c, after c = { s with pins := { s.pins with bridgeHigh := true }, bridge := c }) →
        (b.lowStage = .brief → e < 984 →
          (b.state ≠ .recovering ∨ b.recoveryTimer.isSome = true → exec .bridgeLineRise s = .next (after r))
          ∧ (b.state = .recovering → b.recoveryTimer = none →
              exec .bridgeLineRise s = .next (after { r with recoveryTimer := some 26215 })))
        ∧ (b.lowStage = .counted ∨ b.lowStage = .brief ∧ 984 ≤ e → e < 13108 →
          (b.state = .idle → b.lowStage = .brief → exec .bridgeLineRise s =
            .next (after { r with state := .train, pulseCount := 1, longLow := false, gapTimer := some 26215 }))
          ∧ (b.state = .train → exec .bridgeLineRise s =
              .next (after { r with pulseCount := min 5 (b.pulseCount + 1), gapTimer := some 26215 }))
          ∧ (b.state = .recovering → exec .bridgeLineRise s = .next (after { r with recoveryTimer := some 26215 })))
        ∧ (b.lowStage ≠ .stuck → 13108 ≤ e → e < 163840 →
          (b.state = .idle → b.lowStage = .brief → exec .bridgeLineRise s =
            .next (after { r with state := .train, pulseCount := 0, longLow := true, gapTimer := some 26215 }))
          ∧ (b.state = .train → b.lowStage = .long → exec .bridgeLineRise s = .next (after { r with gapTimer := some 26215 }))
          ∧ (b.state = .train → b.lowStage ≠ .long → exec .bridgeLineRise s =
              .next (after { r with longLow := true, gapTimer := some 26215 }))
          ∧ (b.state = .recovering → exec .bridgeLineRise s = .next (after { r with recoveryTimer := some 26215 })))
        ∧ (b.lowStage ≠ .stuck → 163840 ≤ e →
          (b.state = .train ∨ b.state = .idle ∧ b.lowStage = .brief → exec .bridgeLineRise s =
            .next ((after { r with
              state := .recovering, pulseCount := 0, longLow := false, gapTimer := none, stuckReported := true,
              recoveryTimer := some 26215 }).raise .bridgeBad 3))
          ∧ (b.state = .recovering → b.stuckReported = false → exec .bridgeLineRise s =
              .next ((after { r with stuckReported := true, recoveryTimer := some 26215 }).raise .bridgeBad 3))
          ∧ (b.state = .recovering → b.stuckReported = true → exec .bridgeLineRise s =
              .next (after { r with recoveryTimer := some 26215 })))
        ∧ (b.lowStage = .stuck → b.state = .recovering → exec .bridgeLineRise s =
            .next (after { r with recoveryTimer := some 26215 })))
    ∧ (∀ e u, s.mainRuns = true → b.lowTimer = some e → b.lowStage = .brief → u = s.elapse (984 - e) → ∃ r : Bridge,
        exec .lowReaches30Ms s = .next { u with bridge := r }
        ∧ (b.state = .idle → r = { u.bridge with state := .train, pulseCount := 0, longLow := false, lowStage := .counted })
        ∧ (b.state = .train → r = { u.bridge with gapTimer := none, lowStage := .counted })
        ∧ (b.state = .recovering → r = { u.bridge with recoveryTimer := none, lowStage := .counted }))
    ∧ (∀ e u, s.mainRuns = true → b.lowTimer = some e → b.lowStage = .counted → b.state = .train → u = s.elapse (13108 - e) →
        exec .longLow s = .next { u with bridge := { u.bridge with longLow := true, lowStage := .long } })
    ∧ (∀ e u, s.mainRuns = true → b.lowTimer = some e → b.lowStage = .counted ∨ b.lowStage = .long →
        u = s.elapse (163840 - e) →
        (b.state = .train → exec .stuck s =
          .next (({ u with bridge := { u.bridge with
            state := .recovering, pulseCount := 0, longLow := false, gapTimer := none, stuckReported := true, lowStage := .stuck } }
              : State).raise .bridgeBad 3))
        ∧ (b.state = .recovering → b.stuckReported = false → exec .stuck s =
          .next (({ u with bridge := { u.bridge with stuckReported := true, lowStage := .stuck } } : State).raise .bridgeBad 3))
        ∧ (b.state = .recovering → b.stuckReported = true → exec .stuck s =
          .next { u with bridge := { u.bridge with lowStage := .stuck } }))
    ∧ (∀ r, s.mainRuns = true → b.recoveryTimer = some r →
        exec .recoveryTimerExpires s = .next { s.elapse r with
          bridge := { (s.elapse r).bridge with state := .idle, stuckReported := false, recoveryTimer := none } })

/-- A train is judged as a whole when the gap timer expires (R74, R77): a long low or five pulses discard it with E5; one to
four pulses give the order of that count with E4, and the standing orders become as the table of R77 says. SILENCE newly taken
closes every served session and leaves the coverage state SILENT (R65, R78). Every other order has the radiation condition judged
(`CoverageJudged`): HARBOR taken in RAMPING or RADIATING begins a withdrawal with the current zone's grace, and SILENCE or HARBOR
cancelled in SILENT begins QUALIFYING where radiation is then allowed (R63, R68, R78). A timed row first lets the time that
remains to its timer pass (the model's choice, notes/assumptions/1.md). -/
def Obligations.TrainGivesOrder : Prop :=
  ∀ (s u : State) (r : Nat) (b : Bridge), s.Lawful → s.mainRuns = true → s.bridge = b → b.gapTimer = some r → u = s.elapse r →
    (b.longLow = true → exec .gapTimerExpires s =
      .next (({ u with bridge := { u.bridge with state := .idle, pulseCount := 0, longLow := false, gapTimer := none } }
        : State).raise .bridgeBad 1))
    ∧ (b.longLow = false → b.pulseCount = 5 → exec .gapTimerExpires s =
      .next (({ u with bridge := { u.bridge with state := .idle, pulseCount := 0, longLow := false, gapTimer := none } }
        : State).raise .bridgeBad 2))
    ∧ (b.longLow = false → b.pulseCount ≠ 5 → ∃ t : State,
      exec .gapTimerExpires s = .next t
      ∧ s.Latched t .bridgeOrder
      ∧ t.bridge = { u.bridge with
          state := .idle, pulseCount := 0, longLow := false, gapTimer := none,
          standing :=
            if b.pulseCount = 1 then ⟨false, false, false⟩
            else if b.pulseCount = 2 then { b.standing with silence := !b.standing.silence }
            else if b.pulseCount = 3 then { b.standing with harbor := !b.standing.harbor }
            else { b.standing with linkHold := !b.standing.linkHold } }
      ∧ (b.pulseCount = 2 → b.standing.silence = false →
          t.coverage.state = .silent ∧ t.coverage.permit = false ∧ (∀ h, (t.session h).served = false)
          ∧ u.CoverageIs t (if s.coverage.state = .silent then 0 else 1) u.coverage.stopped ∧ u.ClosesServed t)
      ∧ (b.pulseCount ≠ 2 ∨ b.standing.silence = true →
          u.CoverageJudged t s.radiationAllowed t.radiationAllowed
            (match s.coverage.zone with
            | some z => (s.zoneRecord z).grace
            | none => 0))
      ∧ (b.pulseCount = 4 → t.coverage = u.coverage ∧ t.sessions = s.sessions)
      ∧ t.power = s.power ∧ t.tariff = s.tariff ∧ t.zones = s.zones ∧ t.linkConfig = s.linkConfig ∧ t.params = s.params
      ∧ t.clock.calendar = s.clock.calendar ∧ t.rating.inForce = s.rating.inForce
      ∧ t.coverage.zone = s.coverage.zone)

/-! ### Shore links (5) -/

/-- *Link report* (R86 to R91, R95 to R100): the clamps, the raw and smoothed figures, the healthy flag, and what the report does
in each link state; a hard failure of the candidate abandons the swap with E9 (R113), one of the carrier faults it with E10 and
E11 (R99, R121). `base` is the link with the report's fields stored, `fed` with its figures and stale timer as well. -/
def Obligations.LinkReportActs : Prop :=
  ∀ (s : State) (b present quality : Byte) (loss latency : Half) (i : Slot) (l base fed : Link) (q n raw sm : Nat)
    (healthy hard : Bool), s.power.supervisor = .running →
    (6 ≤ b.toNat ∨ 2 ≤ present.toNat →
      exec (.linkReport .link b present quality loss latency) s = .next (s.withFrame .link (.answered .badParam [])))
    ∧ (b.toNat = i.val → present.toNat < 2 → s.link i = l → q = min 100 quality.toNat → n = min 1000 loss.toNat →
      raw = min 100 (q - n / 10 - min (latency.toNat / 100) 50) →
      hard = (decide (s.params.hardLossLimit ≤ n) || present == 0) →
      sm = (if l.state = .down ∨ l.fresh = true then raw else (3 * l.smoothed + raw + 2) / 4) →
      healthy = (if s.params.healthUpper ≤ sm then true else if sm ≤ s.params.healthLower then false
        else l.state != .down && l.healthy) →
      base = { l with present := present == 1, quality := q, loss := n, latency := latency.toNat } →
      fed = { base with
        raw := raw, smoothed := sm, healthy := healthy, fresh := false, stale := false,
        staleTimer := some (s.params.staleTime * Config.periodsPerSecond) } →
      ∃ t : State,
        exec (.linkReport .link b present quality loss latency) s = .next (t.withFrame .link (.answered
          (if 100 < quality.toNat ∨ 1000 < loss.toNat then .clamped else .ok)
          [BitVec.ofNat 8 (t.link i).state.code, BitVec.ofNat 8 (t.link i).smoothed, flagByte (t.link i).healthy,
            flagByte (t.link i).eligible]))
        ∧ t = { s with links := t.links, selector := t.selector, router := t.router }
        ∧ ((s.linkConfig.get i).loaded = false →
          (l.state ≠ .holdoff → t = s.setLink i base)
          ∧ (l.state = .holdoff → t = s.setLink i { base with
              staleTimer := some (s.params.staleTime * Config.periodsPerSecond), stale := false,
              absent := l.absent || present == 0 }))
        ∧ ((s.linkConfig.get i).loaded = true →
          (l.state = .down → present = 0 → t = s.setLink i { base with raw := raw })
          ∧ (l.state = .holdoff → t = s.setLink i { base with
              raw := raw, staleTimer := some (s.params.staleTime * Config.periodsPerSecond), stale := false,
              absent := l.absent || present == 0 })
          ∧ (l.state = .down ∨ l.state = .idle → present = 1 → t = s.setLink i { fed with
              state := if hard = false ∧ healthy = true ∧ l.eligible = true then .qualifying else .idle
              qualTimer := if hard = false ∧ healthy = true ∧ l.eligible = true
                then some (s.params.linkQual * Config.periodsPerSecond) else l.qualTimer })
          ∧ (l.state = .qualifying ∨ l.state = .standby → present = 1 → t = s.setLink i { fed with
              state := if hard = false ∧ healthy = true then l.state else .idle
              qualTimer := if hard = false ∧ healthy = true then l.qualTimer else none })
          ∧ (l.state = .idle ∨ l.state = .qualifying ∨ l.state = .standby → present = 0 → t = s.setLink i { base with
              state := .down, raw := 0, smoothed := 0, healthy := false, stale := false, fresh := false, staleTimer := none,
              qualTimer := none })
          ∧ (l.state = .ramping → hard = false → t = s.setLink i fed)
          ∧ (l.state = .carrying → hard = false → t = s.setLink i { fed with
              faultTimer := if healthy = true then none
                else if l.healthy = true then some (s.params.faultQual * Config.periodsPerSecond) else l.faultTimer })
          ∧ (l.state = .ramping ∨ l.state = .carrying → hard = true →
            t.link i = { fed with
              state := .holdoff, holdoffTimer := some (s.params.holdoff * Config.periodsPerSecond), healthy := false,
              qualTimer := none, faultTimer := none, absent := present == 0 })
          ∧ (l.state = .ramping → hard = true → s.Latched t .swapAbandoned ∧ ∀ w, t.selector.swap = some w → w.candidate ≠ i)
          ∧ (l.state = .carrying → hard = true → s.Latched t .linkFault ∧ s.Latched t .shoreDark
              ∧ ∀ w, t.selector.swap = some w → w.oldCarrier ≠ some i)))

/-- *Load link* (R84, R85, R94): BAD_PARAM for a field out of range, BUSY for the unloading of a candidate or carrier or a change of
its kind or cost class; the configuration written, the eligible flag judged from it (R93), and what a change of the flag does in
each link state; a slot unloaded in DOWN stays there with its figures at 0 (R86). -/
def Obligations.LoadLinkJudges : Prop :=
  ∀ (s : State) (b loaded kind cost rank : Byte) (zones : Half) (i : Slot) (l : Link), s.power.supervisor = .running →
    (6 ≤ b.toNat ∨ 2 ≤ loaded.toNat ∨ loaded = 1 ∧ (3 ≤ kind.toNat ∨ 4 ≤ cost.toNat ∨ rank = 0 ∨ 16 ≤ rank.toNat) →
      exec (.loadLink .purser b loaded kind cost rank zones) s = .next (s.withFrame .purser (.answered .badParam [])))
    ∧ (b.toNat = i.val → s.link i = l →
      (loaded = 0 → l.state = .ramping ∨ l.state = .carrying →
        exec (.loadLink .purser b loaded kind cost rank zones) s = .next (s.withFrame .purser (.answered .busy [])))
      ∧ (loaded = 0 → l.state = .down ∨ l.state = .idle ∨ l.state = .qualifying ∨ l.state = .standby →
        exec (.loadLink .purser b loaded kind cost rank zones) s =
          .next ((({ s with linkConfig := s.linkConfig.set i LinkConfig.unloaded } : State).setLink i { l with
            state := .down, raw := 0, smoothed := 0, healthy := false, stale := false, fresh := false, eligible := false,
            staleTimer := none, qualTimer := none }).withFrame .purser (.answered .ok [])))
      ∧ (loaded = 0 → l.state = .holdoff →
        exec (.loadLink .purser b loaded kind cost rank zones) s =
          .next ((({ s with linkConfig := s.linkConfig.set i LinkConfig.unloaded } : State).setLink i { l with
            eligible := false }).withFrame .purser (.answered .ok [])))
      ∧ ∀ (k : LinkKind) (e : Bool), loaded = 1 → linkKindOf kind = some k → cost.toNat ≤ 3 → 1 ≤ rank.toNat → rank.toNat ≤ 15 →
        e = eligibleFor ⟨true, k, cost.toNat, rank.toNat, zones⟩ s.coverage.zone s.bridge.standing.harbor → s.LinkLaw →
        (l.state = .ramping ∨ l.state = .carrying →
          (s.linkConfig.get i).kind ≠ k ∨ (s.linkConfig.get i).costClass ≠ cost.toNat →
          exec (.loadLink .purser b loaded kind cost rank zones) s = .next (s.withFrame .purser (.answered .busy [])))
        ∧ (l.state ≠ .ramping → l.state ≠ .carrying →
          exec (.loadLink .purser b loaded kind cost rank zones) s =
            .next ((({ s with linkConfig := s.linkConfig.set i ⟨true, k, cost.toNat, rank.toNat, zones⟩ } : State).setLink i { l with
              eligible := e
              state := if l.state = .idle ∧ l.eligible = false ∧ e = true ∧ l.healthy = true then .qualifying
                else if (l.state = .qualifying ∨ l.state = .standby) ∧ e = false then .idle else l.state
              qualTimer := if l.state = .idle ∧ l.eligible = false ∧ e = true ∧ l.healthy = true
                then some (s.params.linkQual * Config.periodsPerSecond)
                else if (l.state = .qualifying ∨ l.state = .standby) ∧ e = false then none else l.qualTimer }).withFrame
                  .purser (.answered .ok [])))
        ∧ (l.state = .ramping ∨ l.state = .carrying → (s.linkConfig.get i).kind = k → (s.linkConfig.get i).costClass = cost.toNat →
          ∃ t : State,
            exec (.loadLink .purser b loaded kind cost rank zones) s = .next (t.withFrame .purser (.answered .ok []))
            ∧ t = { s with linkConfig := t.linkConfig, links := t.links, selector := t.selector, router := t.router }
            ∧ t.linkConfig = s.linkConfig.set i ⟨true, k, cost.toNat, rank.toNat, zones⟩
            ∧ (t.link i).eligible = e
            ∧ (e = true → t.link i = { l with eligible := true } ∧ t.selector.swap = s.selector.swap)
            ∧ (l.state = .carrying → (t.link i).state = .carrying)
            ∧ (l.state = .ramping → e = false →
                (t.link i).state = .idle ∧ s.Latched t .swapAbandoned ∧ ∀ w, t.selector.swap = some w → w.candidate ≠ i)))

/-- The four timers of a link (R92, R97, R99, R100): going stale, which takes a link out of QUALIFYING and STANDBY and starts
a healthy carrier's fault timer; entering STANDBY, which the selector is told of; the carrier's fault with E10 and E11; and
the end of HOLDOFF, to DOWN when absent or unloaded and to IDLE with the fresh mark set otherwise. A timed row first lets the
time that remains to its timer pass (the model's choice, notes/assumptions/1.md). That a stale link's fresh mark is cleared is
deduced, notes/assumptions/29.md. -/
def Obligations.LinkTimersAct : Prop :=
  ∀ (s u : State) (i : Slot) (r : Nat) (l : Link), s.mainRuns = true → u = s.elapse r → u.link i = l →
    ((s.link i).staleTimer = some r →
      exec (.staleTimerExpires i) s = .next ((u.setLink i { l with
        smoothed := 0, healthy := false, stale := true, fresh := false, staleTimer := none
        state := if l.state = .qualifying ∨ l.state = .standby then .idle else l.state
        qualTimer := if l.state = .qualifying ∨ l.state = .standby then none else l.qualTimer
        faultTimer := if l.state = .carrying ∧ l.healthy = true then some (s.params.faultQual * Config.periodsPerSecond)
          else l.faultTimer }).raise .linkStale i.val))
    ∧ ((s.link i).qualTimer = some r → l.state = .qualifying →
      exec (.linkQualificationExpires i) s = .next (u.setLink i { l with state := .standby, qualTimer := none }).considerSwap)
    ∧ ((s.link i).faultTimer = some r → l.state = .carrying → ∃ t : State,
      exec (.faultTimerExpires i) s = .next t
      ∧ t.link i = { l with
          state := .holdoff, holdoffTimer := some (s.params.holdoff * Config.periodsPerSecond), healthy := false,
          qualTimer := none, faultTimer := none, absent := false }
      ∧ s.Latched t .linkFault ∧ s.Latched t .shoreDark
      ∧ (∀ w, t.selector.swap = some w → w.oldCarrier ≠ some i)
      ∧ t = { u with links := t.links, selector := t.selector, router := t.router })
    ∧ ((s.link i).holdoffTimer = some r → l.state = .holdoff →
      (l.absent = true ∨ (s.linkConfig.get i).loaded = false →
        exec (.holdoffTimerExpires i) s = .next (u.setLink i { l with
          state := .down, raw := 0, smoothed := 0, healthy := false, stale := false, fresh := false, absent := false,
          staleTimer := none, qualTimer := none, holdoffTimer := none }))
      ∧ (l.absent = false → (s.linkConfig.get i).loaded = true →
        exec (.holdoffTimerExpires i) s = .next (u.setLink i { l with
          state := .idle, smoothed := 0, fresh := true, healthy := false, absent := false, holdoffTimer := none })))

/-! ### Link selection and swaps (6) -/

/-- The best standby (R107): among the links in STANDBY the lowest cost class, then the highest rank, then the lowest slot; there
is exactly one when any link is in STANDBY; every STANDBY link is healthy and eligible; and a *Load link* that changes the cost
class or rank of a STANDBY link, or the rank of the carrier, starts no consideration. -/
def Obligations.BestStandbyIsLeast : Prop :=
  ∀ s : State,
    (∀ b : Slot, s.bestStandby = some b ↔
      (s.link b).state = .standby
      ∧ ∀ j : Slot, (s.link j).state = .standby → j ≠ b →
          (s.linkConfig.get b).costClass < (s.linkConfig.get j).costClass
          ∨ (s.linkConfig.get b).costClass = (s.linkConfig.get j).costClass
            ∧ ((s.linkConfig.get j).rank < (s.linkConfig.get b).rank
              ∨ (s.linkConfig.get j).rank = (s.linkConfig.get b).rank ∧ b < j))
    ∧ (s.bestStandby = none ↔ ∀ j : Slot, (s.link j).state ≠ .standby)
    ∧ (s.LinkLaw → ∀ j : Slot, (s.link j).state = .standby → (s.link j).healthy = true ∧ (s.link j).eligible = true)
    ∧ ∀ (i : Slot) (b kind cost rank : Byte) (zones : Half), s.LinkLaw → s.power.supervisor = .running → b.toNat = i.val →
        linkKindOf kind = some (s.linkConfig.get i).kind → zones = (s.linkConfig.get i).zones → cost.toNat ≤ 3 →
        1 ≤ rank.toNat → rank.toNat ≤ 15 →
        (s.link i).state = .standby ∨ (s.link i).state = .carrying ∧ cost.toNat = (s.linkConfig.get i).costClass →
        exec (.loadLink .purser b 1 kind cost rank zones) s =
          .next (({ s with linkConfig := s.linkConfig.set i ⟨true, (s.linkConfig.get i).kind, cost.toNat, rank.toNat, zones⟩ }
            : State).withFrame .purser (.answered .ok []))

/-- A consideration (R108 to R111): it starts nothing while a swap is in flight or no link is in STANDBY; otherwise it starts a
swap onto the best standby when the swap is forced, or when it is voluntary by the margin with the dwell timer stopped and LINK
HOLD not standing. A start takes the candidate to RAMPING, records the carrier as old carrier, starts the swap timer, clears the
late mark and raises E7. -/
def Obligations.ConsiderationStartsSwap : Prop :=
  ∀ (s : State),
    (s.selector.swap.isSome = true ∨ (∀ j : Slot, (s.link j).state ≠ .standby) → s.considerSwap = s)
    ∧ ∀ b : Slot, s.selector.swap = none → s.bestStandby = some b →
      ((s.carrier = none ∨ (∃ c, s.carrier = some c ∧ (s.link c).eligible = false)
          ∨ ∃ c, s.carrier = some c ∧ (s.link c).eligible = true ∧ s.selector.dwellTimer = none
            ∧ s.bridge.standing.linkHold = false
            ∧ ((s.linkConfig.get b).costClass < (s.linkConfig.get c).costClass
              ∨ (s.linkConfig.get b).costClass = (s.linkConfig.get c).costClass
                ∧ (s.linkConfig.get c).rank + 2 ≤ (s.linkConfig.get b).rank)) →
        s.considerSwap = ({ s with
          links := s.links.set b { s.link b with state := .ramping }
          selector := { s.selector with
            swap := some ⟨b, s.carrier, s.params.swapTimeout * Config.periodsPerSecond⟩, lateMark := none } } : State).raise
              .swapBegin b.val)
      ∧ (∀ c, s.carrier = some c → (s.link c).eligible = true →
          s.selector.dwellTimer.isSome = true ∨ s.bridge.standing.linkHold = true
            ∨ (s.linkConfig.get c).costClass < (s.linkConfig.get b).costClass
            ∨ (s.linkConfig.get b).costClass = (s.linkConfig.get c).costClass
              ∧ (s.linkConfig.get b).rank < (s.linkConfig.get c).rank + 2 →
          s.considerSwap = s)

/-- A *Swap confirm* that names the candidate completes the swap in the order of R116: the old carrier to STANDBY or IDLE, the
candidate to CARRYING with its fault timer started when it is not healthy, the dwell timer started, E8, and the cost class sent to
the rating engine. With a swap dwell of 0 s the dwell timer ends as it starts and causes one more consideration (R105). -/
def Obligations.SwapConfirmCompletes : Prop :=
  ∀ (s : State) (b : Byte) (w : Swap) (links : Slots Link) (t : State),
    s.LinkLaw → s.power.supervisor = .running → s.selector.swap = some w → b.toNat = w.candidate.val →
    links = (match w.oldCarrier with
      | some o => s.links.set o { s.link o with
          state := if (s.link o).healthy = true ∧ (s.link o).eligible = true then .standby else .idle, faultTimer := none,
          fresh := if (s.link o).healthy = true ∧ (s.link o).eligible = true then (s.link o).fresh else false }
      | none => s.links) →
    t = (({ s with
      links := links.set w.candidate { s.link w.candidate with
        state := .carrying,
        faultTimer := if (s.link w.candidate).healthy = true then none else some (s.params.faultQual * Config.periodsPerSecond) }
      selector := ⟨none, some (s.params.swapDwell * Config.periodsPerSecond), s.selector.lateMark⟩ } : State).raise
        .swapDone w.candidate.val).sendCostClass (s.linkConfig.get w.candidate).costClass →
    (s.params.swapDwell ≠ 0 →
      exec (.swapConfirm .link b) s = .next (t.withFrame .link (.answered .ok [b, 255])))
    ∧ (s.params.swapDwell = 0 → ∃ v : State,
      v = ({ t with selector := { t.selector with dwellTimer := none } } : State).considerSwap
      ∧ exec (.swapConfirm .link b) s =
          .next (v.withFrame .link (.answered .ok [b, slotByte (v.selector.swap.map fun x => x.candidate)])))

/-- A *Swap confirm* that does not name the candidate of a swap in flight changes nothing (R117): BAD_PARAM above 5, TOO_LATE for
the slot of the late mark, NOT_RAMPING for any other; the response of the last two gives the carrier and the candidate. That
BAD_PARAM comes with no response bytes is the model's, notes/assumptions/32.md. -/
def Obligations.SwapConfirmOtherRefused : Prop :=
  ∀ (s : State) (b : Byte), s.power.supervisor = .running →
    (5 < b.toNat → exec (.swapConfirm .link b) s = .next (s.withFrame .link (.answered .badParam [])))
    ∧ ∀ i : Slot, b.toNat = i.val → (∀ w, s.selector.swap = some w → w.candidate ≠ i) →
      (s.selector.lateMark = some i → exec (.swapConfirm .link b) s = .next (s.withFrame .link (.answered .tooLate
        [slotByte s.carrier, slotByte (s.selector.swap.map fun w => w.candidate)])))
      ∧ (s.selector.lateMark ≠ some i → exec (.swapConfirm .link b) s = .next (s.withFrame .link (.answered .notRamping
        [slotByte s.carrier, slotByte (s.selector.swap.map fun w => w.candidate)])))

/-- The swap and dwell timers (R118, R105): the swap abandoned, its candidate in HOLDOFF with the absent mark clear, the late
mark set to it, E9, and a consideration; the dwell timer stopped, and a consideration. A timed row first lets the time that
remains to its timer pass (the model's choice, notes/assumptions/1.md). -/
def Obligations.SwapAndDwellTimers : Prop :=
  ∀ (s u : State) (r : Nat), s.mainRuns = true → u = s.elapse r →
    (∀ w, s.selector.swap = some w → w.timer = r →
      exec .swapTimerExpires s = .next ((({ u with
        links := u.links.set w.candidate { u.link w.candidate with
          state := .holdoff, holdoffTimer := some (s.params.holdoff * Config.periodsPerSecond), healthy := false,
          qualTimer := none, faultTimer := none, absent := false }
        selector := { u.selector with swap := none, lateMark := some w.candidate } } : State).raise
          .swapAbandoned w.candidate.val).considerSwap))
    ∧ (s.selector.dwellTimer = some r →
      exec .dwellTimerExpires s = .next ({ u with selector := { u.selector with dwellTimer := none } } : State).considerSwap)

/-! ### The ship's clock (7) -/

/-- A whole second (R124 to R126, R131, R61): the calendar advances by one second with the carries of R125, the sub-second
count starts from 0 with the periods that have passed since the second was complete (notes/assumptions/20.md), the last second of an hour is shortened by the trim; while the main domain runs an hour edge settles the
period and the pacing count is refilled in RAMPING. A timed row first lets the time that remains to its timer pass (the
model's choice, notes/assumptions/1.md). What a second leaves alone outside the main domain's running is deduced,
notes/assumptions/28.md. -/
def Obligations.WholeSecondAdvancesCalendar : Prop :=
  (∀ (s u v w : State) (edge : Bool), s.clockRuns = true → u = s.elapse (s.clock.secondLength - s.clock.subSecond) →
    edge = (s.clock.calendar.minutes == 59 && s.clock.calendar.seconds == 59) →
    v = { u with clock := { u.clock with
      calendar := s.clock.calendar.advance, subSecond := s.clock.subSecond - s.clock.secondLength
      secondLength :=
        if s.clock.calendar.advance.minutes = 59 ∧ s.clock.calendar.advance.seconds = 59
        then ((32768 : Int) - s.clock.trim).toNat else 32768 } } →
    w = (if edge = true then v.settlePeriod else v) →
    (s.mainRuns = false → exec .wholeSecond s = .next v)
    ∧ (s.mainRuns = true → s.coverage.state ≠ .ramping → exec .wholeSecond s = .next w)
    ∧ (s.mainRuns = true → s.coverage.state = .ramping →
        exec .wholeSecond s = .next { w with coverage := { w.coverage with pacing := s.params.admissionPace } }))
  ∧ ∀ (c : Calendar) (day : Nat), c.valid = true → day = c.dayOfWeek % 7 + 1 →
    c.advance.valid = true
    ∧ (c.seconds < 59 → c.advance = { c with seconds := c.seconds + 1 })
    ∧ (c.seconds = 59 → c.minutes < 59 → c.advance = { c with seconds := 0, minutes := c.minutes + 1 })
    ∧ (c.seconds = 59 → c.minutes = 59 → c.hours < 23 → c.advance = { c with seconds := 0, minutes := 0, hours := c.hours + 1 })
    ∧ (c.seconds = 59 → c.minutes = 59 → c.hours = 23 → c.date < lastDate c.month c.year →
        c.advance = ⟨0, 0, 0, c.date + 1, c.month, c.year, day⟩)
    ∧ (c.seconds = 59 → c.minutes = 59 → c.hours = 23 → c.date = lastDate c.month c.year → c.month < 12 →
        c.advance = ⟨0, 0, 0, 1, c.month + 1, c.year, day⟩)
    ∧ (c.seconds = 59 → c.minutes = 59 → c.hours = 23 → c.date = lastDate c.month c.year → c.month = 12 →
        c.advance = ⟨0, 0, 0, 1, 1, (c.year + 1) % 100, day⟩)
    ∧ lastDate c.month c.year =
        if c.month ∈ [1, 3, 5, 7, 8, 10, 12] then 31 else if c.month ∈ [4, 6, 9, 11] then 30 else if c.year % 4 = 0 then 29 else 28

/-- *Set clock* and *Set off-peak window* (R127, R130, R131): the checks, what is written and answered, and the settlement of the
period, OFFPEAK in the hours of the window's table; a change writes the period, raises E26 and is sent to the rating engine. -/
def Obligations.ClockSetAndPeriodSettled : Prop :=
  (∀ (s : State) (c : Calendar) (x0 x1 x2 x3 x4 x5 x6 : Byte), s.power.supervisor = .running →
    c = ⟨x0.toNat, x1.toNat, x2.toNat, x3.toNat, x4.toNat, x5.toNat, x6.toNat⟩ →
    (60 ≤ c.seconds ∨ 60 ≤ c.minutes ∨ 24 ≤ c.hours ∨ c.month = 0 ∨ 13 ≤ c.month ∨ 100 ≤ c.year ∨ c.dayOfWeek = 0
        ∨ 8 ≤ c.dayOfWeek ∨ c.date = 0 ∨ lastDate c.month c.year < c.date →
      exec (.setClock .purser x0 x1 x2 x3 x4 x5 x6) s = .next (s.withFrame .purser (.answered .badParam [])))
    ∧ (c.seconds < 60 → c.minutes < 60 → c.hours < 24 → 1 ≤ c.month → c.month ≤ 12 → c.year < 100 → 1 ≤ c.dayOfWeek →
        c.dayOfWeek ≤ 7 → 1 ≤ c.date → c.date ≤ lastDate c.month c.year →
      exec (.setClock .purser x0 x1 x2 x3 x4 x5 x6) s =
        .next ((({ s with clock := { s.clock with
            calendar := c, subSecond := 0, notSet := false,
            secondLength := if c.minutes = 59 ∧ c.seconds = 59 then ((32768 : Int) - s.clock.trim).toNat else 32768 } }
              : State).settlePeriod).withFrame .purser (.answered .ok (s.clock.calendar.bytes ++ [flagByte s.clock.notSet])))))
  ∧ (∀ (s : State) (start stop : Byte), s.power.supervisor = .running →
    (24 ≤ start.toNat ∨ 24 ≤ stop.toNat →
      exec (.setOffPeakWindow .purser start stop) s = .next (s.withFrame .purser (.answered .badParam [])))
    ∧ (start.toNat < 24 → stop.toNat < 24 →
      exec (.setOffPeakWindow .purser start stop) s =
        .next ((({ s with clock := { s.clock with windowStart := start.toNat, windowEnd := stop.toNat } } : State).settlePeriod).withFrame
          .purser (.answered .ok [BitVec.ofNat 8 s.clock.windowStart, BitVec.ofNat 8 s.clock.windowEnd]))))
  ∧ (∀ c : Clock, c.periodNow = .offpeak ↔
      c.windowStart < c.windowEnd ∧ c.windowStart ≤ c.calendar.hours ∧ c.calendar.hours < c.windowEnd
      ∨ c.windowEnd < c.windowStart ∧ (c.windowStart ≤ c.calendar.hours ∨ c.calendar.hours < c.windowEnd))
  ∧ ∀ s : State,
    (s.clock.periodNow = s.period → s.settlePeriod = s)
    ∧ (s.clock.periodNow ≠ s.period → s.settlePeriod =
        (({ s with period := s.clock.periodNow } : State).raise .periodChanged s.clock.periodNow.code).sendPeriod s.clock.periodNow)

/-- *Set trim* (R128): a sign byte that is neither 0 nor 1 is BAD_PARAM, a magnitude above 127 is clamped and answered
CLAMPED, any other set OK with the trim before it; nothing of the clock but the trim changes, so the second in progress keeps
its length, and the next last second of an hour that begins is 32,768 periods less the trim, whether or not the clock has been
set. A trim of minus 0 is the trim 0 (deduced, notes/assumptions/16.md). -/
def Obligations.SetTrimWritesTrim : Prop :=
  ∀ (s : State) (sign magnitude : Byte), s.power.supervisor = .running →
    (2 ≤ sign.toNat → exec (.setTrim .purser sign magnitude) s = .next (s.withFrame .purser (.answered .badParam [])))
    ∧ (sign.toNat < 2 → ∃ t : State,
      exec (.setTrim .purser sign magnitude) s = .next (t.withFrame .purser (.answered
        (if 127 < magnitude.toNat then .clamped else .ok)
        [if s.clock.trim < 0 then 1 else 0, BitVec.ofNat 8 s.clock.trim.natAbs]))
      ∧ t = { s with clock := { s.clock with
          trim := if sign = 1 then -(min 127 magnitude.toNat : Int) else (min 127 magnitude.toNat : Int) } }
      ∧ ∀ v : State, v.clock.trim = t.clock.trim → v.clockRuns = true → v.clock.calendar.advance.minutes = 59 →
          v.clock.calendar.advance.seconds = 59 →
          ∃ w : State, exec .wholeSecond v = .next w ∧ (w.clock.secondLength : Int) = 32768 - t.clock.trim)

/-! ### Rating (8) and segments (9.1) -/

/-- *Usage* (R146 to R152): the voice quantity clamped, the lapse count set to 0, the units and residues, the charge of each service
with surcharge and discount rounded half up apart, the clamp of the sum with E22, the debit, the shortfall added, the whole charge
itemized, and the response. -/
def Obligations.UsageIsRatedInStages : Prop :=
  ∀ (s u v : State) (handle data voice : Half) (messages : Byte) (h d q m sum charge : Nat) (x : Session) (row : PriceRow)
    (price : Nat → Nat), s.power.supervisor = .running → handle.toNat = h → h < Config.sessionCount → s.session h = x →
    x.served = true → d = data.toNat → q = min 3600 voice.toNat → m = messages.toNat →
    row = s.priceRow x.plan s.rating.inForce.zoneClass →
    (∀ base, price base =
      if s.rating.inForce.period = .offpeak then
        ((base * (100 + s.tariff.surcharges.get s.rating.inForce.costClass) + 50) / 100
          * (100 - s.tariff.discounts.get x.plan) + 50) / 100
      else (base * (100 + s.tariff.surcharges.get s.rating.inForce.costClass) + 50) / 100) →
    sum = price ((x.dataResidue + d) / row.dataIncrement * row.dataPrice)
      + price ((x.voiceResidue + q) / row.voiceIncrement * row.voicePrice) + price (m * row.messagePrice) →
    charge = min sum 4294967295 →
    u = s.setSession h { x with
      lapseCount := 0, dataResidue := (x.dataResidue + d) % row.dataIncrement,
      voiceResidue := (x.voiceResidue + q) % row.voiceIncrement } →
    v = (if 4294967295 < sum then u.raise .chargeClamped h else u) →
    ∀ (w : State) (taken short : Nat), v.debit x.account charge = (w, taken, short) →
    ∃ t : State,
      t = (w.setSession h { w.session h with
        shortfall := min Config.maxValue ((w.session h).shortfall + short) }).addToSegments h d q m charge
      ∧ exec (.usage .cell handle data voice messages) s = .next (t.withFrame .cell (.answered
          (if x.flags.dataBar = true ∧ d ≠ 0 ∨ x.flags.voiceBar = true ∧ q ≠ 0 ∨ x.flags.msgBar = true ∧ m ≠ 0 then .barredUsage
            else if 3600 < voice.toNat then .clamped else .ok)
          (beBytes 4 charge ++ beBytes 4 taken ++ beBytes 4 short ++ beBytes 2 (t.session h).dataResidue
            ++ beBytes 1 (t.session h).voiceResidue ++ beBytes 1 (t.session h).state.code ++ [(t.session h).reasons.byte])))

/-- An addition to a session's segments (R158 to R161): into the newest segment when its key is the context in force, each figure
saturating; in a new segment while the list is shorter than eight; after an INTERIM record that takes the eight; or, with no room
for that record, into the newest segment with its mixed flag set and E23. -/
def Obligations.SegmentAdditionKeysByContext : Prop :=
  ∀ (s : State) (h d q m charge : Nat) (x : Session) (front : List Segment) (g added fresh : Segment),
    s.session h = x → x.segments = front ++ [g] →
    added = { g with
      data := min 4294967295 (g.data + d), voice := min 4294967295 (g.voice + q), messages := min 4294967295 (g.messages + m),
      charge := min Config.maxValue (g.charge + charge) } →
    fresh = ⟨s.rating.inForce, false, d, q, m, charge⟩ →
    (g.key = s.rating.inForce → s.addToSegments h d q m charge = s.setSession h { x with segments := front ++ [added] })
    ∧ (g.key ≠ s.rating.inForce → x.segments.length < 8 →
        s.addToSegments h d q m charge = s.setSession h { x with segments := x.segments ++ [fresh] })
    ∧ (g.key ≠ s.rating.inForce → 8 ≤ x.segments.length → s.queue.records.length < Config.ordinaryLimit → ∃ t : State,
        s.addToSegments h d q m charge = t.setSession h { x with part := min 255 (x.part + 1), segments := [fresh] }
        ∧ t.queue.records = s.queue.records ++ [⟨s.clock.calendar, s.clock.notSet,
            .interim ⟨h, x.identity, x.account, x.agreement, x.plan, x.openTime⟩ (min 255 (x.part + 1)) x.segments⟩]
        ∧ t.queue.mark = max s.queue.mark (s.queue.records.length + 1)
        ∧ (s.queue.records = [] → s.Latched t .recordReady)
        ∧ (s.queue.records.length + 1 = Config.ordinaryLimit → s.Latched t .queueFull)
        ∧ t = { s with queue := t.queue, router := t.router })
    ∧ (g.key ≠ s.rating.inForce → 8 ≤ x.segments.length → Config.ordinaryLimit ≤ s.queue.records.length →
        s.addToSegments h d q m charge =
          (s.setSession h { x with segments := front ++ [{ added with mixed := true }] }).raise .segmentMixed h)

/-- The purser's figures (R143, R144, R145, R190): price rows, surcharges, discounts and parameters, each clamped to its range and
written, with CLAMPED when a value was clamped and the figures before in the response; a plan, class or parameter number out of
range is BAD_PARAM, and so is a pair of health thresholds with the lower at or above the upper. -/
def Obligations.PurserFiguresClamped : Prop :=
  ∀ s : State, s.power.supervisor = .running →
    (∀ (plan cls : Byte) (dp di vp : Half) (vi : Byte) (mp : Half) (old : PriceRow),
      (8 ≤ plan.toNat ∨ 8 ≤ cls.toNat →
        exec (.loadPriceRow .purser plan cls dp di vp vi mp) s = .next (s.withFrame .purser (.answered .badParam [])))
      ∧ (plan.toNat < 8 → cls.toNat < 8 → s.priceRow plan.toNat cls.toNat = old →
        exec (.loadPriceRow .purser plan cls dp di vp vi mp) s =
          .next (({ s with tariff := { s.tariff with
            rows := s.tariff.rows.set PriceRow.cold (8 * plan.toNat + cls.toNat)
              ⟨dp.toNat, max 1 (min 1024 di.toNat), vp.toNat, max 1 (min 60 vi.toNat), mp.toNat⟩ } } : State).withFrame .purser
            (.answered (if 1 ≤ di.toNat ∧ di.toNat ≤ 1024 ∧ 1 ≤ vi.toNat ∧ vi.toNat ≤ 60 then .ok else .clamped)
              (beBytes 2 old.dataPrice ++ beBytes 2 old.dataIncrement ++ beBytes 2 old.voicePrice ++ beBytes 1 old.voiceIncrement
                ++ beBytes 2 old.messagePrice)))))
    ∧ (∀ (a b c d : Half) (old : Surcharges), s.tariff.surcharges = old →
      exec (.setSurcharges .purser a b c d) s =
        .next (({ s with tariff := { s.tariff with
          surcharges := ⟨min 400 a.toNat, min 400 b.toNat, min 400 c.toNat, min 400 d.toNat⟩ } } : State).withFrame .purser
          (.answered (if a.toNat ≤ 400 ∧ b.toNat ≤ 400 ∧ c.toNat ≤ 400 ∧ d.toNat ≤ 400 then .ok else .clamped)
            (beBytes 2 old.s0 ++ beBytes 2 old.s1 ++ beBytes 2 old.s2 ++ beBytes 2 old.s3))))
    ∧ (∀ (a b c d e f g h : Byte) (old : Discounts), s.tariff.discounts = old →
      exec (.setDiscounts .purser a b c d e f g h) s =
        .next (({ s with tariff := { s.tariff with
          discounts := ⟨min 100 a.toNat, min 100 b.toNat, min 100 c.toNat, min 100 d.toNat, min 100 e.toNat, min 100 f.toNat,
            min 100 g.toNat, min 100 h.toNat⟩ } } : State).withFrame .purser
          (.answered (if a.toNat ≤ 100 ∧ b.toNat ≤ 100 ∧ c.toNat ≤ 100 ∧ d.toNat ≤ 100 ∧ e.toNat ≤ 100 ∧ f.toNat ≤ 100
              ∧ g.toNat ≤ 100 ∧ h.toNat ≤ 100 then .ok else .clamped)
            ([old.q0, old.q1, old.q2, old.q3, old.q4, old.q5, old.q6, old.q7].map (BitVec.ofNat 8)))))
    ∧ (∀ (number : Byte) (value : Half), number = 0 ∨ 17 ≤ number.toNat →
      exec (.setParameter .purser number value) s = .next (s.withFrame .purser (.answered .badParam [])))
    ∧ (∀ value : Half, exec (.setParameter .purser 1 value) s =
      .next (({ s with params := { s.params with
        permissiveQual := min 60 value.toNat, restrictiveQual := min s.params.restrictiveQual (min 60 value.toNat) } }
          : State).withFrame .purser (.answered
            (if 60 < value.toNat ∨ value.toNat < s.params.restrictiveQual ∨ 60 < s.params.restrictiveQual then .clamped else .ok)
            (beBytes 2 s.params.permissiveQual))))
    ∧ (∀ value : Half, exec (.setParameter .purser 2 value) s =
      .next (({ s with params := { s.params with restrictiveQual := min (min 10 value.toNat) s.params.permissiveQual } }
        : State).withFrame .purser (.answered
          (if 10 < value.toNat ∨ s.params.permissiveQual < value.toNat then .clamped else .ok)
          (beBytes 2 s.params.restrictiveQual))))
    ∧ (∀ (upper lower : Byte) (value : Half), value = upper ++ lower →
      (min 100 upper.toNat ≤ min 100 lower.toNat →
        exec (.setParameter .purser 13 value) s = .next (s.withFrame .purser (.answered .badParam [])))
      ∧ (min 100 lower.toNat < min 100 upper.toNat → exec (.setParameter .purser 13 value) s =
        .next (({ s with params := { s.params with healthUpper := min 100 upper.toNat, healthLower := min 100 lower.toNat } }
          : State).withFrame .purser (.answered (if 100 < upper.toNat ∨ 100 < lower.toNat then .clamped else .ok)
            (beBytes 2 (s.params.healthUpper * 256 + s.params.healthLower))))))
    ∧ ∀ (number : Byte) (value : Half) (low high : Nat),
      (number.toNat, low, high) ∈ [(3, 5, 120), (4, 0, 300), (5, 0, 600), (6, 1, 64), (7, 30, 600), (8, 1, 60), (9, 1, 30),
        (10, 1, 600), (11, 5, 120), (12, 0, 600), (14, 100, 1000), (15, 2, 60), (16, 0, 10)] →
      ∃ p : Params,
        exec (.setParameter .purser number value) s = .next (({ s with params := p } : State).withFrame .purser (.answered
          (if low ≤ value.toNat ∧ value.toNat ≤ high then .ok else .clamped) (beBytes 2 (s.params.plain number.toNat))))
        ∧ p.plain number.toNat = max low (min high value.toNat)
        ∧ (∀ n, n ≠ number.toNat → p.plain n = s.params.plain n)
        ∧ p.permissiveQual = s.params.permissiveQual ∧ p.restrictiveQual = s.params.restrictiveQual
        ∧ p.healthUpper = s.params.healthUpper ∧ p.healthLower = s.params.healthLower

/-- Boundaries and the settle window (R136 to R140): a component that changes the newest context starts a settle window with
E6 and its cause, replaces the pending context of a window that runs, and comes into force at once with a settle window of 0
s; one that changes nothing does nothing; and at the window's expiry the pending context comes into force, without an event. A
timed row first lets the time that remains to its timer pass (the model's choice, notes/assumptions/1.md). -/
def Obligations.BoundaryStartsSettleWindow : Prop :=
  (∀ (s : State) (cause : WindowCause) (replace : Context → Context) (new : Context), new = replace s.rating.newest →
    (new = s.rating.newest → s.sendComponent cause replace = s)
    ∧ (new ≠ s.rating.newest → s.rating.settleTimer.isSome = true →
        s.sendComponent cause replace = { s with rating := { s.rating with pendingContext := some new } })
    ∧ (new ≠ s.rating.newest → s.rating.settleTimer = none → s.params.settleWindow ≠ 0 →
        s.sendComponent cause replace = ({ s with rating :=
          ⟨s.rating.inForce, some new, some (s.params.settleWindow * Config.periodsPerSecond), some cause⟩ } : State).raise
            .ratingBoundary cause.code)
    ∧ (new ≠ s.rating.newest → s.rating.settleTimer = none → s.params.settleWindow = 0 →
        s.sendComponent cause replace = ({ s with rating := ⟨new, none, none, none⟩ } : State).raise .ratingBoundary cause.code))
  ∧ ∀ (s : State) (r : Nat) (c : Context), s.mainRuns = true → s.rating.settleTimer = some r → s.rating.pendingContext = some c →
    exec .settleWindowExpires s = .next { s.elapse r with rating := ⟨c, none, none, none⟩ }

/-! ### The charge record queue (9.3) -/

/-- The purser's side of the queue (R167, R168, R171): *Read record* gives the occupancy and the oldest record and changes nothing;
*Drop record* removes the oldest, and from 511 records with a session owed grants the one slot, the head of the owed-record list
becoming FREE with its CLOSE record appended; both are answered EMPTY on an empty queue; *Read queue mark* gives the mark, the
occupancy and the number owed, and sets the mark to the occupancy The layouts of the three kinds of record
(R200) are written out last, that of a segment in `ReadsChangeNothing`. -/
def Obligations.QueueReadDroppedAndMarked : Prop :=
  ∀ s : State, s.power.supervisor = .running →
    (s.queue.records = [] →
      exec (.readRecord .purser) s = .next (s.withFrame .purser (.answered .empty []))
      ∧ exec (.dropRecord .purser) s = .next (s.withFrame .purser (.answered .empty [])))
    ∧ (∀ r rest, s.queue.records = r :: rest →
      exec (.readRecord .purser) s =
        .next (s.withFrame .purser (.answered .ok (beBytes 2 s.queue.records.length ++ r.bytes)))
      ∧ (s.owed = [] ∨ Config.ordinaryLimit ≤ rest.length →
        exec (.dropRecord .purser) s = .next (({ s with queue := { s.queue with records := rest } } : State).withFrame .purser
          (.answered .ok (beBytes 2 rest.length ++ [0]))))
      ∧ ∀ h owed, s.Lawful → s.owed = h :: owed → rest.length < Config.ordinaryLimit → ∃ t : State,
        exec (.dropRecord .purser) s = .next (t.withFrame .purser (.answered .ok (beBytes 2 511 ++ [1])))
        ∧ t.queue.records = rest ++ [⟨s.clock.calendar, s.clock.notSet,
            .close ⟨h, (s.session h).identity, (s.session h).account, (s.session h).agreement, (s.session h).plan,
                (s.session h).openTime⟩
              ((s.session h).closeReason.getD .purser) (s.session h).part (s.session h).shortfall (s.session h).dataResidue
              (s.session h).voiceResidue (s.session h).segments⟩]
        ∧ t.queue.mark = s.queue.mark
        ∧ t.session h = Session.free ∧ (∀ k, k ≠ h → t.session k = s.session k)
        ∧ (∀ a, t.account a = { s.account a with count := (s.account a).count - if a = (s.session h).account then 1 else 0 })
        ∧ (∀ i, t.agreement i = { s.agreement i with
            count := (s.agreement i).count - if (s.session h).agreement = some i then 1 else 0 })
        ∧ t = { s with sessions := t.sessions, accounts := t.accounts, agreements := t.agreements, queue := t.queue,
                       owed := owed, router := t.router })
    ∧ exec (.readQueueMark .purser) s =
        .next (({ s with queue := { s.queue with mark := s.queue.records.length } } : State).withFrame .purser
          (.answered .ok (beBytes 2 s.queue.mark ++ beBytes 2 s.queue.records.length ++ beBytes 2 s.owed.length)))
    ∧ (∀ (time opening : Calendar) (notSet : Bool) (h account plan part shortfall data voice : Nat) (x : IdentityWord)
        (agreement : Option Nat) (reason : CloseReason) (segments : List Segment) (who tail : List Byte),
      who = beBytes 2 h ++ beBytes 8 x.toNat
        ++ ([BitVec.ofNat 8 account, match agreement with | some i => BitVec.ofNat 8 i | none => 255, BitVec.ofNat 8 plan] : List Byte)
        ++ opening.bytes →
      tail = BitVec.ofNat 8 segments.length :: segments.flatMap Segment.bytes →
      (⟨time, notSet, .close ⟨h, x, account, agreement, plan, opening⟩ reason part shortfall data voice segments⟩
          : ChargeRecord).bytes =
        ([1, if notSet then 1 else 0] : List Byte) ++ time.bytes ++ who
          ++ ([match reason with | .released => 1 | .lapsed => 2 | .coverageEnd => 3 | .purser => 4, BitVec.ofNat 8 part] : List Byte)
          ++ beBytes 6 shortfall ++ beBytes 2 data ++ [BitVec.ofNat 8 voice] ++ List.replicate 9 0 ++ tail
      ∧ (⟨time, notSet, .interim ⟨h, x, account, agreement, plan, opening⟩ part segments⟩ : ChargeRecord).bytes =
        ([2, if notSet then 3 else 2] : List Byte) ++ time.bytes ++ who ++ [0, BitVec.ofNat 8 part] ++ List.replicate 18 0 ++ tail)
    ∧ ∀ (time : Calendar) (notSet : Bool) (cuts lost charge : Nat),
      (⟨time, notSet, .powerCut cuts lost charge⟩ : ChargeRecord).bytes =
        ([3, if notSet then 1 else 0] : List Byte) ++ time.bytes ++ List.replicate 31 0 ++ [BitVec.ofNat 8 cuts] ++ beBytes 2 lost
          ++ beBytes 6 charge ++ [0]

/-! ### Power domains, start-up and the flush (10) -/

/-- Main power, the reset line and the loss of the backup domain (R173, R174, R179, R182): each from every state of the supervisor.
A loss of the main domain and a start give it its start values at once (notes/assumptions/7.md). The model's too: a fall of the
reset line leaves every other value of the main domain as it stood (notes/assumptions/23.md), and an event for which
R173 and R174 give no case has no effect but on the line it names (notes/assumptions/31.md). -/
def Obligations.PowerLinesMoveSupervisor : Prop :=
  ∀ s : State, s.TablesLaw →
    (s.power.supervisor = .off → s.pins.resetHigh = true → ∃ t : State,
      exec .mainPowerRises s = .next t ∧ s.StartedFrom t (if s.backupValid = true then .warm else .cold))
    ∧ (s.power.supervisor = .off → s.pins.resetHigh = false →
      exec .mainPowerRises s = .next { s with power := { s.power with supervisor := .reset } })
    ∧ (s.power.supervisor ≠ .off → exec .mainPowerRises s = .next s)
    ∧ (s.power.supervisor = .off → exec .mainPowerFalls s = .next s)
    ∧ (s.power.supervisor ≠ .off → ∃ t v : State,
      exec .mainPowerFalls s = .next t ∧ s.StartedFrom v .warm
      ∧ t = { v with power := { s.power with supervisor := .off, flushing := false, initTime := 0 } })
    ∧ (s.power.supervisor = .off ∨ s.power.supervisor = .reset →
      exec .resetLineFalls s = .next { s with pins := { s.pins with resetHigh := false } })
    ∧ (s.power.supervisor ≠ .off → s.power.supervisor ≠ .reset →
      exec .resetLineFalls s = .next { s with
        pins := { s.pins with resetHigh := false }
        power := { s.power with supervisor := .reset, initTime := 0 }
        coverage := { s.coverage with permit := false }
        router := ⟨{ s.router.cell with lineLow := false, attention := none }, { s.router.link with lineLow := false, attention := none },
          { s.router.purser with lineLow := false, attention := none }, s.router.details⟩ })
    ∧ (s.power.supervisor = .reset → ∃ t : State,
      exec .resetLineRises s = .next t
      ∧ ({ s with pins := { s.pins with resetHigh := true } } : State).StartedFrom t
          (if s.backupValid = true then .warm else .cold))
    ∧ (s.power.supervisor ≠ .reset →
      exec .resetLineRises s = .next { s with pins := { s.pins with resetHigh := true } })
    ∧ (s.power.supervisor ≠ .off → exec .backupDomainLost s = .next s)
    ∧ (s.power.supervisor = .off → exec .backupDomainLost s = .next { s with
        clock := Clock.cold, tariff := Tariff.cold, zones := Table.empty, linkConfig := Slots.all LinkConfig.unloaded,
        agreements := Table.empty, accounts := Table.empty, queue := ⟨[], 0⟩, params := Params.default, backupValid := false })

/-- The end of initialization (R178, R176, R81, R26): the backup-valid mark set, the period settled, the lapse pass begun, the
decoder's timer started by the level of the bridge order line, and on ports that are as a start leaves them exactly the latches of
the start, with the attention line low; then RUNNING, or the flush with the warning raised. The model's: 800 ms as 26,215 periods
(notes/assumptions/4.md), the stage of a low (22.md), and the clock as it has counted since the entry (33.md). -/
def Obligations.InitializationLatchesStart : Prop :=
  ∀ s : State, s.power.supervisor = .initializing →
    (∀ p : Port, (s.port p).pending = [] ∧ (s.port p).enables = 0x7ffffff ∧ (s.port p).lineLow = false) →
    ∃ t : State,
      t = { s with
        power := { s.power with supervisor := .running, initTime := 0 }
        backupValid := true
        period := s.clock.periodNow
        rating := ⟨⟨0, 0, s.clock.periodNow⟩, none, none, none⟩
        sweep := ⟨0, s.params.lapsePeriod, some 0⟩
        bridge :=
          if s.pins.bridgeHigh = true then { s.bridge with recoveryTimer := some 26215 }
          else { s.bridge with lowTimer := some 0, lowStage := .brief }
        router := t.router }
      ∧ (∀ p : Port, t.port p = { s.port p with
          pending :=
            [⟨.warmStart, if s.power.startKind = .cold then 0 else 1, false, false⟩, ⟨.shoreDark, 255, false, false⟩]
              ++ (if s.queue.records = [] then [] else [⟨.recordReady, 0, false, false⟩])
              ++ (if Config.ordinaryLimit ≤ s.queue.records.length then [⟨.queueFull, 0, false, false⟩] else [])
              ++ (if s.clock.notSet = true then [⟨.clockNotSet, 0, false, false⟩] else [])
          lineLow := true, attention := some 32768 })
      ∧ (s.pins.warning = false → exec .initializationEnds s = .next t)
      ∧ (s.pins.warning = true → exec .initializationEnds s = .next t.flush)

/-- The power-fail warning (R180, R181, R183, R21, R27, R165): a rise in RUNNING flushes. Service ends at once: the served sessions
are closed with COVERAGE_END by rising handle, a CLOSE record each while the queue has room; the session table is emptied, and the
number and the charges of the sessions left, those closed without room and those CLOSING before, go to a POWER_CUT record, merged
into the newest record when that is one. E1 is raised unless the state was SILENT; no account value changes; a fall in FLUSHED is a warm start; in every other
state only the line changes. -/
def Obligations.WarningFlushes : Prop :=
  (∀ (s : State), s.power.supervisor ≠ .running →
      exec .powerFailWarningRises s = .next { s with pins := { s.pins with warning := true } })
  ∧ (∀ s : State, s.Lawful → s.power.supervisor = .running → ∃ t : State,
      exec .powerFailWarningRises s = .next t
      ∧ t.power = { s.power with supervisor := .flushed, flushing := true }
      ∧ t.coverage.state = .silent ∧ t.coverage.permit = false
      ∧ t.sessions = Table.empty ∧ t.owed = []
      ∧ (∀ a, t.account a = { s.account a with count := 0 }) ∧ (∀ i, t.agreement i = { s.agreement i with count := 0 })
      ∧ t.queue.newestIsPowerCut = true ∧ t.queue.records.length ≤ 512
      ∧ (∀ n, n + 1 < s.queue.records.length → t.queue.records[n]? = s.queue.records[n]?)
      ∧ s.CoverageIs t (if s.coverage.state = .silent then 0 else 1) s.coverage.stopped
      ∧ (∀ (room charge : Nat) (closed : List ChargeRecord) (left : List Nat), room = Config.ordinaryLimit - s.queue.records.length →
        closed = s.queue.records ++ (s.servedHandles.take room).map s.coverageRecord → left = s.owed ++ s.servedHandles.drop room →
        charge = (left.map fun h => ((s.session h).segments.map Segment.charge).sum).sum →
        (∀ r cuts lost before, closed.getLast? = some r → r.body = .powerCut cuts lost before →
          t.queue.records = closed.dropLast ++ [⟨s.clock.calendar, s.clock.notSet,
            .powerCut (min 255 (cuts + 1)) (min 65535 (lost + left.length)) (min Config.maxValue (before + charge))⟩]
          ∧ t.queue.mark = s.queue.mark)
        ∧ ((∀ r cuts lost before, closed.getLast? = some r → r.body ≠ .powerCut cuts lost before) →
          t.queue.records = closed ++ [⟨s.clock.calendar, s.clock.notSet,
            .powerCut 1 left.length (min Config.maxValue charge)⟩]
          ∧ t.queue.mark = max s.queue.mark (closed.length + 1)))
      ∧ t = { s with
          power := t.power, pins := { s.pins with warning := true }, sessions := t.sessions, owed := [], accounts := t.accounts,
          agreements := t.agreements, queue := t.queue, coverage := t.coverage, router := t.router })
  ∧ (∀ s : State, s.power.supervisor ≠ .flushed →
      exec .powerFailWarningFalls s = .next { s with pins := { s.pins with warning := false } })
  ∧ ∀ s : State, s.TablesLaw → s.power.supervisor = .flushed → ∃ t : State,
      exec .powerFailWarningFalls s = .next t
      ∧ ({ s with pins := { s.pins with warning := false } } : State).StartedFrom t .warm

/-! ### Events and attention (11.6) -/

/-- An occurrence is offered to all three ports (R192, R193, R195): an enabled port holds exactly one entry of the kind, with the
occurrence's detail, overrun when one was pending, not renewed, in its place in the order, every other entry as it was; its line
is low, the timer started when the line falls; a port that is not enabled is left alone; a level kind's detail is stored. -/
def Obligations.OccurrenceIsLatched : Prop :=
  ∀ (s : State) (k : EventKind) (d : Nat),
    s.raise k d = { s with router := (s.raise k d).router }
    ∧ (∀ j, (s.raise k d).router.details.get j = if j = k ∧ k ∈ levelKinds then d else s.router.details.get j)
    ∧ ∀ p : Port,
      ((s.port p).enabled k = false → (s.raise k d).port p = s.port p)
      ∧ ((s.port p).enabled k = true → ∃ pending : List Entry,
        (s.raise k d).port p = { s.port p with
          pending := pending, lineLow := true
          attention := if (s.port p).lineLow = true then (s.port p).attention else some 32768 }
        ∧ (pending.filter fun e => e.kind == k) = [⟨k, d, (s.port p).holds k, false⟩]
        ∧ (pending.filter fun e => e.kind != k) = ((s.port p).pending.filter fun e => e.kind != k)
        ∧ ((s.port p).Lawful → ((s.raise k d).port p).Lawful))

/-- *Read event* (R193, R194, R195, R201): kind 255 and zeros for an empty set; otherwise the entry of the lowest kind that is not
renewed, or the first of the renewed entries, removed, and put back as a renewed entry, last, while its level condition holds and
the port is enabled for it; the response, and the line and its timer after the read. -/
def Obligations.ReadEventTakesFirst : Prop :=
  ∀ (s : State) (p : Port) (x : PortState), s.power.supervisor = .running → s.port p = x → x.Lawful →
    (x.pending = [] → exec (.readEvent p) s = .next (s.withFrame p (.answered .ok [255, 0, 0, 0, 0, 0])))
    ∧ (x.pending ≠ [] → ∃ (e : Entry) (left : List Entry),
      e ∈ x.pending
      ∧ (∀ d ∈ x.pending, d.renewed = false → e.renewed = false ∧ e.kind.number ≤ d.kind.number)
      ∧ (e.renewed = true → x.pending.head? = some e)
      ∧ left = (x.pending.filter fun d => d.kind != e.kind) ++
          (if e.kind ∈ levelKinds ∧ s.levelHolds e.kind = true ∧ x.enabled e.kind = true then
            [⟨e.kind, if e.kind = .recordOwed then s.owed.head?.getD 0 else s.router.details.get e.kind, false, true⟩] else [])
      ∧ exec (.readEvent p) s =
          .next ((s.setPort p { x with
            pending := left, lineLow := !left.isEmpty, attention := if left = [] then none else some 32768 }).withFrame p
              (.answered .ok ([BitVec.ofNat 8 e.kind.number] ++ beBytes 2 e.detail
                ++ [BitVec.ofNat 8 ((if e.overrun = true then 1 else 0) + if e.renewed = true then 2 else 0),
                  BitVec.ofNat 8 s.clock.calendar.seconds, BitVec.ofNat 8 left.length]))))

/-- *Set event enables*, *Port reset* and the attention timer (R195, R196, R197): BAD_PARAM for a bit above E26; the set
written, and a level kind added while its condition holds latched with its stored detail unless an entry of it is pending; a
reset's pending set exactly the level kinds that hold; and the line released at the timer's expiry with the entries kept. A
timed row first lets the time that remains to its timer pass (the model's choice, notes/assumptions/1.md). The line after an
enabling latch, and the stored detail of E21, are deduced, notes/assumptions/12.md and 27.md. -/
def Obligations.EnablesResetAndAttention : Prop :=
  ∀ (s : State) (p : Port) (x : PortState), s.port p = x →
    (∀ set : Quad, s.power.supervisor = .running →
      (2 ^ 27 ≤ set.toNat → exec (.setEventEnables p set) s = .next (s.withFrame p (.answered .badParam [])))
      ∧ (set.toNat < 2 ^ 27 → ∃ pending : List Entry,
        exec (.setEventEnables p set) s =
          .next ((s.setPort p { x with
            enables := set.setWidth 27, pending := pending
            lineLow := x.lineLow || (x.pending.isEmpty && !pending.isEmpty)
            attention := if x.pending = [] ∧ pending ≠ [] then some 32768 else x.attention }).withFrame p
              (.answered .ok (beBytes 4 x.enables.toNat)))
        ∧ ∀ e, e ∈ pending ↔ e ∈ x.pending
            ∨ ∃ k ∈ levelKinds, set.getLsbD k.number = true ∧ x.enabled k = false ∧ x.holds k = false ∧ s.levelHolds k = true
              ∧ e = ⟨k, s.router.details.get k, false, false⟩))
    ∧ (s.power.supervisor = .running → ∃ pending : List Entry,
      exec (.portReset p) s =
        .next ((s.setPort p { x with
          enables := 0x7ffffff, pending := pending, truncated := false, lineLow := !pending.isEmpty
          attention := if pending = [] then none else some 32768 }).withFrame p (.answered .ok []))
      ∧ pending = (levelKinds.filter s.levelHolds).map fun k => ⟨k, s.router.details.get k, false, false⟩)
    ∧ ∀ r, s.mainRuns = true → x.attention = some r →
      exec (.attentionTimerExpires p) s = .next ((s.elapse r).setPort p { x with lineLow := false, attention := none })

/-! ### The laws every step keeps -/

/-- The part after reset keeps every law. -/
def Obligations.ResetIsLawful : Prop := State.reset.Lawful

/-- Every step keeps the tables in form, the purser's figures and the parameters in their ranges (R28, R36, R47, R48, R142 to R145,
R190). -/
def Obligations.StepKeepsTablesAndFigures : Prop :=
  ∀ s t : State, s.Lawful → step s = .next t → t.TablesLaw ∧ t.LoadedLaw ∧ t.ParamsLaw

/-- Every step keeps the session table's law, the session counts, and who pays for each session (R1, R2, R16, R28, R36, R37, R38). -/
def Obligations.StepKeepsSessionsAndCounts : Prop :=
  ∀ s t : State, s.Lawful → step s = .next t → t.SessionLaw ∧ t.CountLaw ∧ t.PartyLaw

/-- Every step leaves each served session with exactly the suspension reasons its account, its agreement, the current zone and its
HOLD flag give it (R22, R28, R33, R39, R41). -/
def Obligations.StepKeepsReasons : Prop :=
  ∀ s t : State, s.Lawful → step s = .next t → t.ReasonsLaw

/-- Every step keeps the radiate permit high exactly in RAMPING, RADIATING and WITHDRAWING of a running main domain, the coverage
state in agreement with the radiation condition, and the controller's timers and zones with its state (R52 to R66). -/
def Obligations.StepKeepsCoverage : Prop :=
  ∀ s t : State, s.Lawful → step s = .next t → t.CoverageLaw ∧ t.ZoneLaw

/-- Every step keeps service within coverage: nobody served in SILENT and QUALIFYING, only DRAINING sessions in WITHDRAWING and at
least one, none DRAINING in RAMPING and RADIATING (R20, R21, R59, R64, R65). -/
def Obligations.StepKeepsServiceWithinCoverage : Prop :=
  ∀ s t : State, s.Lawful → step s = .next t → t.ServiceLaw ∧ t.WithdrawalLaw

/-- Every step keeps the link table's and the selector's law: one carrier at most, the candidate of the swap in flight alone in
RAMPING, the old carrier the carrier, each timer in its own state, an unloaded slot in HOLDOFF or in DOWN with its figures at 0,
the eligible flags as R93 judges them (R86, R92 to R100, R104, R115). -/
def Obligations.StepKeepsLinks : Prop :=
  ∀ s t : State, s.Lawful → step s = .next t → t.LinkLaw

/-- Every step keeps the calendar a date, the second within the trim's bounds, the period as the hour gives it, and the newest
rating context at the current period, zone class and carrier's cost class (R125, R126, R131, R135 to R139). -/
def Obligations.StepKeepsClockAndContext : Prop :=
  ∀ s t : State, s.Lawful → step s = .next t → t.ClockLaw ∧ t.RatingLaw

/-- Every step keeps the queue's bounds, a session owed a record only while the queue holds 511 or more, and each port's pending
set in order with its attention line (R166, R168, R171, R192 to R195). -/
def Obligations.StepKeepsQueueAndPorts : Prop :=
  ∀ s t : State, s.Lawful → step s = .next t → t.QueueLaw ∧ t.PortLaw

/-- Every step keeps the supervisor with its inputs and the bridge order decoder in order (R70 to R76, R174, R177, R179, R181,
R183). Two parts are the model's own: that the main domain holds its start values in OFF too, where R182 says only that it is
lost (notes/assumptions/7.md), and the clauses on the stage of a low, a field of the model (notes/assumptions/22.md). -/
def Obligations.StepKeepsPowerAndBridge : Prop :=
  ∀ s t : State, s.Lawful → step s = .next t → t.PowerLaw ∧ t.BridgeLaw
end

