-- ==== Sys2Proof/Laws/Table.lean ====
section
/-! SUPPORT. The laws of tables: read after write, the canonical form kept, and which numbers a search lists. -/

namespace Sys2Proof.Machine

/-! ### Entry lists -/

theorem lookupKey_eraseKey_same {α : Type} (k : Nat) (l : List (Nat × α)) : lookupKey k (eraseKey k l) = none := by
  induction l with
  | nil => rfl
  | cons e l ih =>
    obtain ⟨j, v⟩ := e
    by_cases h : j = k <;> simp_all [eraseKey, lookupKey]

theorem lookupKey_eraseKey_other {α : Type} {k j : Nat} (h : j ≠ k) (l : List (Nat × α)) :
    lookupKey j (eraseKey k l) = lookupKey j l := by
  induction l with
  | nil => rfl
  | cons e l ih =>
    obtain ⟨i, v⟩ := e
    by_cases hi : i = k
    · subst hi
      simp_all [eraseKey, lookupKey, Ne.symm h]
    · by_cases hj : i = j <;> simp_all [eraseKey, lookupKey]

theorem lookupKey_insertKey_same {α : Type} (k : Nat) (v : α) (l : List (Nat × α)) (h : lookupKey k l = none) :
    lookupKey k (insertKey k v l) = some v := by
  induction l with
  | nil => simp [insertKey, lookupKey]
  | cons e l ih =>
    obtain ⟨j, w⟩ := e
    simp only [lookupKey] at h
    by_cases hj : j = k
    · simp [hj] at h
    · simp only [hj, if_false] at h
      simp only [insertKey]
      by_cases hk : k < j
      · simp [hk, lookupKey]
      · simp [hk, Ne.symm hj, lookupKey, hj, ih h]

theorem lookupKey_insertKey_other {α : Type} {k j : Nat} (hj : j ≠ k) (v : α) (l : List (Nat × α)) :
    lookupKey j (insertKey k v l) = lookupKey j l := by
  induction l with
  | nil => simp [insertKey, lookupKey, Ne.symm hj]
  | cons e l ih =>
    obtain ⟨i, w⟩ := e
    simp only [insertKey]
    by_cases hk : k < i
    · simp [hk, lookupKey, Ne.symm hj]
    · by_cases hi : k = i
      · subst hi
        simp [lookupKey, Ne.symm hj]
      · simp [hk, hi, lookupKey, ih]

theorem risingFrom_weaken {α : Type} {a b : Nat} (h : a ≤ b) {l : List (Nat × α)} (hl : risingFrom b l = true) :
    risingFrom a l = true := by
  cases l with
  | nil => rfl
  | cons e l =>
    obtain ⟨j, v⟩ := e
    simp only [risingFrom, Bool.and_eq_true, decide_eq_true_eq] at hl ⊢
    exact ⟨le_trans h hl.1, hl.2⟩

theorem risingFrom_eraseKey {α : Type} (k a : Nat) (l : List (Nat × α)) (h : risingFrom a l = true) :
    risingFrom a (eraseKey k l) = true := by
  induction l generalizing a with
  | nil => rfl
  | cons e l ih =>
    obtain ⟨j, v⟩ := e
    simp only [risingFrom, Bool.and_eq_true, decide_eq_true_eq] at h
    by_cases hj : j = k
    · simp only [eraseKey, List.filter_cons, hj, bne_self_eq_false, Bool.false_eq_true, if_false]
      exact risingFrom_weaken (by omega) (ih (j + 1) h.2)
    · simp only [eraseKey, List.filter_cons, bne_iff_ne, ne_eq, hj, not_false_eq_true, if_true, risingFrom, Bool.and_eq_true,
        decide_eq_true_eq]
      exact ⟨h.1, ih (j + 1) h.2⟩

theorem risingFrom_insertKey {α : Type} (k : Nat) (v : α) (a : Nat) (l : List (Nat × α)) (hk : a ≤ k)
    (h : risingFrom a l = true) : risingFrom a (insertKey k v l) = true := by
  induction l generalizing a with
  | nil => simp [insertKey, risingFrom, hk]
  | cons e l ih =>
    obtain ⟨j, w⟩ := e
    simp only [risingFrom, Bool.and_eq_true, decide_eq_true_eq] at h
    simp only [insertKey]
    by_cases h1 : k < j
    · simp [h1, risingFrom, hk, h.2]
    · by_cases h2 : k = j
      · subst h2
        simp [risingFrom, hk, h.2]
      · simp only [h1, h2, if_false, risingFrom, Bool.and_eq_true, decide_eq_true_eq]
        exact ⟨h.1, ih (j + 1) (by omega) h.2⟩

theorem mem_insertKey {α : Type} {k : Nat} {v : α} {l : List (Nat × α)} {e : Nat × α} (h : e ∈ insertKey k v l) :
    e = (k, v) ∨ e ∈ l := by
  induction l with
  | nil => simpa [insertKey] using h
  | cons x l ih =>
    obtain ⟨j, w⟩ := x
    simp only [insertKey] at h
    split at h
    · simpa using h
    · split at h
      · rename_i hk
        simp only [List.mem_cons] at h ⊢
        tauto
      · simp only [List.mem_cons] at h ⊢
        rcases h with h | h
        · exact Or.inr (Or.inl h)
        · rcases ih h with h | h <;> tauto

/-- In a rising list an entry is what a search for its number finds. -/
theorem lookupKey_of_mem {α : Type} {a k : Nat} {v : α} {l : List (Nat × α)} (hl : risingFrom a l = true) (h : (k, v) ∈ l) :
    lookupKey k l = some v ∧ a ≤ k := by
  induction l generalizing a with
  | nil => cases h
  | cons e l ih =>
    obtain ⟨j, w⟩ := e
    simp only [risingFrom, Bool.and_eq_true, decide_eq_true_eq] at hl
    rcases List.mem_cons.mp h with h | h
    · cases h
      exact ⟨by simp [lookupKey], hl.1⟩
    · obtain ⟨h1, h2⟩ := ih hl.2 h
      refine ⟨?_, by omega⟩
      have : j ≠ k := by omega
      simp [lookupKey, this, h1]

theorem mem_of_lookupKey {α : Type} {k : Nat} {v : α} {l : List (Nat × α)} (h : lookupKey k l = some v) : (k, v) ∈ l := by
  induction l with
  | nil => cases h
  | cons e l ih =>
    obtain ⟨j, w⟩ := e
    simp only [lookupKey] at h
    split at h
    · rename_i hj
      simp_all
    · exact List.mem_cons_of_mem _ (ih h)

/-! ### Tables -/

@[simp] theorem Table.get_empty {α : Type} (cold : α) (k : Nat) : (Table.empty : Table α).get cold k = cold := rfl

@[simp] theorem Table.get_set_same {α : Type} [DecidableEq α] (t : Table α) (cold : α) (k : Nat) (v : α) :
    (t.set cold k v).get cold k = v := by
  unfold Table.set
  split
  · rename_i h
    simp [Table.get, lookupKey_eraseKey_same, h]
  · simp [Table.get, lookupKey_insertKey_same k v _ (lookupKey_eraseKey_same k _)]

theorem Table.get_set_other {α : Type} [DecidableEq α] (t : Table α) (cold : α) {k j : Nat} (h : j ≠ k) (v : α) :
    (t.set cold k v).get cold j = t.get cold j := by
  unfold Table.set
  split
  · simp [Table.get, lookupKey_eraseKey_other h]
  · simp [Table.get, lookupKey_insertKey_other h, lookupKey_eraseKey_other h]

theorem Table.get_set {α : Type} [DecidableEq α] (t : Table α) (cold : α) (k j : Nat) (v : α) :
    (t.set cold k v).get cold j = if j = k then v else t.get cold j := by
  by_cases h : j = k
  · subst h
    simp
  · simp [h, Table.get_set_other t cold h]

theorem Table.wf_empty {α : Type} [DecidableEq α] (cold : α) (size : Nat) : (Table.empty : Table α).wf cold size = true := rfl

/-- A write of a record of the table keeps the canonical form. -/
theorem Table.wf_set {α : Type} [DecidableEq α] {t : Table α} {cold : α} {size k : Nat} (h : t.wf cold size = true)
    (hk : k < size) (v : α) : (t.set cold k v).wf cold size = true := by
  simp only [Table.wf, Bool.and_eq_true, List.all_eq_true, decide_eq_true_eq] at h ⊢
  obtain ⟨hr, ha⟩ := h
  have he : risingFrom 0 (eraseKey k t.entries) = true := risingFrom_eraseKey k 0 _ hr
  have hm : ∀ e ∈ eraseKey k t.entries, e.1 < size ∧ e.2 ≠ cold := fun e h => ha e (List.mem_filter.mp h).1
  unfold Table.set
  split
  · exact ⟨he, hm⟩
  · rename_i hv
    refine ⟨risingFrom_insertKey k v 0 _ (Nat.zero_le _) he, fun e h => ?_⟩
    rcases mem_insertKey h with h | h
    · subst h
      exact ⟨hk, hv⟩
    · exact hm e h

/-- In a canonical table a search for what the cold record does not satisfy lists exactly the numbers whose records satisfy
it. -/
theorem Table.mem_keys {α : Type} [DecidableEq α] {t : Table α} {cold : α} {size : Nat} (h : t.wf cold size = true)
    {f : α → Bool} (hf : f cold = false) {k : Nat} : k ∈ t.keys f ↔ f (t.get cold k) = true := by
  simp only [Table.wf, Bool.and_eq_true] at h
  simp only [Table.keys, List.mem_map, List.mem_filter, Table.get]
  constructor
  · rintro ⟨⟨j, v⟩, ⟨hm, hv⟩, rfl⟩
    rw [(lookupKey_of_mem h.1 hm).1]
    exact hv
  · intro hg
    cases hl : lookupKey k t.entries with
    | none => simp [hl, hf] at hg
    | some v => exact ⟨(k, v), ⟨mem_of_lookupKey hl, by simpa [hl] using hg⟩, rfl⟩

/-- The numbers a search of a canonical table lists rise strictly. -/
theorem Table.keys_pairwise {α : Type} [DecidableEq α] {t : Table α} {cold : α} {size : Nat} (h : t.wf cold size = true)
    (f : α → Bool) : (t.keys f).Pairwise (· < ·) := by
  simp only [Table.wf, Bool.and_eq_true] at h
  obtain ⟨hr, -⟩ := h
  have key : ∀ (a : Nat) (l : List (Nat × α)), risingFrom a l = true →
      ((l.filter fun e => f e.2).map fun e => e.1).Pairwise (· < ·) := by
    intro a l
    induction l generalizing a with
    | nil => simp
    | cons e l ih =>
      obtain ⟨j, v⟩ := e
      intro hl
      simp only [risingFrom, Bool.and_eq_true] at hl
      have hrest := ih (j + 1) hl.2
      simp only [List.filter_cons]
      split
      · simp only [List.map_cons, List.pairwise_cons]
        refine ⟨fun k hk => ?_, hrest⟩
        obtain ⟨⟨i, w⟩, hm, rfl⟩ := List.mem_map.mp hk
        have := (lookupKey_of_mem hl.2 (List.mem_filter.mp hm).1).2
        show j < i
        omega
      · exact hrest
  exact key 0 t.entries hr

end Sys2Proof.Machine
end

