-- ==== Sys2Proof/Laws/State.lean ====
section
/-! SUPPORT. The fields of State after each update that writes one of them: one lemma per field per update, and what the readers
of records, slots and ports give after a write. -/

namespace Sys2Proof.Machine

/-! ### raise -/

@[simp] theorem State.raise_power (s : State) (k : EventKind) (detail : Nat) : (s.raise k detail).power = s.power := rfl
@[simp] theorem State.raise_pins (s : State) (k : EventKind) (detail : Nat) : (s.raise k detail).pins = s.pins := rfl
@[simp] theorem State.raise_clock (s : State) (k : EventKind) (detail : Nat) : (s.raise k detail).clock = s.clock := rfl
@[simp] theorem State.raise_tariff (s : State) (k : EventKind) (detail : Nat) : (s.raise k detail).tariff = s.tariff := rfl
@[simp] theorem State.raise_zones (s : State) (k : EventKind) (detail : Nat) : (s.raise k detail).zones = s.zones := rfl
@[simp] theorem State.raise_linkConfig (s : State) (k : EventKind) (detail : Nat) : (s.raise k detail).linkConfig = s.linkConfig := rfl
@[simp] theorem State.raise_agreements (s : State) (k : EventKind) (detail : Nat) : (s.raise k detail).agreements = s.agreements := rfl
@[simp] theorem State.raise_accounts (s : State) (k : EventKind) (detail : Nat) : (s.raise k detail).accounts = s.accounts := rfl
@[simp] theorem State.raise_queue (s : State) (k : EventKind) (detail : Nat) : (s.raise k detail).queue = s.queue := rfl
@[simp] theorem State.raise_params (s : State) (k : EventKind) (detail : Nat) : (s.raise k detail).params = s.params := rfl
@[simp] theorem State.raise_backupValid (s : State) (k : EventKind) (detail : Nat) : (s.raise k detail).backupValid = s.backupValid := rfl
@[simp] theorem State.raise_period (s : State) (k : EventKind) (detail : Nat) : (s.raise k detail).period = s.period := rfl
@[simp] theorem State.raise_rating (s : State) (k : EventKind) (detail : Nat) : (s.raise k detail).rating = s.rating := rfl
@[simp] theorem State.raise_sessions (s : State) (k : EventKind) (detail : Nat) : (s.raise k detail).sessions = s.sessions := rfl
@[simp] theorem State.raise_owed (s : State) (k : EventKind) (detail : Nat) : (s.raise k detail).owed = s.owed := rfl
@[simp] theorem State.raise_sweep (s : State) (k : EventKind) (detail : Nat) : (s.raise k detail).sweep = s.sweep := rfl
@[simp] theorem State.raise_coverage (s : State) (k : EventKind) (detail : Nat) : (s.raise k detail).coverage = s.coverage := rfl
@[simp] theorem State.raise_bridge (s : State) (k : EventKind) (detail : Nat) : (s.raise k detail).bridge = s.bridge := rfl
@[simp] theorem State.raise_links (s : State) (k : EventKind) (detail : Nat) : (s.raise k detail).links = s.links := rfl
@[simp] theorem State.raise_selector (s : State) (k : EventKind) (detail : Nat) : (s.raise k detail).selector = s.selector := rfl
@[simp] theorem State.raise_router (s : State) (k : EventKind) (detail : Nat) : (s.raise k detail).router = s.router.occur k detail := rfl
@[simp] theorem State.raise_pending (s : State) (k : EventKind) (detail : Nat) : (s.raise k detail).pending = s.pending := rfl

/-! ### setPort -/

@[simp] theorem State.setPort_power (s : State) (p : Port) (x : PortState) : (s.setPort p x).power = s.power := rfl
@[simp] theorem State.setPort_pins (s : State) (p : Port) (x : PortState) : (s.setPort p x).pins = s.pins := rfl
@[simp] theorem State.setPort_clock (s : State) (p : Port) (x : PortState) : (s.setPort p x).clock = s.clock := rfl
@[simp] theorem State.setPort_tariff (s : State) (p : Port) (x : PortState) : (s.setPort p x).tariff = s.tariff := rfl
@[simp] theorem State.setPort_zones (s : State) (p : Port) (x : PortState) : (s.setPort p x).zones = s.zones := rfl
@[simp] theorem State.setPort_linkConfig (s : State) (p : Port) (x : PortState) : (s.setPort p x).linkConfig = s.linkConfig := rfl
@[simp] theorem State.setPort_agreements (s : State) (p : Port) (x : PortState) : (s.setPort p x).agreements = s.agreements := rfl
@[simp] theorem State.setPort_accounts (s : State) (p : Port) (x : PortState) : (s.setPort p x).accounts = s.accounts := rfl
@[simp] theorem State.setPort_queue (s : State) (p : Port) (x : PortState) : (s.setPort p x).queue = s.queue := rfl
@[simp] theorem State.setPort_params (s : State) (p : Port) (x : PortState) : (s.setPort p x).params = s.params := rfl
@[simp] theorem State.setPort_backupValid (s : State) (p : Port) (x : PortState) : (s.setPort p x).backupValid = s.backupValid := rfl
@[simp] theorem State.setPort_period (s : State) (p : Port) (x : PortState) : (s.setPort p x).period = s.period := rfl
@[simp] theorem State.setPort_rating (s : State) (p : Port) (x : PortState) : (s.setPort p x).rating = s.rating := rfl
@[simp] theorem State.setPort_sessions (s : State) (p : Port) (x : PortState) : (s.setPort p x).sessions = s.sessions := rfl
@[simp] theorem State.setPort_owed (s : State) (p : Port) (x : PortState) : (s.setPort p x).owed = s.owed := rfl
@[simp] theorem State.setPort_sweep (s : State) (p : Port) (x : PortState) : (s.setPort p x).sweep = s.sweep := rfl
@[simp] theorem State.setPort_coverage (s : State) (p : Port) (x : PortState) : (s.setPort p x).coverage = s.coverage := rfl
@[simp] theorem State.setPort_bridge (s : State) (p : Port) (x : PortState) : (s.setPort p x).bridge = s.bridge := rfl
@[simp] theorem State.setPort_links (s : State) (p : Port) (x : PortState) : (s.setPort p x).links = s.links := rfl
@[simp] theorem State.setPort_selector (s : State) (p : Port) (x : PortState) : (s.setPort p x).selector = s.selector := rfl
@[simp] theorem State.setPort_router (s : State) (p : Port) (x : PortState) : (s.setPort p x).router = s.router.setPort p x := rfl
@[simp] theorem State.setPort_pending (s : State) (p : Port) (x : PortState) : (s.setPort p x).pending = s.pending := rfl

/-! ### answer -/

@[simp] theorem State.answer_power (s : State) (p : Port) (r : Reply) : (s.answer p r).power = s.power := rfl
@[simp] theorem State.answer_pins (s : State) (p : Port) (r : Reply) : (s.answer p r).pins = s.pins := rfl
@[simp] theorem State.answer_clock (s : State) (p : Port) (r : Reply) : (s.answer p r).clock = s.clock := rfl
@[simp] theorem State.answer_tariff (s : State) (p : Port) (r : Reply) : (s.answer p r).tariff = s.tariff := rfl
@[simp] theorem State.answer_zones (s : State) (p : Port) (r : Reply) : (s.answer p r).zones = s.zones := rfl
@[simp] theorem State.answer_linkConfig (s : State) (p : Port) (r : Reply) : (s.answer p r).linkConfig = s.linkConfig := rfl
@[simp] theorem State.answer_agreements (s : State) (p : Port) (r : Reply) : (s.answer p r).agreements = s.agreements := rfl
@[simp] theorem State.answer_accounts (s : State) (p : Port) (r : Reply) : (s.answer p r).accounts = s.accounts := rfl
@[simp] theorem State.answer_queue (s : State) (p : Port) (r : Reply) : (s.answer p r).queue = s.queue := rfl
@[simp] theorem State.answer_params (s : State) (p : Port) (r : Reply) : (s.answer p r).params = s.params := rfl
@[simp] theorem State.answer_backupValid (s : State) (p : Port) (r : Reply) : (s.answer p r).backupValid = s.backupValid := rfl
@[simp] theorem State.answer_period (s : State) (p : Port) (r : Reply) : (s.answer p r).period = s.period := rfl
@[simp] theorem State.answer_rating (s : State) (p : Port) (r : Reply) : (s.answer p r).rating = s.rating := rfl
@[simp] theorem State.answer_sessions (s : State) (p : Port) (r : Reply) : (s.answer p r).sessions = s.sessions := rfl
@[simp] theorem State.answer_owed (s : State) (p : Port) (r : Reply) : (s.answer p r).owed = s.owed := rfl
@[simp] theorem State.answer_sweep (s : State) (p : Port) (r : Reply) : (s.answer p r).sweep = s.sweep := rfl
@[simp] theorem State.answer_coverage (s : State) (p : Port) (r : Reply) : (s.answer p r).coverage = s.coverage := rfl
@[simp] theorem State.answer_bridge (s : State) (p : Port) (r : Reply) : (s.answer p r).bridge = s.bridge := rfl
@[simp] theorem State.answer_links (s : State) (p : Port) (r : Reply) : (s.answer p r).links = s.links := rfl
@[simp] theorem State.answer_selector (s : State) (p : Port) (r : Reply) : (s.answer p r).selector = s.selector := rfl
@[simp] theorem State.answer_router (s : State) (p : Port) (r : Reply) : (s.answer p r).router = s.router.setPort p { s.router.port p with frame := .answered r.status r.response } := rfl
@[simp] theorem State.answer_pending (s : State) (p : Port) (r : Reply) : (s.answer p r).pending = s.pending := rfl

/-! ### setSession -/

@[simp] theorem State.setSession_power (s : State) (h : Nat) (x : Session) : (s.setSession h x).power = s.power := rfl
@[simp] theorem State.setSession_pins (s : State) (h : Nat) (x : Session) : (s.setSession h x).pins = s.pins := rfl
@[simp] theorem State.setSession_clock (s : State) (h : Nat) (x : Session) : (s.setSession h x).clock = s.clock := rfl
@[simp] theorem State.setSession_tariff (s : State) (h : Nat) (x : Session) : (s.setSession h x).tariff = s.tariff := rfl
@[simp] theorem State.setSession_zones (s : State) (h : Nat) (x : Session) : (s.setSession h x).zones = s.zones := rfl
@[simp] theorem State.setSession_linkConfig (s : State) (h : Nat) (x : Session) : (s.setSession h x).linkConfig = s.linkConfig := rfl
@[simp] theorem State.setSession_agreements (s : State) (h : Nat) (x : Session) : (s.setSession h x).agreements = s.agreements := rfl
@[simp] theorem State.setSession_accounts (s : State) (h : Nat) (x : Session) : (s.setSession h x).accounts = s.accounts := rfl
@[simp] theorem State.setSession_queue (s : State) (h : Nat) (x : Session) : (s.setSession h x).queue = s.queue := rfl
@[simp] theorem State.setSession_params (s : State) (h : Nat) (x : Session) : (s.setSession h x).params = s.params := rfl
@[simp] theorem State.setSession_backupValid (s : State) (h : Nat) (x : Session) : (s.setSession h x).backupValid = s.backupValid := rfl
@[simp] theorem State.setSession_period (s : State) (h : Nat) (x : Session) : (s.setSession h x).period = s.period := rfl
@[simp] theorem State.setSession_rating (s : State) (h : Nat) (x : Session) : (s.setSession h x).rating = s.rating := rfl
@[simp] theorem State.setSession_sessions (s : State) (h : Nat) (x : Session) : (s.setSession h x).sessions = s.sessions.set Session.free h x := rfl
@[simp] theorem State.setSession_owed (s : State) (h : Nat) (x : Session) : (s.setSession h x).owed = s.owed := rfl
@[simp] theorem State.setSession_sweep (s : State) (h : Nat) (x : Session) : (s.setSession h x).sweep = s.sweep := rfl
@[simp] theorem State.setSession_coverage (s : State) (h : Nat) (x : Session) : (s.setSession h x).coverage = s.coverage := rfl
@[simp] theorem State.setSession_bridge (s : State) (h : Nat) (x : Session) : (s.setSession h x).bridge = s.bridge := rfl
@[simp] theorem State.setSession_links (s : State) (h : Nat) (x : Session) : (s.setSession h x).links = s.links := rfl
@[simp] theorem State.setSession_selector (s : State) (h : Nat) (x : Session) : (s.setSession h x).selector = s.selector := rfl
@[simp] theorem State.setSession_router (s : State) (h : Nat) (x : Session) : (s.setSession h x).router = s.router := rfl
@[simp] theorem State.setSession_pending (s : State) (h : Nat) (x : Session) : (s.setSession h x).pending = s.pending := rfl

/-! ### setAccount -/

@[simp] theorem State.setAccount_power (s : State) (i : Nat) (a : Account) : (s.setAccount i a).power = s.power := rfl
@[simp] theorem State.setAccount_pins (s : State) (i : Nat) (a : Account) : (s.setAccount i a).pins = s.pins := rfl
@[simp] theorem State.setAccount_clock (s : State) (i : Nat) (a : Account) : (s.setAccount i a).clock = s.clock := rfl
@[simp] theorem State.setAccount_tariff (s : State) (i : Nat) (a : Account) : (s.setAccount i a).tariff = s.tariff := rfl
@[simp] theorem State.setAccount_zones (s : State) (i : Nat) (a : Account) : (s.setAccount i a).zones = s.zones := rfl
@[simp] theorem State.setAccount_linkConfig (s : State) (i : Nat) (a : Account) : (s.setAccount i a).linkConfig = s.linkConfig := rfl
@[simp] theorem State.setAccount_agreements (s : State) (i : Nat) (a : Account) : (s.setAccount i a).agreements = s.agreements := rfl
@[simp] theorem State.setAccount_accounts (s : State) (i : Nat) (a : Account) : (s.setAccount i a).accounts = s.accounts.set Account.closed i a := rfl
@[simp] theorem State.setAccount_queue (s : State) (i : Nat) (a : Account) : (s.setAccount i a).queue = s.queue := rfl
@[simp] theorem State.setAccount_params (s : State) (i : Nat) (a : Account) : (s.setAccount i a).params = s.params := rfl
@[simp] theorem State.setAccount_backupValid (s : State) (i : Nat) (a : Account) : (s.setAccount i a).backupValid = s.backupValid := rfl
@[simp] theorem State.setAccount_period (s : State) (i : Nat) (a : Account) : (s.setAccount i a).period = s.period := rfl
@[simp] theorem State.setAccount_rating (s : State) (i : Nat) (a : Account) : (s.setAccount i a).rating = s.rating := rfl
@[simp] theorem State.setAccount_sessions (s : State) (i : Nat) (a : Account) : (s.setAccount i a).sessions = s.sessions := rfl
@[simp] theorem State.setAccount_owed (s : State) (i : Nat) (a : Account) : (s.setAccount i a).owed = s.owed := rfl
@[simp] theorem State.setAccount_sweep (s : State) (i : Nat) (a : Account) : (s.setAccount i a).sweep = s.sweep := rfl
@[simp] theorem State.setAccount_coverage (s : State) (i : Nat) (a : Account) : (s.setAccount i a).coverage = s.coverage := rfl
@[simp] theorem State.setAccount_bridge (s : State) (i : Nat) (a : Account) : (s.setAccount i a).bridge = s.bridge := rfl
@[simp] theorem State.setAccount_links (s : State) (i : Nat) (a : Account) : (s.setAccount i a).links = s.links := rfl
@[simp] theorem State.setAccount_selector (s : State) (i : Nat) (a : Account) : (s.setAccount i a).selector = s.selector := rfl
@[simp] theorem State.setAccount_router (s : State) (i : Nat) (a : Account) : (s.setAccount i a).router = s.router := rfl
@[simp] theorem State.setAccount_pending (s : State) (i : Nat) (a : Account) : (s.setAccount i a).pending = s.pending := rfl

/-! ### setAgreement -/

@[simp] theorem State.setAgreement_power (s : State) (i : Nat) (g : Agreement) : (s.setAgreement i g).power = s.power := rfl
@[simp] theorem State.setAgreement_pins (s : State) (i : Nat) (g : Agreement) : (s.setAgreement i g).pins = s.pins := rfl
@[simp] theorem State.setAgreement_clock (s : State) (i : Nat) (g : Agreement) : (s.setAgreement i g).clock = s.clock := rfl
@[simp] theorem State.setAgreement_tariff (s : State) (i : Nat) (g : Agreement) : (s.setAgreement i g).tariff = s.tariff := rfl
@[simp] theorem State.setAgreement_zones (s : State) (i : Nat) (g : Agreement) : (s.setAgreement i g).zones = s.zones := rfl
@[simp] theorem State.setAgreement_linkConfig (s : State) (i : Nat) (g : Agreement) : (s.setAgreement i g).linkConfig = s.linkConfig := rfl
@[simp] theorem State.setAgreement_agreements (s : State) (i : Nat) (g : Agreement) : (s.setAgreement i g).agreements = s.agreements.set Agreement.emptied i g := rfl
@[simp] theorem State.setAgreement_accounts (s : State) (i : Nat) (g : Agreement) : (s.setAgreement i g).accounts = s.accounts := rfl
@[simp] theorem State.setAgreement_queue (s : State) (i : Nat) (g : Agreement) : (s.setAgreement i g).queue = s.queue := rfl
@[simp] theorem State.setAgreement_params (s : State) (i : Nat) (g : Agreement) : (s.setAgreement i g).params = s.params := rfl
@[simp] theorem State.setAgreement_backupValid (s : State) (i : Nat) (g : Agreement) : (s.setAgreement i g).backupValid = s.backupValid := rfl
@[simp] theorem State.setAgreement_period (s : State) (i : Nat) (g : Agreement) : (s.setAgreement i g).period = s.period := rfl
@[simp] theorem State.setAgreement_rating (s : State) (i : Nat) (g : Agreement) : (s.setAgreement i g).rating = s.rating := rfl
@[simp] theorem State.setAgreement_sessions (s : State) (i : Nat) (g : Agreement) : (s.setAgreement i g).sessions = s.sessions := rfl
@[simp] theorem State.setAgreement_owed (s : State) (i : Nat) (g : Agreement) : (s.setAgreement i g).owed = s.owed := rfl
@[simp] theorem State.setAgreement_sweep (s : State) (i : Nat) (g : Agreement) : (s.setAgreement i g).sweep = s.sweep := rfl
@[simp] theorem State.setAgreement_coverage (s : State) (i : Nat) (g : Agreement) : (s.setAgreement i g).coverage = s.coverage := rfl
@[simp] theorem State.setAgreement_bridge (s : State) (i : Nat) (g : Agreement) : (s.setAgreement i g).bridge = s.bridge := rfl
@[simp] theorem State.setAgreement_links (s : State) (i : Nat) (g : Agreement) : (s.setAgreement i g).links = s.links := rfl
@[simp] theorem State.setAgreement_selector (s : State) (i : Nat) (g : Agreement) : (s.setAgreement i g).selector = s.selector := rfl
@[simp] theorem State.setAgreement_router (s : State) (i : Nat) (g : Agreement) : (s.setAgreement i g).router = s.router := rfl
@[simp] theorem State.setAgreement_pending (s : State) (i : Nat) (g : Agreement) : (s.setAgreement i g).pending = s.pending := rfl

/-! ### setLink -/

@[simp] theorem State.setLink_power (s : State) (i : Slot) (l : Link) : (s.setLink i l).power = s.power := rfl
@[simp] theorem State.setLink_pins (s : State) (i : Slot) (l : Link) : (s.setLink i l).pins = s.pins := rfl
@[simp] theorem State.setLink_clock (s : State) (i : Slot) (l : Link) : (s.setLink i l).clock = s.clock := rfl
@[simp] theorem State.setLink_tariff (s : State) (i : Slot) (l : Link) : (s.setLink i l).tariff = s.tariff := rfl
@[simp] theorem State.setLink_zones (s : State) (i : Slot) (l : Link) : (s.setLink i l).zones = s.zones := rfl
@[simp] theorem State.setLink_linkConfig (s : State) (i : Slot) (l : Link) : (s.setLink i l).linkConfig = s.linkConfig := rfl
@[simp] theorem State.setLink_agreements (s : State) (i : Slot) (l : Link) : (s.setLink i l).agreements = s.agreements := rfl
@[simp] theorem State.setLink_accounts (s : State) (i : Slot) (l : Link) : (s.setLink i l).accounts = s.accounts := rfl
@[simp] theorem State.setLink_queue (s : State) (i : Slot) (l : Link) : (s.setLink i l).queue = s.queue := rfl
@[simp] theorem State.setLink_params (s : State) (i : Slot) (l : Link) : (s.setLink i l).params = s.params := rfl
@[simp] theorem State.setLink_backupValid (s : State) (i : Slot) (l : Link) : (s.setLink i l).backupValid = s.backupValid := rfl
@[simp] theorem State.setLink_period (s : State) (i : Slot) (l : Link) : (s.setLink i l).period = s.period := rfl
@[simp] theorem State.setLink_rating (s : State) (i : Slot) (l : Link) : (s.setLink i l).rating = s.rating := rfl
@[simp] theorem State.setLink_sessions (s : State) (i : Slot) (l : Link) : (s.setLink i l).sessions = s.sessions := rfl
@[simp] theorem State.setLink_owed (s : State) (i : Slot) (l : Link) : (s.setLink i l).owed = s.owed := rfl
@[simp] theorem State.setLink_sweep (s : State) (i : Slot) (l : Link) : (s.setLink i l).sweep = s.sweep := rfl
@[simp] theorem State.setLink_coverage (s : State) (i : Slot) (l : Link) : (s.setLink i l).coverage = s.coverage := rfl
@[simp] theorem State.setLink_bridge (s : State) (i : Slot) (l : Link) : (s.setLink i l).bridge = s.bridge := rfl
@[simp] theorem State.setLink_links (s : State) (i : Slot) (l : Link) : (s.setLink i l).links = s.links.set i l := rfl
@[simp] theorem State.setLink_selector (s : State) (i : Slot) (l : Link) : (s.setLink i l).selector = s.selector := rfl
@[simp] theorem State.setLink_router (s : State) (i : Slot) (l : Link) : (s.setLink i l).router = s.router := rfl
@[simp] theorem State.setLink_pending (s : State) (i : Slot) (l : Link) : (s.setLink i l).pending = s.pending := rfl

/-! ### Readers -/

@[simp] theorem State.setSession_session_same (s : State) (h : Nat) (x : Session) : (s.setSession h x).session h = x :=
  Table.get_set_same s.sessions Session.free h x

theorem State.setSession_session_other (s : State) {h j : Nat} (hj : j ≠ h) (x : Session) :
    (s.setSession h x).session j = s.session j := Table.get_set_other s.sessions Session.free hj x

theorem State.setSession_session (s : State) (h j : Nat) (x : Session) :
    (s.setSession h x).session j = if j = h then x else s.session j := Table.get_set s.sessions Session.free h j x

@[simp] theorem State.setAccount_account_same (s : State) (i : Nat) (a : Account) : (s.setAccount i a).account i = a :=
  Table.get_set_same s.accounts Account.closed i a

theorem State.setAccount_account (s : State) (i j : Nat) (a : Account) :
    (s.setAccount i a).account j = if j = i then a else s.account j := Table.get_set s.accounts Account.closed i j a

@[simp] theorem State.setAgreement_agreement_same (s : State) (i : Nat) (g : Agreement) :
    (s.setAgreement i g).agreement i = g := Table.get_set_same s.agreements Agreement.emptied i g

theorem State.setAgreement_agreement (s : State) (i j : Nat) (g : Agreement) :
    (s.setAgreement i g).agreement j = if j = i then g else s.agreement j := Table.get_set s.agreements Agreement.emptied i j g

@[simp] theorem State.raise_session (s : State) (k : EventKind) (d h : Nat) : (s.raise k d).session h = s.session h := rfl
@[simp] theorem State.raise_account (s : State) (k : EventKind) (d i : Nat) : (s.raise k d).account i = s.account i := rfl
@[simp] theorem State.raise_agreement (s : State) (k : EventKind) (d i : Nat) : (s.raise k d).agreement i = s.agreement i := rfl
@[simp] theorem State.raise_link (s : State) (k : EventKind) (d : Nat) (i : Slot) : (s.raise k d).link i = s.link i := rfl
@[simp] theorem State.answer_session (s : State) (p : Port) (r : Reply) (h : Nat) : (s.answer p r).session h = s.session h := rfl
@[simp] theorem State.answer_account (s : State) (p : Port) (r : Reply) (i : Nat) : (s.answer p r).account i = s.account i := rfl
@[simp] theorem State.answer_agreement (s : State) (p : Port) (r : Reply) (i : Nat) :
    (s.answer p r).agreement i = s.agreement i := rfl
@[simp] theorem State.answer_link (s : State) (p : Port) (r : Reply) (i : Slot) : (s.answer p r).link i = s.link i := rfl
@[simp] theorem State.setSession_account (s : State) (h : Nat) (x : Session) (i : Nat) :
    (s.setSession h x).account i = s.account i := rfl
@[simp] theorem State.setSession_agreement (s : State) (h : Nat) (x : Session) (i : Nat) :
    (s.setSession h x).agreement i = s.agreement i := rfl
@[simp] theorem State.setAccount_session (s : State) (i : Nat) (a : Account) (h : Nat) :
    (s.setAccount i a).session h = s.session h := rfl
@[simp] theorem State.setAgreement_session (s : State) (i : Nat) (g : Agreement) (h : Nat) :
    (s.setAgreement i g).session h = s.session h := rfl

@[simp] theorem Slots.get_set_same {α : Type} (t : Slots α) (i : Slot) (x : α) : (t.set i x).get i = x := by
  fin_cases i <;> rfl

theorem Slots.get_set_other {α : Type} (t : Slots α) {i j : Slot} (h : j ≠ i) (x : α) : (t.set i x).get j = t.get j := by
  fin_cases i <;> fin_cases j <;> first | rfl | exact absurd rfl h

theorem Slots.get_map {α β : Type} (f : α → β) (t : Slots α) (i : Slot) : (t.map f).get i = f (t.get i) := by
  fin_cases i <;> rfl

@[simp] theorem Slots.get_all {α : Type} (x : α) (i : Slot) : (Slots.all x).get i = x := by
  fin_cases i <;> rfl

theorem Slots.ext_get {α : Type} {t u : Slots α} (h : ∀ i : Slot, t.get i = u.get i) : t = u := by
  obtain ⟨a0, a1, a2, a3, a4, a5⟩ := t
  obtain ⟨b0, b1, b2, b3, b4, b5⟩ := u
  have h0 := h 0
  have h1 := h 1
  have h2 := h 2
  have h3 := h 3
  have h4 := h 4
  have h5 := h 5
  simp only [Slots.get] at h0 h1 h2 h3 h4 h5
  simp [h0, h1, h2, h3, h4, h5]

@[simp] theorem State.setLink_link_same (s : State) (i : Slot) (l : Link) : (s.setLink i l).link i = l :=
  Slots.get_set_same s.links i l

theorem State.setLink_link_other (s : State) {i j : Slot} (h : j ≠ i) (l : Link) : (s.setLink i l).link j = s.link j :=
  Slots.get_set_other s.links h l

@[simp] theorem Router.port_setPort_same (r : Router) (p : Port) (x : PortState) : (r.setPort p x).port p = x := by
  cases p <;> rfl

theorem Router.port_setPort_other (r : Router) {p q : Port} (h : q ≠ p) (x : PortState) : (r.setPort p x).port q = r.port q := by
  cases p <;> cases q <;> first | rfl | exact absurd rfl h

@[simp] theorem Router.details_setPort (r : Router) (p : Port) (x : PortState) : (r.setPort p x).details = r.details := by
  cases p <;> rfl

/-- What an occurrence does on one port (R192). -/
@[simp] theorem Router.port_occur (r : Router) (k : EventKind) (d : Nat) (p : Port) : (r.occur k d).port p = (r.port p).latch k d := by
  cases p <;> rfl

end Sys2Proof.Machine
end

