-- ==== Sys2Proof/Laws/Frames.lean ====
section
/-! SUPPORT. What each shared operation can change: one lemma for each, the state with a few fields replaced. -/

namespace Sys2Proof.Machine

theorem State.appendRecord_frame (s : State) (r : ChargeRecord) :
    ∃ q o, s.appendRecord r = { s with queue := q, router := o } := by
  unfold State.appendRecord
  dsimp only
  split <;> split <;> exact ⟨_, _, rfl⟩

theorem State.contribute_frame (s : State) (n c : Nat) : ∃ q o, s.contribute n c = { s with queue := q, router := o } := by
  unfold State.contribute
  split
  · exact ⟨_, _, rfl⟩
  · exact State.appendRecord_frame _ _

theorem State.countSession_frame (s : State) (x : Session) (f : Nat → Nat) :
    ∃ g a, s.countSession x f = { s with agreements := g, accounts := a } := by
  unfold State.countSession
  dsimp only
  split <;> exact ⟨_, _, rfl⟩

theorem State.becomeFree_frame (s : State) (h : Nat) :
    ∃ g a x, s.becomeFree h = { s with agreements := g, accounts := a, sessions := x } := by
  unfold State.becomeFree
  obtain ⟨g, a, e⟩ := State.countSession_frame s (s.session h) (fun n => n - 1)
  rw [e]
  exact ⟨_, _, _, rfl⟩

theorem State.joinOwed_frame (s : State) (h : Nat) (r : CloseReason) :
    ∃ x l o, s.joinOwed h r = { s with sessions := x, owed := l, router := o } := by
  unfold State.joinOwed
  dsimp only
  split <;> exact ⟨_, _, _, rfl⟩

/-- A close changes the queue, the counts, the session table, the owed-record list and the router. -/
theorem State.closeSession_frame (s : State) (h : Nat) (r : CloseReason) :
    ∃ g a q x l o, s.closeSession h r =
      { s with agreements := g, accounts := a, queue := q, sessions := x, owed := l, router := o } := by
  unfold State.closeSession
  split
  · obtain ⟨q, o, e⟩ := State.appendRecord_frame s (s.stamp ((s.session h).closeBody h r))
    rw [e]
    obtain ⟨g, a, x, e'⟩ := State.becomeFree_frame { s with queue := q, router := o } h
    rw [e']
    exact ⟨_, _, _, _, _, _, rfl⟩
  · obtain ⟨x, l, o, e⟩ := State.joinOwed_frame s h r
    rw [e]
    exact ⟨_, _, _, _, _, _, rfl⟩

theorem State.grantOwed_frame (s : State) (hs : List Nat) :
    ∃ g a q x l o, (s.grantOwed hs).1 =
      { s with agreements := g, accounts := a, queue := q, sessions := x, owed := l, router := o } := by
  induction hs generalizing s with
  | nil => exact ⟨_, _, _, _, _, _, rfl⟩
  | cons h rest ih =>
    unfold State.grantOwed
    split
    · dsimp only
      obtain ⟨q, o, e⟩ := State.appendRecord_frame s
        (s.stamp ((s.session h).closeBody h ((s.session h).closeReason.getD .purser)))
      rw [e]
      dsimp only
      obtain ⟨g, a, x, e'⟩ := State.becomeFree_frame { s with queue := q, owed := rest, router := o } h
      rw [e']
      obtain ⟨g2, a2, q2, x2, l2, o2, e2⟩ :=
        ih { s with agreements := g, accounts := a, queue := q, sessions := x, owed := rest, router := o }
      rw [e2]
      exact ⟨_, _, _, _, _, _, rfl⟩
    · exact ⟨_, _, _, _, _, _, rfl⟩

theorem State.changeReasons_frame (s : State) (add remove : Reasons) (h : Nat) :
    ∃ x o, s.changeReasons add remove h = { s with sessions := x, router := o } := by
  unfold State.changeReasons
  dsimp only
  repeat' split
  all_goals exact ⟨_, _, rfl⟩

theorem State.changeReasonsOf_frame (s : State) (add remove : Reasons) (hs : List Nat) :
    ∃ x o, s.changeReasonsOf add remove hs = { s with sessions := x, router := o } := by
  unfold State.changeReasonsOf
  induction hs generalizing s with
  | nil => exact ⟨_, _, rfl⟩
  | cons h rest ih =>
    obtain ⟨x, o, e⟩ := State.changeReasons_frame s add remove h
    simp only [List.foldl_cons, e]
    obtain ⟨x2, o2, e2⟩ := ih { s with sessions := x, router := o }
    rw [e2]
    exact ⟨_, _, rfl⟩

theorem State.creditEffect_frame (s : State) (a v : Nat) : ∃ x o, s.creditEffect a v = { s with sessions := x, router := o } := by
  unfold State.creditEffect
  split
  · obtain ⟨x, o, e⟩ := State.changeReasonsOf_frame (s.raise .creditExhausted a) Reasons.onlyCredit Reasons.none (s.sessionsOn a)
    rw [e]
    exact ⟨_, _, rfl⟩
  · exact State.changeReasonsOf_frame _ _ _ _

theorem State.drainOrder_frame (s : State) : ∃ x, s.drainOrder = { s with sessions := x } := by
  unfold State.drainOrder
  generalize s.handlesOf Session.live = hs
  induction hs generalizing s with
  | nil => exact ⟨_, rfl⟩
  | cons h rest ih =>
    obtain ⟨x, e⟩ := ih (s.drainOne h)
    simp only [List.foldl_cons, e]
    exact ⟨_, rfl⟩

theorem State.endOfDrain_frame (s : State) :
    ∃ g a q x l o, s.endOfDrain = { s with agreements := g, accounts := a, queue := q, sessions := x, owed := l, router := o } := by
  unfold State.endOfDrain
  generalize (s.handlesOf fun x => x.state == .draining) = hs
  induction hs generalizing s with
  | nil => exact ⟨_, _, _, _, _, _, rfl⟩
  | cons h rest ih =>
    obtain ⟨g, a, q, x, l, o, e⟩ := State.closeSession_frame s h .coverageEnd
    simp only [List.foldl_cons, e]
    obtain ⟨g2, a2, q2, x2, l2, o2, e2⟩ :=
      ih { s with agreements := g, accounts := a, queue := q, sessions := x, owed := l, router := o }
    rw [e2]
    exact ⟨_, _, _, _, _, _, rfl⟩

theorem State.emptyTable_frame (s : State) :
    ∃ g a x, s.emptyTable = { s with agreements := g, accounts := a, sessions := x, owed := [] } := by
  unfold State.emptyTable
  generalize s.handlesOf Session.notFree = hs
  have key : ∃ g a x, hs.foldl State.becomeFree s = { s with agreements := g, accounts := a, sessions := x } := by
    induction hs generalizing s with
    | nil => exact ⟨_, _, _, rfl⟩
    | cons h rest ih =>
      obtain ⟨g, a, x, e⟩ := State.becomeFree_frame s h
      simp only [List.foldl_cons, e]
      obtain ⟨g2, a2, x2, e2⟩ := ih { s with agreements := g, accounts := a, sessions := x }
      rw [e2]
      exact ⟨_, _, _, rfl⟩
  obtain ⟨g, a, x, e⟩ := key
  simp only [e]
  exact ⟨_, _, _, rfl⟩

/-! ### Rating -/

theorem State.sendComponent_frame (s : State) (c : WindowCause) (f : Context → Context) :
    ∃ r o, s.sendComponent c f = { s with rating := r, router := o } := by
  unfold State.sendComponent
  dsimp only
  repeat' split
  all_goals exact ⟨_, _, rfl⟩

theorem State.settlePeriod_frame (s : State) : ∃ p r o, s.settlePeriod = { s with period := p, rating := r, router := o } := by
  unfold State.settlePeriod
  dsimp only
  split
  · exact ⟨_, _, _, rfl⟩
  · obtain ⟨r, o, e⟩ := State.sendComponent_frame
      (({ s with period := s.clock.periodNow } : State).raise .periodChanged s.clock.periodNow.code) .period
      (fun c => { c with period := s.clock.periodNow })
    unfold State.sendPeriod
    rw [e]
    exact ⟨_, _, _, rfl⟩

theorem State.debit_frame (s : State) (a c : Nat) :
    ∃ b x o, (s.debit a c).1 = { s with accounts := b, sessions := x, router := o } := by
  unfold State.debit
  dsimp only
  have charged : ∀ t : State, (∃ b o, t = { s with accounts := b, router := o }) →
      ∃ b x o, (if (s.account a).value - min c (s.account a).value = 0 then t.creditEffect a 0 else t)
        = { s with accounts := b, sessions := x, router := o } := by
    rintro t ⟨b, o, rfl⟩
    obtain ⟨x, o2, effect⟩ := State.creditEffect_frame { s with accounts := b, router := o } a 0
    rw [effect]
    split <;> exact ⟨b, _, _, rfl⟩
  split
  · exact ⟨s.accounts, s.sessions, s.router, rfl⟩
  · cases (s.account a).kind <;> dsimp only
    · exact ⟨s.accounts, s.sessions, s.router, rfl⟩
    · exact charged _ (by split <;> exact ⟨_, _, rfl⟩)
    · split <;> exact ⟨_, s.sessions, _, rfl⟩

theorem State.addToSegments_frame (s : State) (h d v m c : Nat) :
    ∃ q x o, s.addToSegments h d v m c = { s with queue := q, sessions := x, router := o } := by
  obtain ⟨q, o, interim⟩ := State.appendRecord_frame s (s.stamp
    (.interim ((s.session h).who h) (min 255 ((s.session h).part + 1)) (s.session h).segments))
  unfold State.addToSegments
  dsimp only
  rw [interim]
  repeat' split
  all_goals exact ⟨_, _, _, rfl⟩

theorem State.takeCharge_frame (s : State) (h d v m c : Nat) :
    ∃ b q x o, (s.takeCharge h d v m c).1 = { s with accounts := b, queue := q, sessions := x, router := o } := by
  unfold State.takeCharge
  dsimp only
  obtain ⟨b, x, o, e⟩ := State.debit_frame s (s.session h).account c
  rw [e]
  obtain ⟨q2, x2, o2, e2⟩ := State.addToSegments_frame
    (({ s with accounts := b, sessions := x, router := o } : State).setSession h
      { ({ s with accounts := b, sessions := x, router := o } : State).session h with
        shortfall := min Config.maxValue ((({ s with accounts := b, sessions := x, router := o } : State).session h).shortfall
          + (s.debit (s.session h).account c).2.2) }) h d v m c
  rw [e2]
  exact ⟨_, _, _, _, rfl⟩

theorem State.rateReport_frame (s : State) (h d v m : Nat) :
    ∃ b q x o, (s.rateReport h d v m).state = { s with accounts := b, queue := q, sessions := x, router := o } := by
  unfold State.rateReport
  dsimp only
  split
  all_goals
    obtain ⟨b, q, x, o, e⟩ := State.takeCharge_frame _ h d v m _
    rw [e]
    exact ⟨_, _, _, _, rfl⟩

theorem State.roundData_frame (s : State) (h : Nat) :
    ∃ b q x o, s.roundData h = { s with accounts := b, queue := q, sessions := x, router := o } := by
  unfold State.roundData
  dsimp only
  split
  · exact ⟨_, _, _, _, rfl⟩
  · obtain ⟨b, q, x, o, e⟩ := State.takeCharge_frame s h 0 0 0
      (s.serviceCharge (s.session h).plan (s.rowInForce (s.session h).plan).dataPrice)
    rw [e]
    exact ⟨_, _, _, _, rfl⟩

theorem State.roundVoice_frame (s : State) (h : Nat) :
    ∃ b q x o, s.roundVoice h = { s with accounts := b, queue := q, sessions := x, router := o } := by
  unfold State.roundVoice
  dsimp only
  split
  · exact ⟨_, _, _, _, rfl⟩
  · obtain ⟨b, q, x, o, e⟩ := State.takeCharge_frame s h 0 0 0
      (s.serviceCharge (s.session h).plan (s.rowInForce (s.session h).plan).voicePrice)
    rw [e]
    exact ⟨_, _, _, _, rfl⟩

/-! ### Links and the selector -/

theorem State.considerSwap_frame (s : State) :
    ∃ k l o, s.considerSwap = { s with selector := k, links := l, router := o } := by
  unfold State.considerSwap
  repeat' split
  all_goals exact ⟨_, _, _, rfl⟩

theorem State.dropSwap_frame (s : State) (i : Slot) :
    ∃ k l o, s.dropSwap i = { s with selector := k, links := l, router := o } := by
  unfold State.dropSwap
  dsimp only
  obtain ⟨k, l, o, e⟩ := State.considerSwap_frame
    (({ s with selector := { s.selector with swap := none } } : State).raise .swapAbandoned i.val)
  rw [e]
  exact ⟨_, _, _, rfl⟩

theorem State.carrierFaulted_frame (s : State) (i : Slot) :
    ∃ k l o, s.carrierFaulted i = { s with selector := k, links := l, router := o } := by
  have key : ∀ k : Selector, ∃ k2 l o, (({ s with selector := k } : State).raise .shoreDark i.val).considerSwap
      = { s with selector := k2, links := l, router := o } := by
    intro k
    obtain ⟨k2, l, o, e⟩ := State.considerSwap_frame (({ s with selector := k } : State).raise .shoreDark i.val)
    exact ⟨_, _, _, e⟩
  unfold State.carrierFaulted
  cases s.selector.swap with
  | none => exact key s.selector
  | some w =>
    dsimp only
    split
    · exact key { s.selector with swap := some { w with oldCarrier := none } }
    · exact key s.selector

theorem State.faultLink_frame (s : State) (i : Slot) (b : Bool) :
    ∃ k l o, s.faultLink i b = { s with selector := k, links := l, router := o } := by
  unfold State.faultLink
  obtain ⟨k, l, o, e⟩ := State.carrierFaulted_frame
    ((s.setLink i ((s.link i).enterHoldoff s.params.holdoff b)).raise .linkFault i.val) i
  rw [e]
  exact ⟨_, _, _, rfl⟩

theorem State.abandonFailed_frame (s : State) (i : Slot) (b : Bool) :
    ∃ k l o, s.abandonFailed i b = { s with selector := k, links := l, router := o } := by
  unfold State.abandonFailed
  obtain ⟨k, l, o, e⟩ := State.dropSwap_frame (s.setLink i ((s.link i).enterHoldoff s.params.holdoff b)) i
  rw [e]
  exact ⟨_, _, _, rfl⟩

theorem State.abandonLate_frame (s : State) : ∃ k l o, s.abandonLate = { s with selector := k, links := l, router := o } := by
  unfold State.abandonLate
  split
  · exact ⟨_, _, _, rfl⟩
  · rename_i w hw
    dsimp only
    obtain ⟨k, l, o, e⟩ := State.dropSwap_frame
      { s.setLink w.candidate ((s.link w.candidate).enterHoldoff s.params.holdoff false) with
        selector := { (s.setLink w.candidate ((s.link w.candidate).enterHoldoff s.params.holdoff false)).selector with
          lateMark := some w.candidate } } w.candidate
    rw [e]
    exact ⟨_, _, _, rfl⟩

theorem State.judgeLinks_frame (s : State) (slots : List Slot) :
    ∃ k l o, s.judgeLinks slots = { s with selector := k, links := l, router := o } := by
  unfold State.judgeLinks
  dsimp only
  obtain ⟨l1, e1⟩ : ∃ l, slots.foldl (fun t i => t.setLink i ((t.link i).judge (t.eligibleNow i) t.params.linkQual)) s
      = { s with links := l } := by
    induction slots generalizing s with
    | nil => exact ⟨_, rfl⟩
    | cons i rest ih =>
      obtain ⟨l, e⟩ := ih (s.setLink i ((s.link i).judge (s.eligibleNow i) s.params.linkQual))
      simp only [List.foldl_cons, e]
      exact ⟨_, rfl⟩
  rw [e1]
  have last : ∀ X : State, (∃ k l o, X = { s with selector := k, links := l, router := o }) →
      ∃ k l o, (match s.carrier with
        | some c => if ((s.link c).eligible && !(({ s with links := l1 } : State).link c).eligible) = true then X.considerSwap else X
        | none => X) = { s with selector := k, links := l, router := o } := by
    rintro X ⟨k, l, o, rfl⟩
    obtain ⟨k2, l2, o2, considered⟩ := State.considerSwap_frame { s with selector := k, links := l, router := o }
    repeat' split
    all_goals first | exact ⟨k2, l2, o2, considered⟩ | exact ⟨k, l, o, rfl⟩
  apply last
  repeat' split
  all_goals first
    | exact ⟨s.selector, l1, s.router, rfl⟩
    | (obtain ⟨k, l, o, dropped⟩ := State.dropSwap_frame { s with links := l1 } _
       exact ⟨k, l, o, dropped⟩)

theorem State.actOnReport_frame (s : State) (i : Slot) (a b c : Bool) :
    ∃ k l o, s.actOnReport i a b c = { s with selector := k, links := l, router := o } := by
  unfold State.actOnReport
  dsimp only
  repeat' split
  all_goals first
    | exact State.abandonFailed_frame _ _ _
    | exact State.faultLink_frame _ _ _
    | exact ⟨s.selector, _, s.router, rfl⟩

theorem State.takeReport_frame (s : State) (i : Slot) (a : Bool) (q l t : Nat) :
    ∃ k m o, s.takeReport i a q l t = { s with selector := k, links := m, router := o } := by
  unfold State.takeReport
  dsimp only
  split
  · obtain ⟨k, m, o, e⟩ := State.actOnReport_frame (s.setLink i ((s.link i).applyReport s.params a q l t)) i (s.link i).healthy a
      (hardFailure s.params.hardLossLimit a l)
    rw [e]
    exact ⟨_, _, _, rfl⟩
  · exact ⟨_, _, _, rfl⟩

theorem State.completeSwap_frame (s : State) (w : Swap) :
    ∃ k l r o, s.completeSwap w = { s with selector := k, links := l, rating := r, router := o } := by
  have key : ∀ (t : State) (f : Context → Context), ∃ k l r o,
      (if ((t.sendComponent .costClass f).considerSwap).params.swapDwell = 0 then
        ({ (t.sendComponent .costClass f).considerSwap with selector :=
            { ((t.sendComponent .costClass f).considerSwap).selector with dwellTimer := none } } : State).considerSwap
        else (t.sendComponent .costClass f).considerSwap)
        = { t with selector := k, links := l, rating := r, router := o } := by
    intro t f
    obtain ⟨r, o, e⟩ := State.sendComponent_frame t .costClass f
    rw [e]
    obtain ⟨k2, l2, o2, e2⟩ := State.considerSwap_frame { t with rating := r, router := o }
    rw [e2]
    split
    · obtain ⟨k3, l3, o3, e3⟩ := State.considerSwap_frame
        { t with selector := { k2 with dwellTimer := none }, links := l2, rating := r, router := o2 }
      rw [e3]
      exact ⟨_, _, _, _, rfl⟩
    · exact ⟨_, _, _, _, rfl⟩
  unfold State.completeSwap State.sendCostClass
  cases w.oldCarrier with
  | none =>
    obtain ⟨k, l, r, o, e⟩ := key _ _
    exact ⟨_, _, _, _, e⟩
  | some c =>
    obtain ⟨k, l, r, o, e⟩ := key _ _
    exact ⟨_, _, _, _, e⟩

/-! ### Coverage -/

theorem State.enterRadiating_frame (s : State) : ∃ c o, s.enterRadiating = { s with coverage := c, router := o } :=
  ⟨_, _, rfl⟩

theorem State.enterRamping_frame (s : State) : ∃ c o, s.enterRamping = { s with coverage := c, router := o } := by
  unfold State.enterRamping
  dsimp only
  split <;> exact ⟨_, _, rfl⟩

theorem State.enterQualifying_frame (s : State) : ∃ c o, s.enterQualifying = { s with coverage := c, router := o } := by
  unfold State.enterQualifying
  dsimp only
  split
  · obtain ⟨c, o, e⟩ := State.enterRamping_frame
      (s.changeCoverage { s.coverage with state := .qualifying, restoreTimer := some (seconds s.params.restoreDelay) })
    rw [e]
    exact ⟨_, _, rfl⟩
  · exact ⟨_, _, rfl⟩

/-- What the end of a withdrawal or of service can change: the coverage controller and what a close changes. -/
theorem State.endWithdrawal_frame (s : State) :
    ∃ c g a q x l o, s.endWithdrawal =
      { s with coverage := c, agreements := g, accounts := a, queue := q, sessions := x, owed := l, router := o } := by
  unfold State.endWithdrawal
  dsimp only
  obtain ⟨g, a, q, x, l, o, e⟩ := State.endOfDrain_frame (s.changeCoverage s.coverage.silenced)
  rw [e]
  split
  · obtain ⟨c, o2, e2⟩ := State.enterQualifying_frame
      { s.changeCoverage s.coverage.silenced with agreements := g, accounts := a, queue := q, sessions := x, owed := l, router := o }
    rw [e2]
    exact ⟨_, _, _, _, _, _, _, rfl⟩
  · exact ⟨_, _, _, _, _, _, _, rfl⟩

theorem State.beginWithdrawal_frame (s : State) (grace : Nat) :
    ∃ c g a q x l o, s.beginWithdrawal grace =
      { s with coverage := c, agreements := g, accounts := a, queue := q, sessions := x, owed := l, router := o } := by
  unfold State.beginWithdrawal
  dsimp only
  obtain ⟨x, e⟩ := State.drainOrder_frame
    (s.changeCoverage { s.coverage with state := .withdrawing, rampTimer := none, pacing := 0 })
  rw [e]
  split
  · obtain ⟨c, g, a, q, x2, l, o, e2⟩ := State.endWithdrawal_frame _
    rw [e2]
    exact ⟨_, _, _, _, _, _, _, rfl⟩
  · exact ⟨_, _, _, _, _, _, _, rfl⟩

/-- A state is one whose service has changed in nothing. -/
theorem State.service_frame_self (s : State) :
    ∃ c g a q x l o,
      s = { s with coverage := c, agreements := g, accounts := a, queue := q, sessions := x, owed := l, router := o } :=
  ⟨s.coverage, s.agreements, s.accounts, s.queue, s.sessions, s.owed, s.router, rfl⟩

theorem State.judgeCoverage_frame (s : State) (was : Bool) (grace : Nat) :
    ∃ c g a q x l o, s.judgeCoverage was grace =
      { s with coverage := c, agreements := g, accounts := a, queue := q, sessions := x, owed := l, router := o } := by
  unfold State.judgeCoverage
  split
  · exact s.service_frame_self
  · split
    · unfold State.loseRadiation
      split <;> first
        | exact State.beginWithdrawal_frame _ _
        | exact s.service_frame_self
        | exact ⟨_, s.agreements, s.accounts, s.queue, s.sessions, s.owed, _, rfl⟩
    · unfold State.gainRadiation
      split
      · obtain ⟨c, o, entered⟩ := State.enterQualifying_frame s
        exact ⟨c, s.agreements, s.accounts, s.queue, s.sessions, s.owed, o, entered⟩
      all_goals exact s.service_frame_self

theorem State.endOfService_frame (s : State) :
    ∃ c g a q x l o, s.endOfService =
      { s with coverage := c, agreements := g, accounts := a, queue := q, sessions := x, owed := l, router := o } := by
  have ended : ∃ c g a q x l o, (s.changeCoverage s.coverage.silenced).drainOrder.endOfDrain =
      { s with coverage := c, agreements := g, accounts := a, queue := q, sessions := x, owed := l, router := o } := by
    obtain ⟨x, drained⟩ := State.drainOrder_frame (s.changeCoverage s.coverage.silenced)
    obtain ⟨g, a, q, x2, l, o, closed⟩ := State.endOfDrain_frame { s.changeCoverage s.coverage.silenced with sessions := x }
    rw [drained, closed]
    exact ⟨(s.changeCoverage s.coverage.silenced).coverage, g, a, q, x2, l, o, rfl⟩
  unfold State.endOfService
  split <;> first
    | exact ended
    | exact s.service_frame_self
    | exact ⟨_, s.agreements, s.accounts, s.queue, s.sessions, s.owed, _, rfl⟩

theorem State.reportServed_frame (s : State) :
    ∃ c g a q x l o, s.reportServed =
      { s with coverage := c, agreements := g, accounts := a, queue := q, sessions := x, owed := l, router := o } := by
  unfold State.reportServed
  split
  · exact State.endWithdrawal_frame _
  · exact s.service_frame_self

theorem State.zoneReasons_frame (s : State) (z : Nat) : ∃ x o, s.zoneReasons z = { s with sessions := x, router := o } := by
  unfold State.zoneReasons
  generalize (s.handlesOf fun x => x.served && x.agreement.isSome) = hs
  induction hs generalizing s with
  | nil => exact ⟨_, _, rfl⟩
  | cons h rest ih =>
    obtain ⟨x, o, e⟩ : ∃ x o, s.zoneReason z h = { s with sessions := x, router := o } := by
      unfold State.zoneReason
      split
      · exact ⟨_, _, rfl⟩
      · split <;> exact State.changeReasons_frame _ _ _ _
    simp only [List.foldl_cons, e]
    obtain ⟨x2, o2, e2⟩ := ih { s with sessions := x, router := o }
    rw [e2]
    exact ⟨_, _, rfl⟩

/-! ### The bridge order line and the frames of a port -/

theorem State.reachStuck_frame (s : State) : ∃ b o, s.reachStuck = { s with bridge := b, router := o } := by
  unfold State.reachStuck
  dsimp only
  repeat' split
  all_goals exact ⟨_, _, rfl⟩

/-- The lengths a low has reached change the decoder, and the router where the low is reported as stuck. -/
theorem State.takeLengths_frame (s : State) : ∃ b o, s.takeLengths = { s with bridge := b, router := o } := by
  have stuck : ∀ t : State, (∃ b, t = { s with bridge := b }) →
      ∃ b o, (if t.bridge.lowFor Config.stuckPeriods && t.bridge.awaitsStuck then t.reachStuck else t) =
        { s with bridge := b, router := o } := by
    rintro t ⟨b, rfl⟩
    obtain ⟨b2, o, reported⟩ := State.reachStuck_frame { s with bridge := b }
    rw [reported]
    split <;> exact ⟨_, _, rfl⟩
  unfold State.takeLengths
  refine stuck _ ?_
  dsimp only [State.reachPulse, State.reachLong]
  repeat' split
  all_goals exact ⟨_, rfl⟩

theorem State.endLow_frame (s : State) : ∃ b o, s.endLow = { s with bridge := b, router := o } := by
  obtain ⟨b, o, taken⟩ := s.takeLengths_frame
  refine ⟨b.rise, o, ?_⟩
  unfold State.endLow
  rw [taken]

/-- A low with no length waiting to be taken leaves the decoder to the rise alone. -/
theorem State.takeLengths_of_taken {s : State}
    (pulse : (s.bridge.lowFor Config.pulsePeriods && s.bridge.awaitsPulse) = false)
    (long : (s.bridge.lowFor Config.longLowPeriods && s.bridge.awaitsLong) = false)
    (stuck : (s.bridge.lowFor Config.stuckPeriods && s.bridge.awaitsStuck) = false) : s.takeLengths = s := by
  simp [State.takeLengths, pulse, long, stuck]

@[simp] theorem Frame.sends_idle (n k : Nat) : Frame.idle.sends n k = none := rfl

/-- An answered frame sends nothing of its own while the command comes in (R198). -/
theorem Frame.sends_before {n k : Nat} (st : Status) (response : List Byte) (early : k < n + 2) :
    (Frame.answered st response).sends n k = none := by
  simp [Frame.sends, early]

@[simp] theorem Frame.sends_filler (n : Nat) (st : Status) (response : List Byte) :
    (Frame.answered st response).sends n (n + 2) = some 0 := by
  simp [Frame.sends]

@[simp] theorem Frame.sends_status (n : Nat) (st : Status) (response : List Byte) :
    (Frame.answered st response).sends n (n + 3) = some (BitVec.ofNat 8 st.code) := by
  have place : n + 3 - (n + 2) = 1 := by omega
  simp [Frame.sends, place]

@[simp] theorem Frame.sends_response (n k : Nat) (st : Status) (response : List Byte) :
    (Frame.answered st response).sends n (n + 4 + k) = some (response.getD k 0) := by
  have late : ¬ n + 4 + k < n + 2 := by omega
  have place : n + 4 + k - (n + 2) = k + 2 := by omega
  simp [Frame.sends, late, place]

end Sys2Proof.Machine
end

