-- ==== Sys2Proof/Laws/PerInstr.lean ====
section
/-! SUPPORT. The family FrameLength: the frame of a well-formed command carries as many parameter bytes as the command summary
gives its code (11.3), one lemma for each command. -/

namespace Sys2Proof.Laws

/-- A field of `width` bytes is `width` bytes long. -/
@[simp] theorem beBytes_length (width n : Nat) : (Machine.beBytes width n).length = width := by
  induction width generalizing n with
  | zero => rfl
  | succ w ih => simp [Machine.beBytes, ih]

/-- The parameter bytes of a well-formed command are as many as the summary says, and a code that is not in the summary has
none. -/
def FrameLength.Statement (i : Instr) : Prop :=
  i.wellFormed = true → ∀ code parameters, frameParts i = some (code, parameters) →
    parameters.length = (parameterCount code.toNat).getD 0

theorem FrameLength.attach (p : Port) (identity : IdentityWord) (accountPresent : Byte) (accountIndex : Byte) : FrameLength.Statement (.attach p identity accountPresent accountIndex) := by
  intro _ c q h
  obtain ⟨rfl, rfl⟩ := Prod.mk.inj (Option.some.inj h)
  simp [parameterCount]

theorem FrameLength.release (p : Port) (handle : Half) (data : Half) (voice : Half) (messages : Byte) : FrameLength.Statement (.release p handle data voice messages) := by
  intro _ c q h
  obtain ⟨rfl, rfl⟩ := Prod.mk.inj (Option.some.inj h)
  simp [parameterCount]

theorem FrameLength.keepalive (p : Port) (handle : Half) : FrameLength.Statement (.keepalive p handle) := by
  intro _ c q h
  obtain ⟨rfl, rfl⟩ := Prod.mk.inj (Option.some.inj h)
  simp [parameterCount]

theorem FrameLength.usage (p : Port) (handle : Half) (data : Half) (voice : Half) (messages : Byte) : FrameLength.Statement (.usage p handle data voice messages) := by
  intro _ c q h
  obtain ⟨rfl, rfl⟩ := Prod.mk.inj (Option.some.inj h)
  simp [parameterCount]

theorem FrameLength.zoneReport (p : Port) (zone : Byte) : FrameLength.Statement (.zoneReport p zone) := by
  intro _ c q h
  obtain ⟨rfl, rfl⟩ := Prod.mk.inj (Option.some.inj h)
  simp [parameterCount]

theorem FrameLength.linkReport (p : Port) (slot : Byte) (present : Byte) (quality : Byte) (loss : Half) (latency : Half) : FrameLength.Statement (.linkReport p slot present quality loss latency) := by
  intro _ c q h
  obtain ⟨rfl, rfl⟩ := Prod.mk.inj (Option.some.inj h)
  simp [parameterCount]

theorem FrameLength.swapConfirm (p : Port) (slot : Byte) : FrameLength.Statement (.swapConfirm p slot) := by
  intro _ c q h
  obtain ⟨rfl, rfl⟩ := Prod.mk.inj (Option.some.inj h)
  simp [parameterCount]

theorem FrameLength.loadZone (p : Port) (zone : Byte) (loaded : Byte) (policy : Byte) (grace : Half) (tariffClass : Byte) : FrameLength.Statement (.loadZone p zone loaded policy grace tariffClass) := by
  intro _ c q h
  obtain ⟨rfl, rfl⟩ := Prod.mk.inj (Option.some.inj h)
  simp [parameterCount]

theorem FrameLength.loadLink (p : Port) (slot : Byte) (loaded : Byte) (kind : Byte) (costClass : Byte) (rank : Byte) (zones : Half) : FrameLength.Statement (.loadLink p slot loaded kind costClass rank zones) := by
  intro _ c q h
  obtain ⟨rfl, rfl⟩ := Prod.mk.inj (Option.some.inj h)
  simp [parameterCount]

theorem FrameLength.loadPriceRow (p : Port) (plan : Byte) (zoneClass : Byte) (dataPrice : Half) (dataIncrement : Half) (voicePrice : Half) (voiceIncrement : Byte) (messagePrice : Half) : FrameLength.Statement (.loadPriceRow p plan zoneClass dataPrice dataIncrement voicePrice voiceIncrement messagePrice) := by
  intro _ c q h
  obtain ⟨rfl, rfl⟩ := Prod.mk.inj (Option.some.inj h)
  simp [parameterCount]

theorem FrameLength.setSurcharges (p : Port) (s0 : Half) (s1 : Half) (s2 : Half) (s3 : Half) : FrameLength.Statement (.setSurcharges p s0 s1 s2 s3) := by
  intro _ c q h
  obtain ⟨rfl, rfl⟩ := Prod.mk.inj (Option.some.inj h)
  simp [parameterCount]

theorem FrameLength.setDiscounts (p : Port) (q0 : Byte) (q1 : Byte) (q2 : Byte) (q3 : Byte) (q4 : Byte) (q5 : Byte) (q6 : Byte) (q7 : Byte) : FrameLength.Statement (.setDiscounts p q0 q1 q2 q3 q4 q5 q6 q7) := by
  intro _ c q h
  obtain ⟨rfl, rfl⟩ := Prod.mk.inj (Option.some.inj h)
  simp [parameterCount]

theorem FrameLength.setOffPeakWindow (p : Port) (startHour : Byte) (endHour : Byte) : FrameLength.Statement (.setOffPeakWindow p startHour endHour) := by
  intro _ c q h
  obtain ⟨rfl, rfl⟩ := Prod.mk.inj (Option.some.inj h)
  simp [parameterCount]

theorem FrameLength.loadAgreement (p : Port) (index : Byte) (state : Byte) (codeLength : Byte) (code : CodeWord) (zones : Half) (plan : Byte) (account : Byte) : FrameLength.Statement (.loadAgreement p index state codeLength code zones plan account) := by
  intro _ c q h
  obtain ⟨rfl, rfl⟩ := Prod.mk.inj (Option.some.inj h)
  simp [parameterCount]

theorem FrameLength.accountSet (p : Port) (index : Byte) (kind : Byte) (value : Value48) (threshold : Value48) (plan : Byte) : FrameLength.Statement (.accountSet p index kind value threshold plan) := by
  intro _ c q h
  obtain ⟨rfl, rfl⟩ := Prod.mk.inj (Option.some.inj h)
  simp [parameterCount]

theorem FrameLength.accountAdjust (p : Port) (index : Byte) (sign : Byte) (magnitude : Value48) : FrameLength.Statement (.accountAdjust p index sign magnitude) := by
  intro _ c q h
  obtain ⟨rfl, rfl⟩ := Prod.mk.inj (Option.some.inj h)
  simp [parameterCount]

theorem FrameLength.setSessionFlags (p : Port) (handle : Half) (mask : Byte) : FrameLength.Statement (.setSessionFlags p handle mask) := by
  intro _ c q h
  obtain ⟨rfl, rfl⟩ := Prod.mk.inj (Option.some.inj h)
  simp [parameterCount]

theorem FrameLength.clearSessionFlags (p : Port) (handle : Half) (mask : Byte) : FrameLength.Statement (.clearSessionFlags p handle mask) := by
  intro _ c q h
  obtain ⟨rfl, rfl⟩ := Prod.mk.inj (Option.some.inj h)
  simp [parameterCount]

theorem FrameLength.closeSession (p : Port) (handle : Half) : FrameLength.Statement (.closeSession p handle) := by
  intro _ c q h
  obtain ⟨rfl, rfl⟩ := Prod.mk.inj (Option.some.inj h)
  simp [parameterCount]

theorem FrameLength.readRecord (p : Port) : FrameLength.Statement (.readRecord p) := by
  intro _ c q h
  obtain ⟨rfl, rfl⟩ := Prod.mk.inj (Option.some.inj h)
  simp [parameterCount]

theorem FrameLength.dropRecord (p : Port) : FrameLength.Statement (.dropRecord p) := by
  intro _ c q h
  obtain ⟨rfl, rfl⟩ := Prod.mk.inj (Option.some.inj h)
  simp [parameterCount]

theorem FrameLength.readQueueMark (p : Port) : FrameLength.Statement (.readQueueMark p) := by
  intro _ c q h
  obtain ⟨rfl, rfl⟩ := Prod.mk.inj (Option.some.inj h)
  simp [parameterCount]

theorem FrameLength.setClock (p : Port) (seconds : Byte) (minutes : Byte) (hours : Byte) (date : Byte) (month : Byte) (year : Byte) (dayOfWeek : Byte) : FrameLength.Statement (.setClock p seconds minutes hours date month year dayOfWeek) := by
  intro _ c q h
  obtain ⟨rfl, rfl⟩ := Prod.mk.inj (Option.some.inj h)
  simp [parameterCount]

theorem FrameLength.setTrim (p : Port) (sign : Byte) (magnitude : Byte) : FrameLength.Statement (.setTrim p sign magnitude) := by
  intro _ c q h
  obtain ⟨rfl, rfl⟩ := Prod.mk.inj (Option.some.inj h)
  simp [parameterCount]

theorem FrameLength.setParameter (p : Port) (number : Byte) (value : Half) : FrameLength.Statement (.setParameter p number value) := by
  intro _ c q h
  obtain ⟨rfl, rfl⟩ := Prod.mk.inj (Option.some.inj h)
  simp [parameterCount]

theorem FrameLength.readStatus (p : Port) : FrameLength.Statement (.readStatus p) := by
  intro _ c q h
  obtain ⟨rfl, rfl⟩ := Prod.mk.inj (Option.some.inj h)
  simp [parameterCount]

theorem FrameLength.readSessionByHandle (p : Port) (handle : Half) : FrameLength.Statement (.readSessionByHandle p handle) := by
  intro _ c q h
  obtain ⟨rfl, rfl⟩ := Prod.mk.inj (Option.some.inj h)
  simp [parameterCount]

theorem FrameLength.readSessionByIdentity (p : Port) (identity : IdentityWord) : FrameLength.Statement (.readSessionByIdentity p identity) := by
  intro _ c q h
  obtain ⟨rfl, rfl⟩ := Prod.mk.inj (Option.some.inj h)
  simp [parameterCount]

theorem FrameLength.readAccount (p : Port) (index : Byte) : FrameLength.Statement (.readAccount p index) := by
  intro _ c q h
  obtain ⟨rfl, rfl⟩ := Prod.mk.inj (Option.some.inj h)
  simp [parameterCount]

theorem FrameLength.readAgreement (p : Port) (index : Byte) : FrameLength.Statement (.readAgreement p index) := by
  intro _ c q h
  obtain ⟨rfl, rfl⟩ := Prod.mk.inj (Option.some.inj h)
  simp [parameterCount]

theorem FrameLength.readLink (p : Port) (slot : Byte) : FrameLength.Statement (.readLink p slot) := by
  intro _ c q h
  obtain ⟨rfl, rfl⟩ := Prod.mk.inj (Option.some.inj h)
  simp [parameterCount]

theorem FrameLength.readZone (p : Port) (zone : Byte) : FrameLength.Statement (.readZone p zone) := by
  intro _ c q h
  obtain ⟨rfl, rfl⟩ := Prod.mk.inj (Option.some.inj h)
  simp [parameterCount]

theorem FrameLength.readClock (p : Port) : FrameLength.Statement (.readClock p) := by
  intro _ c q h
  obtain ⟨rfl, rfl⟩ := Prod.mk.inj (Option.some.inj h)
  simp [parameterCount]

theorem FrameLength.readEvent (p : Port) : FrameLength.Statement (.readEvent p) := by
  intro _ c q h
  obtain ⟨rfl, rfl⟩ := Prod.mk.inj (Option.some.inj h)
  simp [parameterCount]

theorem FrameLength.setEventEnables (p : Port) (enables : Quad) : FrameLength.Statement (.setEventEnables p enables) := by
  intro _ c q h
  obtain ⟨rfl, rfl⟩ := Prod.mk.inj (Option.some.inj h)
  simp [parameterCount]

theorem FrameLength.portReset (p : Port) : FrameLength.Statement (.portReset p) := by
  intro _ c q h
  obtain ⟨rfl, rfl⟩ := Prod.mk.inj (Option.some.inj h)
  simp [parameterCount]

theorem FrameLength.unknownCommand (p : Port) (code : Byte) : FrameLength.Statement (.unknownCommand p code) := by
  intro hw c q h
  obtain ⟨rfl, rfl⟩ := Prod.mk.inj (Option.some.inj h)
  rw [Option.isNone_iff_eq_none.mp hw]
  rfl

theorem FrameLength.truncatedFrame (p : Port) : FrameLength.Statement (.truncatedFrame p) := fun _ _ _ h => nomatch h

theorem FrameLength.lapseSweepVisit : FrameLength.Statement .lapseSweepVisit := fun _ _ _ h => nomatch h

theorem FrameLength.fixTimerExpires : FrameLength.Statement .fixTimerExpires := fun _ _ _ h => nomatch h

theorem FrameLength.candidateQualifies : FrameLength.Statement .candidateQualifies := fun _ _ _ h => nomatch h

theorem FrameLength.restoreTimerExpires : FrameLength.Statement .restoreTimerExpires := fun _ _ _ h => nomatch h

theorem FrameLength.rampTimerExpires : FrameLength.Statement .rampTimerExpires := fun _ _ _ h => nomatch h

theorem FrameLength.graceTimerExpires : FrameLength.Statement .graceTimerExpires := fun _ _ _ h => nomatch h

theorem FrameLength.wholeSecond : FrameLength.Statement .wholeSecond := fun _ _ _ h => nomatch h

theorem FrameLength.bridgeLineFall : FrameLength.Statement .bridgeLineFall := fun _ _ _ h => nomatch h

theorem FrameLength.bridgeLineRise : FrameLength.Statement .bridgeLineRise := fun _ _ _ h => nomatch h

theorem FrameLength.lowReaches30Ms : FrameLength.Statement .lowReaches30Ms := fun _ _ _ h => nomatch h

theorem FrameLength.longLow : FrameLength.Statement .longLow := fun _ _ _ h => nomatch h

theorem FrameLength.stuck : FrameLength.Statement .stuck := fun _ _ _ h => nomatch h

theorem FrameLength.gapTimerExpires : FrameLength.Statement .gapTimerExpires := fun _ _ _ h => nomatch h

theorem FrameLength.recoveryTimerExpires : FrameLength.Statement .recoveryTimerExpires := fun _ _ _ h => nomatch h

theorem FrameLength.staleTimerExpires (slot : Slot) : FrameLength.Statement (.staleTimerExpires slot) := fun _ _ _ h => nomatch h

theorem FrameLength.linkQualificationExpires (slot : Slot) : FrameLength.Statement (.linkQualificationExpires slot) := fun _ _ _ h => nomatch h

theorem FrameLength.faultTimerExpires (slot : Slot) : FrameLength.Statement (.faultTimerExpires slot) := fun _ _ _ h => nomatch h

theorem FrameLength.holdoffTimerExpires (slot : Slot) : FrameLength.Statement (.holdoffTimerExpires slot) := fun _ _ _ h => nomatch h

theorem FrameLength.swapTimerExpires : FrameLength.Statement .swapTimerExpires := fun _ _ _ h => nomatch h

theorem FrameLength.dwellTimerExpires : FrameLength.Statement .dwellTimerExpires := fun _ _ _ h => nomatch h

theorem FrameLength.settleWindowExpires : FrameLength.Statement .settleWindowExpires := fun _ _ _ h => nomatch h

theorem FrameLength.attentionTimerExpires (p : Port) : FrameLength.Statement (.attentionTimerExpires p) := fun _ _ _ h => nomatch h

theorem FrameLength.mainPowerRises : FrameLength.Statement .mainPowerRises := fun _ _ _ h => nomatch h

theorem FrameLength.mainPowerFalls : FrameLength.Statement .mainPowerFalls := fun _ _ _ h => nomatch h

theorem FrameLength.resetLineFalls : FrameLength.Statement .resetLineFalls := fun _ _ _ h => nomatch h

theorem FrameLength.resetLineRises : FrameLength.Statement .resetLineRises := fun _ _ _ h => nomatch h

theorem FrameLength.powerFailWarningRises : FrameLength.Statement .powerFailWarningRises := fun _ _ _ h => nomatch h

theorem FrameLength.powerFailWarningFalls : FrameLength.Statement .powerFailWarningFalls := fun _ _ _ h => nomatch h

theorem FrameLength.backupDomainLost : FrameLength.Statement .backupDomainLost := fun _ _ _ h => nomatch h

theorem FrameLength.initializationEnds : FrameLength.Statement .initializationEnds := fun _ _ _ h => nomatch h

end Sys2Proof.Laws
end

