-- ==== Sys2Proof/Tests/Slice0.lean ====
section
/-! SUPPORT. Tests. The expected figures are those of the reference's worked examples and tables, or worked by hand from its rules;
each test names its source. A theorem `witness_<Name>` shows, for the statement of that name, concrete states and operands that
meet its hypotheses, one for each clause, taken at the edge of the clause's range where it has one. -/

namespace Sys2Proof.Tests

open Sys2Proof.Machine

-- One test is checked after another: many kernel evaluations at once would not fit in memory.
set_option Elab.async false

/-! ### The states the tests start from -/

/-- The state after a command that is not stopped. -/
def after (i : Instr) (s : State) : State :=
  match exec i s with
  | .next t => t
  | _ => s

/-- The status code and the response a port gives to a command. -/
def reply (i : Instr) (s : State) (p : Port) : Nat × List Nat :=
  match ((after i s).port p).frame with
  | .idle => (99, [])
  | .answered st r => (st.code, r.map BitVec.toNat)

/-- A command runs to a next state. -/
def completes (i : Instr) (s : State) : Bool :=
  match exec i s with
  | .next _ => true
  | _ => false

/-- The kinds, by number, that are pending on the purser port. -/
def pendingKinds (s : State) : List Nat := (s.port .purser).pending.map fun e => e.kind.number

/-- The part with no events pending on any port. -/
def quiet : State :=
  { State.reset with router := { Router.start with details := State.reset.router.details } }

/-- An identity under agreement 0 of `sea`. -/
def roamerId : IdentityWord := 0x310260000099887f
/-- Another identity. -/
def guestId : IdentityWord := 0x234150000000007f

/-- A roaming session on agreement 0 and account 0. -/
def roamer : Session :=
  { Session.free with
    state := .active, identity := roamerId, basis := some .roaming, agreement := some 0, plan := 1, openTime := Calendar.cold,
    segments := [⟨⟨1, 0, .peak⟩, false, 0, 0, 0, 0⟩] }

/-- An onboard session on account 1. -/
def guest : Session :=
  { Session.free with
    state := .active, identity := guestId, basis := some .onboard, account := 1, plan := 1, openTime := Calendar.cold,
    segments := [⟨⟨1, 0, .peak⟩, false, 0, 0, 0, 0⟩] }

/-- At sea in zone 1, RADIATING, nobody attached: a settlement account, a prepaid account, an agreement, a price row, a satellite
link that carries (slot 0) and one in STANDBY (slot 1). -/
def sea : State :=
  { quiet with
    zones := ⟨[(1, ⟨true, .radiate, 30, 1⟩), (2, ⟨true, .noRadiate, 60, 2⟩)]⟩
    accounts := ⟨[(0, ⟨.settlement, 0, 0, 0, 0⟩), (1, ⟨.prepaid, 1000, 400, 1, 0⟩)]⟩
    agreements := ⟨[(0, ⟨.opened, 5, 0x31026f, 0x0006, 1, 0, 0⟩)]⟩
    tariff := { Tariff.cold with rows := ⟨[(9, ⟨10, 100, 5, 30, 50⟩)]⟩ }
    coverage := { Coverage.start with
      zone := some 1, lastZone := some 1, fixTimer := some 900000, state := .radiating, permit := true }
    rating := ⟨⟨1, 0, .peak⟩, none, none, none⟩
    linkConfig := { Slots.all LinkConfig.unloaded with s0 := ⟨true, .satellite, 0, 5, 0xffff⟩, s1 := ⟨true, .satellite, 2, 8, 0xffff⟩ }
    links := { Slots.all Link.start with
      s0 := { Link.start with
        state := .carrying, present := true, quality := 90, raw := 90, smoothed := 90, healthy := true, eligible := true,
        staleTimer := some 300000 }
      s1 := { Link.start with
        state := .standby, present := true, quality := 80, raw := 80, smoothed := 80, healthy := true, eligible := true,
        staleTimer := some 300000 } } }

/-- `sea` with the roaming session at handle 0 and the onboard one at handle 1. -/
def served : State :=
  { sea with
    sessions := ⟨[(0, roamer), (1, guest)]⟩
    accounts := ⟨[(0, ⟨.settlement, 0, 0, 0, 1⟩), (1, ⟨.prepaid, 1000, 400, 1, 1⟩)]⟩
    agreements := ⟨[(0, ⟨.opened, 5, 0x31026f, 0x0006, 1, 0, 1⟩)]⟩ }

/-- `served` in a withdrawal. -/
def withdrawing : State :=
  { served with
    sessions := ⟨[(0, { roamer with state := .draining }), (1, { guest with state := .draining })]⟩
    coverage := { sea.coverage with
      zone := some 2, lastZone := some 2, state := .withdrawing, graceTimer := some 5, graceInForce := 60 }
    agreements := ⟨[(0, ⟨.opened, 5, 0x31026f, 0x0006, 1, 0, 1⟩)]⟩
    rating := ⟨⟨2, 0, .peak⟩, none, none, none⟩ }

/-- A record for a queue of any length. -/
def filler : ChargeRecord := ⟨Calendar.cold, true, .interim ⟨0, guestId, 1, none, 1, Calendar.cold⟩ 1 []⟩

/-- `served` with the queue at 511 records, nothing owed. -/
def fullQueue : State := { served with queue := ⟨List.replicate 511 filler, 511⟩ }

/-- `fullQueue` with session 1 CLOSING and owed its record. -/
def owing : State :=
  { fullQueue with sessions := ⟨[(0, roamer), (1, { guest with state := .closing, closeReason := some .released })]⟩, owed := [1] }

/-- A supervisor state with its lines, over a part whose main domain holds its start values. -/
def supervised (v : Supervisor) (warning resetHigh : Bool) : State :=
  { quiet with
    power := ⟨v, .cold, v == .flushed, 0⟩, pins := ⟨resetHigh, warning, true⟩, bridge := Bridge.start,
    router := Router.start }

/-- Every law holds of `s`, law by law. -/
def lawful (s : State) : Bool :=
  decide s.PowerLaw && decide s.TablesLaw && decide s.LoadedLaw && decide s.ParamsLaw && decide s.SessionLaw && decide s.CountLaw
    && decide s.PartyLaw && decide s.ReasonsLaw && decide s.CoverageLaw && decide s.ZoneLaw && decide s.ServiceLaw
    && decide s.WithdrawalLaw && decide s.BridgeLaw && decide s.LinkLaw && decide s.ClockLaw && decide s.RatingLaw
    && decide s.QueueLaw && decide s.PortLaw

theorem lawful_of (s : State) (h : lawful s = true) : s.Lawful := by
  simpa only [lawful, Bool.and_eq_true, decide_eq_true_eq, and_assoc] using h

/-- Every state of a list keeps every law. -/
theorem lawful_of_all {states : List State} (h : states.all lawful = true) : ∀ s ∈ states, s.Lawful :=
  fun s member => lawful_of s (List.all_eq_true.mp h s member)

/-- The states the witnesses use keep every law. -/
theorem test_fixtures_lawful :
    lawful sea = true ∧ lawful served = true ∧ lawful withdrawing = true ∧ lawful fullQueue = true ∧ lawful owing = true := by
  decide +kernel

/-! ### Well-formed commands and frames -/

/-- The one ill-formed kind of term is refused by the check and by the meaning. -/
theorem test_wellFormed_refuses :
    (Instr.unknownCommand .cell 16).wellFormed = false ∧ (Instr.unknownCommand .cell 15).wellFormed = true
      ∧ completes (.unknownCommand .cell 16) sea = false ∧ completes (.unknownCommand .cell 15) sea = true := by decide +kernel

/-- Frames written out from 11.1, 11.3 and 11.7, one for each role: code low, parameters high, numbers most significant first. -/
theorem test_readFrame :
    readFrame .cell [⟨false, 19⟩, ⟨true, 1⟩, ⟨true, 2⟩, ⟨true, 4⟩, ⟨true, 210⟩, ⟨true, 0⟩, ⟨true, 95⟩, ⟨true, 2⟩] =
        some (.usage .cell 258 1234 95 2)
      ∧ readFrame .link [⟨false, 32⟩, ⟨true, 3⟩, ⟨true, 1⟩, ⟨true, 55⟩, ⟨true, 0⟩, ⟨true, 120⟩, ⟨true, 2⟩, ⟨true, 128⟩] =
        some (.linkReport .link 3 1 55 120 640)
      ∧ readFrame .purser [⟨false, 56⟩, ⟨true, 12⟩, ⟨true, 0⟩, ⟨true, 0⟩, ⟨true, 0⟩, ⟨true, 0⟩, ⟨true, 0⟩, ⟨true, 39⟩, ⟨true, 16⟩] =
        some (.accountAdjust .purser 12 0 10000)
      ∧ readFrame .cell [⟨false, 89⟩, ⟨true, 7⟩, ⟨true, 255⟩, ⟨true, 255⟩, ⟨true, 254⟩, ⟨true, 9⟩] =
        some (.setEventEnables .cell 0x07fffffe)
      ∧ readFrame .cell [⟨false, 15⟩, ⟨true, 7⟩] = some (.unknownCommand .cell 15) := by decide +kernel

/-- R187: too few bytes, a parameter byte with command/data low, and a first byte with it high truncate a frame; a frame with no
byte is no frame. -/
theorem test_readFrame_truncated :
    readFrame .cell [⟨false, 18⟩, ⟨true, 0⟩] = some (.truncatedFrame .cell)
      ∧ readFrame .cell [⟨false, 18⟩, ⟨true, 0⟩, ⟨false, 0⟩] = some (.truncatedFrame .cell)
      ∧ readFrame .cell [⟨true, 18⟩, ⟨true, 0⟩, ⟨true, 0⟩] = some (.truncatedFrame .cell)
      ∧ readFrame .cell [] = none := by decide +kernel

/-! ### Witnesses: ports, frames and the queue of commands -/

/-- A command waits at the front of the queue. -/
theorem witness_StepRunsFrontCommand :
    ({ sea with pending := [.readClock .cell, .wholeSecond] } : State).pending = .readClock .cell :: [.wholeSecond] := rfl

/-- Nothing waits: an event is due already in State.reset (the first visit of the lapse sweep), and none is due in `sea` with that
visit a period away. -/
theorem witness_IdleStepPassesOnePeriod :
    State.reset.pending = [] ∧ State.reset.dueEvents = [.lapseSweepVisit]
      ∧ ({ sea with sweep := ⟨0, 120, some 1⟩ } : State).pending = []
      ∧ ({ sea with sweep := ⟨0, 120, some 1⟩ } : State).dueEvents = [] := by decide +kernel

theorem witness_WellFormedCommandCompletes :
    (Instr.wholeSecond).wellFormed = true ∧ (Instr.unknownCommand .link 90).wellFormed = false := by decide +kernel

/-- Each supervisor state, a code outside the summary, and a purser command on the cell port. -/
theorem witness_PortChecksComeFirst :
    (Instr.dropRecord .cell).wellFormed = true ∧ framePort (.dropRecord .cell) = some .cell
      ∧ frameParts (.dropRecord .cell) = some (61, []) ∧ (supervised .off false true).power.supervisor = .off
      ∧ (supervised .reset false false).power.supervisor = .reset
      ∧ (supervised .initializing false true).power.supervisor = .initializing
      ∧ (supervised .flushed true true).power.supervisor = .flushed ∧ sea.power.supervisor = .running
      ∧ (parameterCount (61 : Byte).toNat).isSome = true ∧ Port.cell ∉ summaryRoles (61 : Byte).toNat
      ∧ (Instr.unknownCommand .cell 66).wellFormed = true ∧ framePort (.unknownCommand .cell 66) = some .cell
      ∧ frameParts (.unknownCommand .cell 66) = some (66, []) ∧ parameterCount (66 : Byte).toNat = none := by decide +kernel

/-- A release of a FREE record is refused with NOT_FOUND, code 19. -/
theorem witness_RefusalLeavesStateUnchanged :
    framePort (.keepalive .cell 7) = some .cell ∧ sea.power.supervisor ≠ .off ∧ completes (.keepalive .cell 7) sea = true
      ∧ ((after (.keepalive .cell 7) sea).port .cell).frame = .answered .notFound [] ∧ 16 ≤ Status.notFound.code := by
  decide +kernel

theorem witness_FramesWithoutCommand :
    parameterCount (91 : Byte).toNat = none ∧ (supervised .flushed true true).power.supervisor ≠ .off
      ∧ (supervised .off false true).power.supervisor = .off ∧ sea.power.supervisor = .running := by decide +kernel

theorem witness_FrameReadsBack :
    (Instr.keepalive .cell 1023).wellFormed = true ∧ framePort (.keepalive .cell 1023) = some .cell
      ∧ encode (.keepalive .cell 1023) = some [⟨false, 18⟩, ⟨true, 3⟩, ⟨true, 255⟩] ∧ 0 < 2 ∧ 2 < 3
      ∧ frameParts (.keepalive .cell 1023) = some (18, [3, 255]) ∧ sea.power.supervisor ≠ .off := by decide +kernel

/-- The table of R198: a frame of *Release*, code 17 with seven parameters, sends nothing of its own in bytes 1 to 8, then the
filler, the status OK, state 0 and place 0 0, and zeros; a truncated frame sends none of them. -/
theorem test_frame_sends :
    (List.range 15).map (fun k => (after (.release .cell 0 0 0 0) served).sends .cell 7 k) =
        List.replicate 9 none ++ List.replicate 6 (some 0)
      ∧ (List.range 8).map (fun k => (after (.closeSession .purser 1) fullQueue).sends .purser 2 k) =
        List.replicate 4 none ++ [some 0, some 0, some 4, some 0]
      ∧ (List.range 7).map (fun k => (after (.swapConfirm .link 6) sea).sends .link 1 k) =
        List.replicate 3 none ++ [some 0, some 18, some 0, some 0]
      ∧ (after (.truncatedFrame .cell) sea).sends .cell 1 3 = none := by decide +kernel

/-! ### Witnesses: the session table -/

/-- `sea` with another coverage state and pacing count. -/
def seaIn (c : CoverageState) (pacing : Nat) : State := { sea with coverage := { sea.coverage with state := c, pacing := pacing } }

/-- The session of handle `h` when every record is taken. -/
def crowdSession (h : Nat) : Session := { roamer with identity := BitVec.ofNat 64 h }

def crowdEntries : List (Nat × Session) := (List.range 1024).map fun h => (h, crowdSession h)

/-- `sea` with every record taken. -/
def crowd : State := { sea with sessions := ⟨crowdEntries⟩ }

/-- `sea` with agreement 0 in another state and zone set. -/
def seaWith (g : AgreementState) (zones : Half) : State :=
  { sea with agreements := ⟨[(0, ⟨g, 5, 0x31026f, zones, 1, 0, 0⟩)]⟩ }

/-- `sea` with account 1 at zero. -/
def broke : State := { sea with accounts := ⟨[(0, ⟨.settlement, 0, 0, 0, 0⟩), (1, ⟨.prepaid, 0, 400, 1, 0⟩)]⟩ }

theorem witness_AttachChecks :
    identityValid 0x3102600000998870 = false ∧ boolOf 2 = none ∧ identityValid roamerId = true ∧ boolOf 0 = some false
      ∧ boolOf 1 = some true ∧ quiet.coverage.state = .silent ∧ (seaIn .qualifying 0).coverage.state = .qualifying
      ∧ withdrawing.coverage.state = .withdrawing ∧ (seaIn .ramping 0).coverage.pacing = 0
      ∧ (seaIn .ramping 1).coverage.pacing ≠ 0 ∧ sea.coverage.state = .radiating
      ∧ served.lookupIdentity roamerId = some 0 ∧ (served.session 0).served = true
      ∧ owing.lookupIdentity guestId = some 1 ∧ (owing.session 1).served = false
      ∧ sea.lookupIdentity roamerId = none ∧ sea.freeHandle.isSome = true
      ∧ (sea.account 0).kind ≠ .prepaid ∧ (broke.account 1).kind = .prepaid ∧ (broke.account 1).value = 0
      ∧ sea.matchAgreement guestId = none ∧ (seaWith .suspended 6).matchAgreement roamerId = some 0
      ∧ ((seaWith .suspended 6).agreement 0).state = .suspended
      ∧ ((seaWith .opened 4).agreement 0).state ≠ .suspended ∧ (seaWith .opened 4).coverage.zone = some 1
      ∧ zoneIn 1 ((seaWith .opened 4).agreement 0).zones = false := by decide +kernel

theorem crowd_session (h : Nat) (hh : h < 1024) : crowd.session h = crowdSession h := by
  have rising : risingFrom 0 crowdEntries = true := by decide +kernel
  have found : (h, crowdSession h) ∈ crowdEntries := by
    unfold crowdEntries
    exact List.mem_map_of_mem (f := fun h => (h, crowdSession h)) (List.mem_range.mpr hh)
  unfold State.session Table.get crowd
  simp only [lookupKey_of_mem rising found, Option.getD_some]

/-- Every record taken, and none with the identity. -/
theorem witness_AttachChecks_full : crowd.lookupIdentity roamerId = none ∧ crowd.freeHandle = none := by
  refine ⟨by decide +kernel, List.find?_eq_none.mpr fun h hh => ?_⟩
  rw [crowd_session h (List.mem_range.mp hh)]
  simp [crowdSession, Session.notFree, roamer]

/-- Both ways of charging meet the hypotheses in `sea` at handle 0, and the last FREE record can be taken. -/
theorem witness_AttachAdmits :
    (sea.TablesLaw ∧ sea.power.supervisor = .running ∧ identityValid roamerId = true ∧ sea.coverage.state = .radiating
      ∧ 0 < Config.sessionCount ∧ (sea.session 0).state = .free
      ∧ ((sea.account 1).kind = .prepaid ∧ (sea.account 1).value ≠ 0)
      ∧ sea.matchAgreement roamerId = some 0 ∧ (sea.agreement 0).state = .opened ∧ sea.coverage.zone = some 1
      ∧ zoneIn 1 (sea.agreement 0).zones = true)
    ∧ (∀ k, (sea.session k).state ≠ .free → (sea.session k).identity ≠ roamerId) ∧ ∀ k, k < 0 → (sea.session k).state ≠ .free := by
  refine ⟨by decide +kernel, ?_, ?_⟩
  · exact fun k taken => absurd rfl taken
  · exact fun k below => absurd below (Nat.not_lt_zero k)

theorem witness_SessionCommandsRefuse :
    sea.power.supervisor = .running ∧ 16 ≤ (16 : Byte).toNat ∧ (15 : Byte).toNat < 16 ∧ Config.sessionCount ≤ (1024 : Half).toNat
      ∧ (1023 : Half).toNat < Config.sessionCount ∧ (sea.session 1023).state = .free ∧ owing.power.supervisor = .running
      ∧ (owing.session 1).state = .closing := by decide +kernel

/-- One session that drains is left. -/
def lastDraining : State := { withdrawing with sessions := ⟨[(0, { roamer with state := .draining })]⟩ }

theorem witness_CloseSessionCloses :
    served.TablesLaw ∧ (served.session 1).served = true ∧ 1 ∉ served.owed ∧ served.queue.records.length < Config.ordinaryLimit
      ∧ served.queue.records = []
      ∧ fullQueue.TablesLaw ∧ (fullQueue.session 1).served = true ∧ Config.ordinaryLimit ≤ fullQueue.queue.records.length
      ∧ fullQueue.owed = [] ∧ (owing.session 0).served = true ∧ 0 ∉ owing.owed ∧ owing.owed ≠ []
      ∧ served.coverage.state ≠ .withdrawing ∧ lastDraining.TablesLaw ∧ lastDraining.coverage.state = .withdrawing
      ∧ (lastDraining.session 0).served = true ∧ (after (.closeSession .purser 0) lastDraining).servedCount = 0 := by
  decide +kernel

/-- `s` with a residue of each service in session 1, in OFFPEAK at a surcharge of 35 and a discount of 20 per cent. -/
def withResidues (s : State) : State :=
  { s.setSession 1 { guest with dataResidue := 7, voiceResidue := 3 } with
    rating := ⟨⟨1, 0, .offpeak⟩, none, none, none⟩
    tariff := { s.tariff with surcharges := ⟨35, 0, 0, 0⟩, discounts := ⟨0, 20, 0, 0, 0, 0, 0, 0⟩ } }

/-- A session with no residue and one with both, with room in the queue and without; a voice quantity at its limit and above it, and
a barred service. -/
theorem witness_ReleaseClosesWithoutResidue :
    (∀ s ∈ [served, fullQueue], s.Lawful)
      ∧ (1 : Half).toNat = 1 ∧ 1 < Config.sessionCount ∧ served.power.supervisor = .running ∧ (served.session 1).served = true
      ∧ (served.session 1).dataResidue = 0 ∧ served.queue.records.length < Config.ordinaryLimit
      ∧ ((withResidues served).session 1).served = true ∧ ((withResidues fullQueue).session 1).served = true
      ∧ Config.ordinaryLimit ≤ fullQueue.queue.records.length ∧ ¬ 3600 < (3600 : Half).toNat ∧ 3600 < (3601 : Half).toNat
      ∧ (Flags.ofMask 1).dataBar = true :=
  ⟨lawful_of_all (by decide +kernel), by decide +kernel⟩

/-- `served` with session 0 in a state, with reasons and flags. -/
def servedAs (st : SessionState) (r : Reasons) (f : Flags) : State :=
  served.setSession 0 { roamer with state := st, reasons := r, flags := f }

theorem witness_SessionFlagsMoveHold :
    (15 : Byte).toNat < 16 ∧ (Flags.ofMask 7).hold = false ∧ (Flags.ofMask 8).hold = true
      ∧ ((servedAs .active Reasons.none Flags.none).session 0).served = true
      ∧ ((servedAs .suspended Reasons.onlyZone Flags.none).session 0).served = true
      ∧ ((servedAs .suspended Reasons.onlyZone Flags.none).session 0).flags.hold = false
      ∧ ((servedAs .suspended Reasons.onlyHold (Flags.ofMask 8)).session 0).served = true
      ∧ ((servedAs .suspended Reasons.onlyHold (Flags.ofMask 8)).session 0).flags.hold = true
      ∧ { Reasons.onlyHold with hold := false } = Reasons.none
      ∧ ((servedAs .draining ⟨false, true, false, true⟩ (Flags.ofMask 8)).session 0).served = true := by decide +kernel

theorem witness_LapseCountKeptAndSwept :
    (served.session 0).served = true ∧ served.mainRuns = true ∧ served.sweep.timer = some 0 ∧ served.sweep.position = 0
      ∧ (served.session 0).lapseCount < 3
      ∧ ((served.setSession 0 { roamer with lapseCount := 3 }).session 0).served = true
      ∧ 3 ≤ ((served.setSession 0 { roamer with lapseCount := 3 }).session 0).lapseCount
      ∧ ({ served with sweep := ⟨1023, 120, some 960⟩ } : State).sweep.timer = some 960
      ∧ (served.session 1023).served = false := by decide +kernel

theorem witness_ReadsChangeNothing :
    served.power.supervisor = .running ∧ 1024 ≤ (1024 : Half).toNat ∧ (1023 : Half).toNat < 1024 ∧ identityValid 0 = false
      ∧ identityValid 0x310260000000000f = true ∧ served.lookupIdentity 0x310260000000000f = none
      ∧ identityValid guestId = true ∧ served.lookupIdentity guestId = some 1 ∧ 64 ≤ (64 : Byte).toNat ∧ (63 : Byte).toNat < 64
      ∧ 6 ≤ (6 : Byte).toNat ∧ (5 : Byte).toNat = (5 : Slot).val ∧ 16 ≤ (16 : Byte).toNat ∧ (15 : Byte).toNat < 16 := by
  decide +kernel

/-! ### Witnesses: agreements and accounts -/

theorem witness_LookupAndLongestMatch :
    served.TablesLaw ∧ served.SessionLaw ∧ served.LoadedLaw ∧ served.PartyLaw := by
  refine ⟨?_, ?_, ?_, ?_⟩ <;> decide +kernel

theorem served_agreement (j : Nat) (h : j ≠ 0) : served.agreement j = Agreement.emptied := by
  have : ¬ 0 = j := fun e => h e.symm
  simp [State.agreement, served, Table.get, lookupKey, this]

theorem witness_LoadAgreementChecksAndSends :
    (served.TablesLaw ∧ served.SessionLaw ∧ 64 ≤ (64 : Byte).toNat ∧ (63 : Byte).toNat < 64 ∧ (served.agreement 0).count ≠ 0
      ∧ (served.agreement 63).count = 0 ∧ 2 < (3 : Byte).toNat ∧ codeValid 5 0x310260 = false ∧ codeValid 7 0x31026f = false
      ∧ 7 < (8 : Byte).toNat ∧ (served.account 1).kind ≠ .settlement
      ∧ (0 ≠ 63 ∧ (served.agreement 0).state ≠ .empty ∧ (served.agreement 0).codeLength = 5 ∧ (served.agreement 0).code = 0x31026f)
      ∧ codeValid 5 0x31026f = true ∧ codeValid 6 0x310260 = true ∧ (served.account 0).kind = .settlement
      ∧ (served.agreement 0).state ≠ .empty ∧ (served.agreement 0).codeLength ≠ 6
      ∧ (served.agreement 0).account = (0 : Byte).toNat)
    ∧ ∀ j, j ≠ (0 : Byte).toNat → (served.agreement j).state ≠ .empty → (served.agreement j).codeLength = (5 : Byte).toNat →
        (served.agreement j).code ≠ 0x31026f :=
  ⟨by decide +kernel, fun j other taken => absurd (by rw [served_agreement j other]; rfl) taken⟩

theorem witness_AccountCommandsWrite :
    2 < (3 : Byte).toNat ∧ 7 < (8 : Byte).toNat ∧ accountKindOf 2 = some .settlement ∧ (7 : Byte).toNat ≤ 7
      ∧ AccountKind.settlement ≠ (served.account 1).kind ∧ (served.account 1).count ≠ 0
      ∧ accountKindOf 1 = some (served.account 1).kind ∧ (sea.account 255).count = 0 ∧ sea.agreementsNaming 255 = 0
      ∧ 2 ≤ (2 : Byte).toNat ∧ Config.maxDelta < (140737488355329 : Value48).toNat
      ∧ (140737488355328 : Value48).toNat ≤ Config.maxDelta ∧ (sea.account 255).kind = .closed
      ∧ (sea.account 1).kind ≠ .closed ∧ (sea.account 1).value ≤ Config.maxValue := by decide +kernel

theorem witness_CreditFollowsValue :
    served.TablesLaw ∧ served.SessionLaw ∧ (⟨.settlement, 5, 0, 0, 1⟩ : Account).kind ≠ .prepaid
      ∧ (⟨.prepaid, 0, 400, 1, 1⟩ : Account).kind = .prepaid ∧ (⟨.prepaid, 0, 400, 1, 1⟩ : Account).value = 0
      ∧ (⟨.prepaid, 1, 400, 1, 1⟩ : Account).value ≠ 0 := by decide +kernel

/-- A debit of the whole value, one of one unit more, one that crosses the threshold by one unit and one that ends at it, an account
below its threshold already, and a settlement account one unit below its limit. -/
theorem witness_DebitSplitsCharge :
    served.TablesLaw ∧ served.SessionLaw ∧ (served.account 1).kind = .prepaid
      ∧ (served.debit 1 1000).2 = (1000, 0) ∧ (served.debit 1 1001).2 = (1000, 1) ∧ (served.debit 1 601).2 = (601, 0)
      ∧ (served.account 1).threshold ≤ (served.account 1).value ∧ (served.account 1).value - 601 < (served.account 1).threshold
      ∧ (served.account 1).threshold ≤ (served.account 1).value - 600
      ∧ ((served.setAccount 1 ⟨.prepaid, 399, 400, 1, 1⟩).account 1).value < 400
      ∧ (served.account 1).value - 1000 = 0 ∧ (served.account 1).value - 999 ≠ 0 ∧ (served.account 0).kind = .settlement
      ∧ ((served.setAccount 0 ⟨.settlement, 281474976710654, 0, 0, 1⟩).debit 0 2).2 = (1, 1)
      ∧ (281474976710654 : Nat) ≤ Config.maxValue := by decide +kernel

/-! ### Witnesses: zones and coverage -/

/-- `sea` in waters that do not allow radiation, SILENT, with a restore delay and a ramp period. -/
def moored (delay ramp : Nat) : State :=
  { sea with
    coverage := { Coverage.start with zone := some 2, lastZone := some 2, fixTimer := some 900000 }
    rating := ⟨⟨2, 0, .peak⟩, none, none, none⟩
    params := { Params.default with restoreDelay := delay, rampPeriod := ramp } }

/-- A state with a zone record written. -/
def rezoned (s : State) (z : Nat) (r : ZoneRecord) : State := { s with zones := s.zones.set ZoneRecord.unloaded z r }

/-- The losses and gains of radiation that a new record of the current zone can bring. -/
theorem witness_LoadZoneWrites_judged :
    (∀ s ∈ [served, sea, withdrawing, moored 30 60, moored 0 60, moored 0 0,
        { sea with coverage := { sea.coverage with state := .qualifying, restoreTimer := some 7, permit := false } }], s.Lawful)
      ∧ served.coverage.zone = some 1 ∧ (moored 0 0).coverage.zone = some 2 ∧ (moored 0 0).coverage.state = .silent
      ∧ served.servedHandles = [0, 1] ∧ sea.servedHandles = [] ∧ served.coverage.state = .radiating
      ∧ served.radiationAllowed = true ∧ (rezoned served 1 ⟨true, .noRadiate, 30, 1⟩).radiationAllowed = false
      ∧ (rezoned served 1 ZoneRecord.unloaded).radiationAllowed = false ∧ ZoneRecord.unloaded.grace = 0
      ∧ (moored 30 60).radiationAllowed = false ∧ (rezoned (moored 30 60) 2 ⟨true, .radiate, 30, 1⟩).radiationAllowed = true
      ∧ (rezoned withdrawing 2 ⟨true, .radiate, 30, 1⟩).radiationAllowed = true :=
  ⟨lawful_of_all (by decide +kernel), by decide +kernel⟩

theorem witness_LoadZoneWrites :
    16 ≤ (16 : Byte).toNat ∧ 2 ≤ (2 : Byte).toNat ∧ 8 ≤ (8 : Byte).toNat ∧ (15 : Byte).toNat < 16 ∧ (7 : Byte).toNat < 8
      ∧ (⟨true, .radiate, 600, 7⟩ : ZoneRecord) = ⟨true, .radiate, min 600 (601 : Half).toNat, (7 : Byte).toNat⟩
      ∧ sea.coverage.zone ≠ some (15 : Byte).toNat ∧ sea.coverage.zone = some (1 : Byte).toNat := by decide +kernel

/-- `sea` with a candidate. -/
def seaCandidate (z : Nat) (k : ZoneKind) : State :=
  { sea with coverage := { sea.coverage with candidate := some ⟨z, k, 65536⟩ } }

/-- `sea` with no zone known, so SILENT. -/
def lost : State :=
  { sea with coverage := { Coverage.start with lastZone := some 1 }, rating := ⟨⟨1, 0, .peak⟩, none, none, none⟩ }

theorem witness_ZoneReportMovesCandidate :
    sea.power.supervisor = .running ∧ 16 ≤ (16 : Byte).toNat ∧ (254 : Byte) ≠ 255 ∧ (15 : Byte).toNat < 16
      ∧ (sea.zoneRecord 1).loaded = true ∧ (sea.zoneRecord 1).policy = .radiate ∧ (sea.zoneRecord 15).loaded = false
      ∧ (seaCandidate 15 .restrictive).coverage.zone = some (1 : Byte).toNat
      ∧ (seaCandidate 15 .permissive).coverage.candidate = some ⟨15, .permissive, 65536⟩
      ∧ sea.coverage.zone ≠ some (15 : Byte).toNat ∧ sea.coverage.zone.isSome = true ∧ sea.coverage.candidate = none
      ∧ lost.coverage.zone = none ∧ (2 : Byte).toNat ≠ 15 := by decide +kernel

theorem witness_ZoneTimersChangeZone :
    (seaCandidate 2 .restrictive).Lawful ∧ (seaCandidate 2 .restrictive).mainRuns = true
      ∧ (seaCandidate 2 .restrictive).coverage.candidate = some ⟨2, .restrictive, 65536⟩
      ∧ (seaCandidate 2 .restrictive).coverage.state.inService = true
      ∧ ((seaCandidate 2 .restrictive).zoneRecord 2).kind = .restrictive
      ∧ (seaCandidate 2 .restrictive).coverage.fixTimer = some 900000 :=
  ⟨lawful_of _ (by decide +kernel), by decide +kernel⟩

/-- Served sessions that lose radiation to a new zone or to the loss of the fix, and a ship that gains it. -/
theorem witness_ZoneTimersChangeZone_judged :
    (∀ s ∈ [served, { served with coverage := { served.coverage with candidate := some ⟨2, .restrictive, 65536⟩ } },
        { moored 30 60 with coverage := { (moored 30 60).coverage with candidate := some ⟨1, .permissive, 327680⟩ } }], s.Lawful)
      ∧ served.coverage.fixTimer = some 900000 ∧ served.radiationAllowed = true ∧ served.coverage.lastZone = some 1
      ∧ (served.zoneRecord 1).grace = 30 ∧ (served.zoneRecord 2).grace = 60 ∧ served.servedHandles = [0, 1]
      ∧ (moored 30 60).radiationAllowed = false ∧ ((moored 30 60).zoneRecord 1).kind = .permissive :=
  ⟨lawful_of_all (by decide +kernel), by decide +kernel⟩

/-- `sea` with the restore or the ramp timer running. -/
def restoring : State := { sea with coverage := { sea.coverage with state := .qualifying, restoreTimer := some 7, permit := false } }
def ramping : State := { sea with coverage := { sea.coverage with state := .ramping, rampTimer := some 7, pacing := 2 } }

theorem witness_RestoreAndRampTimers :
    restoring.mainRuns = true ∧ restoring.coverage.state = .qualifying ∧ restoring.coverage.restoreTimer = some 7
      ∧ restoring.params.rampPeriod ≠ 0
      ∧ ({ restoring with params := { Params.default with rampPeriod := 0 } } : State).params.rampPeriod = 0
      ∧ ramping.mainRuns = true ∧ ramping.coverage.state = .ramping ∧ ramping.coverage.rampTimer = some 7 := by decide +kernel

/-- A withdrawal whose ship is back in waters that allow radiation. -/
def withdrawingAllowed : State :=
  { withdrawing with
    coverage := { withdrawing.coverage with zone := some 1, lastZone := some 1 }, rating := ⟨⟨1, 0, .peak⟩, none, none, none⟩ }

theorem witness_GraceTimerEndsWithdrawal :
    (∀ s ∈ [withdrawing, withdrawingAllowed], s.Lawful) ∧ withdrawing.mainRuns = true ∧ withdrawing.coverage.state = .withdrawing
      ∧ withdrawing.radiationAllowed = false ∧ (withdrawing.session 0).state = .draining ∧ (withdrawing.session 2).state ≠ .draining
      ∧ withdrawingAllowed.coverage.graceTimer = some 5 ∧ withdrawingAllowed.radiationAllowed = true :=
  ⟨lawful_of_all (by decide +kernel), by decide +kernel⟩

/-- A withdrawal with one record slot left for two sessions, and withdrawals whose last session has gone. -/
theorem witness_GraceTimerEndsWithdrawal_closes :
    ({ withdrawing with queue := ⟨List.replicate 510 filler, 510⟩ } : State).Lawful ∧ withdrawing.servedHandles = [0, 1]
      ∧ withdrawing.coverage.graceTimer = some 5
      ∧ (∀ s ∈ [withdrawing, withdrawingAllowed], ({ s with sessions := Table.empty } : State).TablesLaw
          ∧ ({ s with sessions := Table.empty } : State).servedHandles = [] ∧ s.coverage.state = .withdrawing)
      ∧ withdrawing.params.restoreDelay ≠ 0 ∧ served.coverage.state ≠ .withdrawing :=
  ⟨lawful_of _ (by decide +kernel), by decide +kernel⟩

/-! ### Witnesses: the bridge order line -/

/-- `sea` with the decoder in a state and the bridge order line high or low. -/
def decoding (high : Bool) (b : Bridge) : State := { sea with pins := ⟨true, false, high⟩, bridge := b }

/-- A train of `n` pulses at rest, its gap timer running. -/
def train (n : Nat) : Bridge := { Bridge.start with state := .train, pulseCount := n, gapTimer := some 100 }

/-- A low of a stage in a decoder state. -/
def low (st : DecoderState) (stage : LowStage) (elapsed : Nat) : Bridge :=
  { Bridge.start with state := st, lowTimer := some elapsed, lowStage := stage }

/-- A part in RESET, a part at sea with no timer of a clause running, and a low in progress at each stage a clause excludes. -/
theorem witness_StoppedTimersDoNothing :
    (supervised .reset false false).mainRuns = false
      ∧ ({ sea with sweep := ⟨0, 120, none⟩, coverage := Coverage.start } : State).sweep.timer = none
      ∧ Coverage.start.fixTimer = none ∧ Coverage.start.candidate = none ∧ Coverage.start.restoreTimer = none
      ∧ Coverage.start.rampTimer = none ∧ Coverage.start.graceTimer = none
      ∧ (decoding false (low .train .counted 5)).bridge.lowStage ≠ .brief
      ∧ (decoding false (low .recovering .counted 5)).bridge.state ≠ .train
      ∧ (decoding false (low .recovering .stuck 5)).bridge.lowStage = .stuck ∧ sea.bridge.gapTimer = none
      ∧ (decoding true (train 1)).bridge.recoveryTimer = none ∧ (sea.link 5).staleTimer = none ∧ (sea.link 5).qualTimer = none
      ∧ (sea.link 5).faultTimer = none ∧ (sea.link 5).holdoffTimer = none ∧ sea.selector.swap = none
      ∧ sea.selector.dwellTimer = none ∧ sea.rating.settleTimer = none ∧ (quiet.port .cell).attention = none
      ∧ ({ supervised .off false true with backupValid := false } : State).clockRuns = false
      ∧ sea.power.supervisor ≠ .initializing := by decide +kernel

/-- The edges of each length of a low, in each decoder state, at each stage of the low that the clauses name. -/
theorem witness_BridgeLineTimed :
    (decoding false (low .idle .brief 0)).pins.bridgeHigh = false ∧ (decoding true (train 1)).pins.bridgeHigh = true
      ∧ (supervised .off false true).mainRuns = false ∧ (supervised .off false true).pins.bridgeHigh = true
      ∧ (supervised .off false false).mainRuns = false
      ∧ ({ supervised .off false true with pins := ⟨true, false, false⟩ } : State).pins.bridgeHigh = false
      ∧ (decoding true (train 1)).mainRuns = true
      ∧ [DecoderState.idle, .train, .recovering].all (fun st => [LowStage.brief, .counted, .long, .stuck].all fun stage =>
            [0, 983, 984, 13107, 13108, 163839, 163840].all fun e =>
              (decoding false (low st stage e)).mainRuns && !(decoding false (low st stage e)).pins.bridgeHigh
                && (decoding false (low st stage e)).bridge == low st stage e && (low st stage e).lowTimer == some e) = true
      ∧ ({ low .recovering .brief 983 with recoveryTimer := some 100 } : Bridge).recoveryTimer.isSome = true
      ∧ (low .recovering .brief 983).recoveryTimer = none ∧ (low .recovering .counted 163840).stuckReported = false
      ∧ ({ low .recovering .counted 163840 with stuckReported := true } : Bridge).stuckReported = true
      ∧ ({ Bridge.start with recoveryTimer := some 1 } : Bridge).recoveryTimer = some 1 := by decide +kernel

theorem witness_TrainGivesOrder :
    (∀ s ∈ [train 4, train 1, train 2, train 3, train 5, { train 0 with longLow := true }].map (decoding true), s.Lawful)
      ∧ (decoding true (train 4)).mainRuns = true ∧ (decoding true (train 4)).bridge.gapTimer = some 100
      ∧ (train 4).longLow = false ∧ (train 4).pulseCount ≠ 5 ∧ (train 2).standing.silence = false :=
  ⟨lawful_of_all (by decide +kernel), by decide +kernel⟩

/-- A ship kept SILENT in radiating waters by standing orders, and the train that may end them. -/
def ordered (standing : Standing) (n : Nat) : State :=
  { decoding true { train n with standing := standing } with
    coverage := { Coverage.start with zone := some 1, lastZone := some 1, fixTimer := some 900000 } }

/-- HARBOR taken while sessions are served; HARBOR, SILENCE and both cancelled in SILENT. -/
theorem witness_TrainGivesOrder_judged :
    (∀ s ∈ [{ served with pins := ⟨true, false, true⟩, bridge := train 3 }, { served with pins := ⟨true, false, true⟩, bridge := train 2 },
        ordered ⟨false, true, false⟩ 3, ordered ⟨true, false, false⟩ 2, ordered ⟨true, true, false⟩ 1, ordered ⟨true, true, false⟩ 2],
      s.Lawful)
      ∧ served.radiationAllowed = true ∧ (served.zoneRecord 1).grace = 30 ∧ served.servedHandles ≠ []
      ∧ (ordered ⟨false, true, false⟩ 3).radiationAllowed = false ∧ (ordered ⟨false, true, false⟩ 3).coverage.state = .silent
      ∧ (after .gapTimerExpires (ordered ⟨false, true, false⟩ 3)).radiationAllowed = true
      ∧ (after .gapTimerExpires (ordered ⟨true, false, false⟩ 2)).radiationAllowed = true
      ∧ (after .gapTimerExpires (ordered ⟨true, true, false⟩ 1)).radiationAllowed = true
      ∧ (after .gapTimerExpires (ordered ⟨true, true, false⟩ 2)).radiationAllowed = false :=
  ⟨lawful_of_all (by decide +kernel), by decide +kernel⟩

/-! ### Witnesses: links and the selector -/

/-- `sea` with the live state of slot 1 in a state. -/
def linkIn (st : LinkState) : State := sea.setLink 1 { sea.link 1 with state := st }

/-- `sea` with a swap onto slot 1 in flight. -/
def swapping : State := { linkIn .ramping with selector := ⟨some ⟨1, some 0, 5⟩, none, none⟩ }

/-- Each link state at slot 1, with the reports a clause needs: present or absent, with a loss at the hard limit or one below. -/
theorem witness_LinkReportActs :
    6 ≤ (6 : Byte).toNat ∧ 2 ≤ (2 : Byte).toNat ∧ (5 : Byte).toNat = (5 : Slot).val ∧ (1 : Byte).toNat = (1 : Slot).val
      ∧ [LinkState.down, .idle, .qualifying, .standby, .ramping, .carrying, .holdoff].all (fun st =>
          (linkIn st).power.supervisor == .running && ((linkIn st).link 1).state == st && ((linkIn st).linkConfig.get 1).loaded)
        = true
      ∧ (sea.linkConfig.get 5).loaded = false ∧ sea.params.hardLossLimit ≤ (500 : Half).toNat
      ∧ ¬ sea.params.hardLossLimit ≤ (499 : Half).toNat := by decide +kernel

/-- Slot 0 faulted and in HOLDOFF. -/
def heldOff (absent : Bool) : State :=
  sea.setLink 0 { sea.link 0 with state := .holdoff, holdoffTimer := some 9, healthy := false, absent := absent }

theorem witness_LoadLinkJudges :
    3 ≤ (3 : Byte).toNat ∧ 4 ≤ (4 : Byte).toNat ∧ 16 ≤ (16 : Byte).toNat ∧ linkKindOf 2 = some .harbor ∧ (3 : Byte).toNat ≤ 3
      ∧ 1 ≤ (15 : Byte).toNat ∧ (15 : Byte).toNat ≤ 15 ∧ linkKindOf 1 ≠ some (sea.linkConfig.get 0).kind
      ∧ decide sea.LinkLaw = true ∧ decide swapping.LinkLaw = true ∧ (swapping.link 1).state = .ramping ∧ (sea.link 0).state = .carrying
      ∧ (sea.link 1).state = .standby ∧ (sea.link 5).state = .down ∧ (heldOff false).power.supervisor = .running
      ∧ ((heldOff false).link 0).state = .holdoff
      ∧ eligibleFor ⟨true, .satellite, 0, 5, 2⟩ (some 1) false = true
      ∧ eligibleFor ⟨true, .satellite, 0, 5, 4⟩ (some 1) false = false := by decide +kernel

theorem witness_LinkTimersAct :
    sea.mainRuns = true ∧ (sea.link 1).staleTimer = some 300000
      ∧ ((linkIn .qualifying).setLink 1 { (linkIn .qualifying).link 1 with qualTimer := some 9 }).mainRuns = true
      ∧ (((linkIn .qualifying).setLink 1 { (linkIn .qualifying).link 1 with qualTimer := some 9 }).elapse 9).link 1 =
          { (linkIn .qualifying).link 1 with qualTimer := some 0, staleTimer := some 299991 }
      ∧ ((sea.setLink 0 { sea.link 0 with faultTimer := some 9, healthy := false }).elapse 9).link 0 =
          { sea.link 0 with faultTimer := some 0, healthy := false, staleTimer := some 299991 }
      ∧ ((heldOff true).link 0).holdoffTimer = some 9 ∧ (((heldOff true).elapse 9).link 0).absent = true
      ∧ (((heldOff false).elapse 9).link 0).absent = false ∧ ((heldOff false).linkConfig.get 0).loaded = true := by decide +kernel

theorem witness_BestStandbyIsLeast :
    sea.bestStandby = some 1 ∧ sea.LinkLaw ∧ (sea.link 1).state = .standby ∧ linkKindOf 0 = some (sea.linkConfig.get 1).kind
      ∧ (0xffff : Half) = (sea.linkConfig.get 1).zones ∧ (3 : Byte).toNat ≤ 3 ∧ 1 ≤ (1 : Byte).toNat ∧ (15 : Byte).toNat ≤ 15
      ∧ (sea.link 0).state = .carrying ∧ (0 : Byte).toNat = (sea.linkConfig.get 0).costClass
      ∧ (linkIn .idle).bestStandby = none := by decide +kernel

/-- `sea` with the carrier's class and rank. -/
def margin (cost rank : Nat) : State :=
  { sea with linkConfig := sea.linkConfig.set 0 ⟨true, .satellite, cost, rank, 0xffff⟩ }

/-- Slot 1 has class 2 and rank 8: against a carrier of class 2, a rank of 6 is beaten by the margin and one of 7 is not. -/
theorem witness_ConsiderationStartsSwap :
    swapping.selector.swap.isSome = true ∧ (∀ j : Slot, ((linkIn .idle).link j).state ≠ .standby)
      ∧ (margin 2 6).selector.swap = none ∧ (margin 2 6).bestStandby = some 1 ∧ (margin 2 6).carrier = some 0
      ∧ ((margin 2 6).link 0).eligible = true ∧ (margin 2 6).selector.dwellTimer = none
      ∧ (margin 2 6).bridge.standing.linkHold = false
      ∧ ((margin 2 6).linkConfig.get 0).rank + 2 ≤ ((margin 2 6).linkConfig.get 1).rank
      ∧ ((margin 3 15).linkConfig.get 1).costClass < ((margin 3 15).linkConfig.get 0).costClass
      ∧ ((margin 2 7).linkConfig.get 1).rank < ((margin 2 7).linkConfig.get 0).rank + 2
      ∧ ((margin 1 1).linkConfig.get 0).costClass < ((margin 1 1).linkConfig.get 1).costClass
      ∧ (heldOff false).carrier = none ∧ (heldOff false).bestStandby = some 1
      ∧ ((sea.setLink 0 { sea.link 0 with eligible := false }).link 0).eligible = false := by decide +kernel

theorem witness_SwapConfirmCompletes :
    decide swapping.LinkLaw = true ∧ swapping.power.supervisor = .running ∧ swapping.selector.swap = some ⟨1, some 0, 5⟩
      ∧ (1 : Byte).toNat = (1 : Slot).val ∧ swapping.params.swapDwell ≠ 0
      ∧ decide ({ swapping with params := { Params.default with swapDwell := 0 } } : State).LinkLaw = true := by decide +kernel

/-- A slot beside the candidate's, and the slot of the late mark. -/
theorem witness_SwapConfirmOtherRefused :
    5 < (6 : Byte).toNat ∧ (5 : Byte).toNat = (5 : Slot).val
      ∧ (∀ w, swapping.selector.swap = some w → w.candidate ≠ 5) ∧ swapping.selector.lateMark ≠ some 5
      ∧ (∀ w, ({ sea with selector := ⟨none, none, some 5⟩ } : State).selector.swap = some w → w.candidate ≠ 5)
      ∧ ({ sea with selector := ⟨none, none, some 5⟩ } : State).selector.lateMark = some 5 :=
  ⟨by decide, by decide, fun w flying => by cases flying; decide, by decide, fun _ flying => (nomatch flying), by decide⟩

theorem witness_SwapAndDwellTimers :
    swapping.mainRuns = true ∧ swapping.selector.swap = some ⟨1, some 0, 5⟩
      ∧ ({ sea with selector := ⟨none, some 9, none⟩ } : State).selector.dwellTimer = some 9 := by decide +kernel

/-! ### Witnesses: clock, rating, segments, queue -/

/-- `sea` at a time of 03-02-28, in RAMPING or not. -/
def clockAt (hours minutes seconds : Nat) : State :=
  { sea with clock := { Clock.cold with calendar := ⟨seconds, minutes, hours, 28, 2, 3, 5⟩ } }

/-- The first and the last carry of the calendar, and each clause's own second. -/
theorem witness_WholeSecondAdvancesCalendar :
    (clockAt 23 59 59).clockRuns = true ∧ (clockAt 23 59 59).mainRuns = true ∧ (clockAt 23 59 59).coverage.state ≠ .ramping
      ∧ ramping.mainRuns = true ∧ ramping.coverage.state = .ramping ∧ (supervised .reset false false).clockRuns = true
      ∧ (supervised .reset false false).mainRuns = false ∧ (⟨59, 59, 23, 28, 2, 3, 5⟩ : Calendar).valid = true
      ∧ lastDate 2 3 = 28 ∧ (⟨59, 59, 23, 28, 2, 4, 6⟩ : Calendar).valid = true ∧ 28 < lastDate 2 4
      ∧ (⟨59, 59, 23, 31, 12, 99, 3⟩ : Calendar).valid = true ∧ lastDate 12 99 = 31
      ∧ (⟨58, 0, 0, 1, 1, 0, 7⟩ : Calendar).valid = true ∧ (⟨59, 58, 0, 1, 1, 0, 7⟩ : Calendar).valid = true
      ∧ (⟨59, 59, 22, 1, 1, 0, 7⟩ : Calendar).valid = true
      ∧ (after .fixTimerExpires sea).clock.subSecond = 900000 ∧ (after .fixTimerExpires sea).clockRuns = true := by decide +kernel

theorem witness_ClockSetAndPeriodSettled :
    sea.power.supervisor = .running ∧ lastDate 2 3 < 29 ∧ (29 : Nat) ≤ lastDate 2 4 ∧ 24 ≤ (24 : Byte).toNat
      ∧ (23 : Byte).toNat < 24 ∧ sea.clock.periodNow = sea.period
      ∧ ({ sea with clock := { sea.clock with windowStart := 22, windowEnd := 6 } } : State).clock.periodNow ≠ sea.period := by
  decide +kernel

theorem witness_SetTrimWritesTrim :
    sea.power.supervisor = .running ∧ 2 ≤ (2 : Byte).toNat ∧ (1 : Byte).toNat < 2 ∧ (0 : Byte).toNat < 2
      ∧ (after (.setTrim .purser 1 128) (clockAt 0 59 58)).clock.trim = -127
      ∧ (after (.setTrim .purser 1 128) (clockAt 0 59 58)).clockRuns = true
      ∧ (after (.setTrim .purser 1 128) (clockAt 0 59 58)).clock.calendar.advance.minutes = 59
      ∧ (after (.setTrim .purser 1 128) (clockAt 0 59 58)).clock.calendar.advance.seconds = 59
      ∧ (after .wholeSecond (after (.setTrim .purser 1 128) (clockAt 0 59 58))).clock.secondLength = 32895 := by decide +kernel

theorem witness_UsageIsRatedInStages :
    served.power.supervisor = .running ∧ (1 : Half).toNat < Config.sessionCount ∧ (served.session 1).served = true
      ∧ served.priceRow (served.session 1).plan served.rating.inForce.zoneClass = ⟨10, 100, 5, 30, 50⟩ := by decide +kernel

/-- A segment of another key than the one in force. -/
def oldSegment : Segment := ⟨⟨0, 0, .peak⟩, false, 1, 1, 1, 1⟩

/-- `served` or `fullQueue` with a segment list for session 1. -/
def itemized (s : State) (front : List Segment) (g : Segment) : State := s.setSession 1 { guest with segments := front ++ [g] }

theorem witness_SegmentAdditionKeysByContext :
    ((served.session 1).segments = [] ++ [⟨⟨1, 0, .peak⟩, false, 0, 0, 0, 0⟩]) ∧ served.rating.inForce = ⟨1, 0, .peak⟩
      ∧ oldSegment.key ≠ served.rating.inForce
      ∧ ((itemized served (List.replicate 6 oldSegment) oldSegment).session 1).segments.length < 8
      ∧ 8 ≤ ((itemized served (List.replicate 7 oldSegment) oldSegment).session 1).segments.length
      ∧ served.queue.records.length < Config.ordinaryLimit
      ∧ 8 ≤ ((itemized fullQueue (List.replicate 7 oldSegment) oldSegment).session 1).segments.length
      ∧ Config.ordinaryLimit ≤ (itemized fullQueue (List.replicate 7 oldSegment) oldSegment).queue.records.length := by
  decide +kernel

theorem witness_PurserFiguresClamped :
    sea.power.supervisor = .running ∧ 8 ≤ (8 : Byte).toNat ∧ (7 : Byte).toNat < 8 ∧ 17 ≤ (17 : Byte).toNat
      ∧ (0x3c3c : Half) = (0x3c : Byte) ++ (0x3c : Byte) ∧ min 100 (0x3c : Byte).toNat ≤ min 100 (0x3c : Byte).toNat
      ∧ (0x3c3b : Half) = (0x3c : Byte) ++ (0x3b : Byte) ∧ min 100 (0x3b : Byte).toNat < min 100 (0x3c : Byte).toNat
      ∧ ((3 : Byte).toNat, 5, 120) ∈ [(3, 5, 120), (4, 0, 300)] := by decide +kernel

/-- `sea` with a settle window running. -/
def settling : State := { sea with rating := ⟨⟨1, 0, .peak⟩, some ⟨1, 2, .peak⟩, some 9, some .costClass⟩ }

theorem witness_BoundaryStartsSettleWindow :
    ({ sea.rating.newest with costClass := 0 } : Context) = sea.rating.newest
      ∧ ({ sea.rating.newest with costClass := 3 } : Context) ≠ sea.rating.newest ∧ sea.rating.settleTimer = none
      ∧ sea.params.settleWindow ≠ 0
      ∧ ({ sea with params := { Params.default with settleWindow := 0 } } : State).params.settleWindow = 0
      ∧ settling.rating.settleTimer.isSome = true ∧ settling.mainRuns = true ∧ settling.rating.settleTimer = some 9
      ∧ settling.rating.pendingContext = some ⟨1, 2, .peak⟩ := by decide +kernel

theorem witness_QueueReadDroppedAndMarked :
    owing.Lawful ∧ sea.queue.records = [] ∧ owing.queue.records = filler :: List.replicate 510 filler
      ∧ (List.replicate 510 filler).length < Config.ordinaryLimit ∧ owing.owed = 1 :: []
      ∧ fullQueue.queue.records = filler :: List.replicate 510 filler ∧ fullQueue.owed = [] :=
  ⟨lawful_of _ (by decide +kernel), by decide +kernel⟩

/-! ### Witnesses: power, events and the laws -/

theorem witness_PowerLinesMoveSupervisor :
    (supervised .off false true).TablesLaw ∧ (supervised .off false true).power.supervisor = .off
      ∧ (supervised .off false true).pins.resetHigh = true ∧ (supervised .off false false).TablesLaw
      ∧ (supervised .off false false).pins.resetHigh = false ∧ (supervised .reset false false).TablesLaw
      ∧ (supervised .reset false false).power.supervisor = .reset ∧ sea.TablesLaw ∧ sea.power.supervisor ≠ .off
      ∧ sea.power.supervisor ≠ .reset := by decide +kernel

theorem witness_InitializationLatchesStart :
    (supervised .initializing false true).power.supervisor = .initializing
      ∧ (∀ p : Port, ((supervised .initializing false true).port p).pending = []
          ∧ ((supervised .initializing false true).port p).enables = 0x7ffffff
          ∧ ((supervised .initializing false true).port p).lineLow = false)
      ∧ (supervised .initializing false true).pins.warning = false
      ∧ (supervised .initializing true true).pins.warning = true := by
  refine ⟨rfl, fun p => ?_, rfl, rfl⟩
  cases p <;> decide +kernel

/-- A POWER_CUT record, the newest of a queue of two. -/
def cutQueue : State := { sea with queue := ⟨[filler, ⟨Calendar.cold, true, .powerCut 255 65535 7⟩], 2⟩ }

/-- A flush with two sessions served and room for one record, with room for none, and with one CLOSING already. -/
theorem witness_WarningFlushes_served :
    (∀ s ∈ [served, fullQueue, owing, { served with queue := ⟨List.replicate 510 filler, 510⟩ }], s.Lawful)
      ∧ served.servedHandles = [0, 1] ∧ owing.owed = [1] ∧ owing.servedHandles = [0] ∧ fullQueue.coverage.state ≠ .silent
      ∧ fullQueue.power.supervisor = .running ∧ owing.power.supervisor = .running ∧ (moored 30 60).coverage.state = .silent
      ∧ (List.replicate 511 filler).getLast? = some filler :=
  ⟨lawful_of_all (by decide +kernel), by decide +kernel⟩

theorem witness_WarningFlushes :
    (∀ s ∈ [served, cutQueue, sea], s.Lawful)
      ∧ (∀ h, (cutQueue.session h).served = false) ∧ (∀ h, (sea.session h).served = false)
      ∧ (supervised .initializing false true).power.supervisor ≠ .running ∧ served.power.supervisor = .running
      ∧ cutQueue.queue.records.getLast? = some ⟨Calendar.cold, true, .powerCut 255 65535 7⟩
      ∧ sea.queue.newestIsPowerCut = false ∧ sea.power.supervisor ≠ .flushed ∧ (supervised .flushed true true).TablesLaw
      ∧ (supervised .flushed true true).power.supervisor = .flushed :=
  ⟨lawful_of_all (by decide +kernel), fun _ => rfl, fun _ => rfl, by decide +kernel⟩

/-- A port enabled for a kind, one that is not, and an entry of the kind pending. -/
theorem witness_OccurrenceIsLatched :
    (sea.port .cell).enabled .swapBegin = true ∧ (sea.port .cell).Lawful
      ∧ (({ sea with router := { sea.router with cell := { sea.router.cell with enables := 0 } } } : State).port .cell).enabled
          .swapBegin = false
      ∧ ((sea.raise .swapBegin 1).port .cell).holds .swapBegin = true := by decide +kernel

/-- `sea` with a fresh and a renewed entry pending on the cell port. -/
def pendingTwo : State :=
  { sea with router := { sea.router with cell := { PortState.start with
      pending := [⟨.swapDone, 1, false, false⟩, ⟨.clockNotSet, 0, false, true⟩], lineLow := true, attention := some 9 } } }

theorem witness_ReadEventTakesFirst :
    sea.power.supervisor = .running ∧ (sea.port .cell).Lawful ∧ (sea.port .cell).pending = [] ∧ (pendingTwo.port .cell).Lawful
      ∧ (pendingTwo.port .cell).pending ≠ [] := by decide +kernel

theorem witness_EnablesResetAndAttention :
    sea.power.supervisor = .running ∧ 2 ^ 27 ≤ (0x08000000 : Quad).toNat ∧ (0x07ffffff : Quad).toNat < 2 ^ 27
      ∧ pendingTwo.mainRuns = true ∧ (pendingTwo.port .cell).attention = some 9 := by decide +kernel

/-- Lawful states from which a step goes on: a command, and an event, at the front of the queue. -/
theorem witness_StepKeeps :
    ({ served with pending := [.release .cell 0 5 5 1] } : State).Lawful
      ∧ (∃ t, step { served with pending := [.release .cell 0 5 5 1] } = .next t)
      ∧ ({ withdrawing with pending := [.graceTimerExpires] } : State).Lawful
      ∧ ∃ t, step { withdrawing with pending := [.graceTimerExpires] } = .next t :=
  ⟨lawful_of _ (by decide +kernel), ⟨_, rfl⟩, lawful_of _ (by decide +kernel), ⟨_, rfl⟩⟩

/-! ### One step of a command, against the reference's examples -/

/-- `sea` in waters of account 30, sessions 14 and 15 on it, for chapter 8's worked example of a report on a shared prepaid account. -/
def shared : State :=
  { sea with
    tariff := ⟨⟨[(19, ⟨120, 100, 450, 60, 300⟩)]⟩, ⟨0, 0, 135, 0⟩, ⟨0, 0, 20, 0, 0, 0, 0, 0⟩⟩
    rating := ⟨⟨3, 2, .offpeak⟩, none, none, none⟩
    accounts := ⟨[(30, ⟨.prepaid, 5000, 1000, 2, 2⟩)]⟩
    sessions := ⟨[
      (14, { guest with account := 30, plan := 2, dataResidue := 70, voiceResidue := 25, segments := [⟨⟨3, 2, .offpeak⟩, false, 0, 0, 0, 0⟩] }),
      (15, { guest with identity := roamerId, account := 30, plan := 2, segments := [⟨⟨3, 2, .offpeak⟩, false, 0, 0, 0, 0⟩] })]⟩ }

def report14 : Instr := .usage .cell 14 1234 95 2

/-- The example's figures: charge 5,753, taken 5,000, shortfall 753, residues 4 and 0, SUSPENDED with CREDIT. -/
theorem test_usage_shared_reply :
    reply report14 shared .cell = (0, [0, 0, 22, 121, 0, 0, 19, 136, 0, 0, 2, 241, 0, 4, 0, 2, 1]) := by decide +kernel

/-- The account at 0, both sessions SUSPENDED, the segment with the whole charge, and E14, E16 and E17 pending. -/
theorem test_usage_shared_effect :
    ((after report14 shared).account 30).value = 0 ∧ ((after report14 shared).session 14).state = .suspended
      ∧ ((after report14 shared).session 15).state = .suspended ∧ ((after report14 shared).session 14).shortfall = 753
      ∧ ((after report14 shared).session 14).segments = [⟨⟨3, 2, .offpeak⟩, false, 1234, 95, 2, 5753⟩]
      ∧ pendingKinds (after report14 shared) = [14, 16, 17] := by decide +kernel

/-- The example's release: one increment of the data residue of 4 kB is charged 226, so the CLOSE record has a shortfall of 979
against segment charges of 5,979. -/
theorem test_release_rounds :
    (after (.release .cell 14 0 0 0) (after report14 shared)).queue.records.map (fun r => r.body) =
      [.close ⟨14, guestId, 30, none, 2, Calendar.cold⟩ .released 0 979 0 0 [⟨⟨3, 2, .offpeak⟩, false, 1234, 95, 2, 5979⟩]] := by
  decide +kernel

/-- Chapter 8's worked example of the clamp: the charge of an extreme report is 4,294,967,295, with E22. -/
theorem test_usage_clamped :
    pendingKinds (after (.usage .cell 0 65535 0 10)
        { served with tariff := { Tariff.cold with rows := ⟨[(9, ⟨65535, 1, 0, 60, 65535⟩)]⟩ } }) = [22]
      ∧ ((after (.usage .cell 0 65535 0 10)
        { served with tariff := { Tariff.cold with rows := ⟨[(9, ⟨65535, 1, 0, 60, 65535⟩)]⟩ } }).account 0).value = 4294967295 := by
  decide +kernel

/-- An attach takes the lowest FREE handle (R9) and an attached identity is answered ALREADY with its handle (R7). -/
theorem test_attach :
    reply (.attach .cell roamerId 0 0) sea .cell = (0, [0, 0]) ∧ ((after (.attach .cell roamerId 0 0) sea).agreement 0).count = 1
      ∧ reply (.attach .cell guestId 1 1) served .cell = (2, [0, 1]) := by decide +kernel

/-- R29: a SUSPENDED six-digit agreement is the match over an OPEN five-digit one, and the attach is refused with STATE. -/
theorem test_attach_longest_match :
    reply (.attach .cell roamerId 0 0)
      { sea with agreements := ⟨[(0, ⟨.opened, 5, 0x31026f, 0x0006, 1, 0, 0⟩), (1, ⟨.suspended, 6, 0x310260, 0x0006, 1, 0, 0⟩)]⟩ }
      .cell = (17, []) := by decide +kernel

/-- 11.2: wrong role for the port is 16, a part that does not run answers STATE, 17, and an unknown code 31. -/
theorem test_port_checks :
    reply (.dropRecord .cell) sea .cell = (16, []) ∧ reply (.dropRecord .purser) (supervised .flushed true true) .purser = (17, [])
      ∧ reply (.unknownCommand .link 66) sea .link = (Status.unknown.code, []) := by decide +kernel

/-- Chapter 2's worked example of a top-up: a delta of +10,000 is answered with the value before, and the value rises by it. -/
theorem test_accountAdjust :
    reply (.accountAdjust .purser 1 0 10000) served .purser = (0, [0, 0, 0, 0, 3, 232])
      ∧ ((after (.accountAdjust .purser 1 0 10000) served).account 1).value = 11000
      ∧ reply (.accountAdjust .purser 1 1 1001) served .purser = (1, [0, 0, 0, 0, 3, 232]) := by decide +kernel

/-- R39: a prepaid account set to zero suspends its session, with E14 and E16. -/
theorem test_accountSet :
    ((after (.accountSet .purser 1 1 0 400 1) served).session 1).state = .suspended
      ∧ pendingKinds (after (.accountSet .purser 1 1 0 400 1) served) = [14, 16] := by decide +kernel

/-- As in chapter 2's worked example, suspending an agreement and taking the current zone from it gives both reasons at once, with one E14. -/
theorem test_loadAgreement :
    ((after (.loadAgreement .purser 0 2 5 0x31026f 4 1 0) served).session 0).reasons = ⟨false, true, true, false⟩
      ∧ pendingKinds (after (.loadAgreement .purser 0 2 5 0x31026f 4 1 0) served) = [14] := by decide +kernel

/-- R16: with no room in the queue a closed session is CLOSING, first in the owed-record list. -/
theorem test_closeSession :
    reply (.closeSession .purser 0) fullQueue .purser = (0, [4, 0, 1]) ∧ (after (.closeSession .purser 0) fullQueue).owed = [0]
      ∧ reply (.closeSession .purser 0) served .purser = (0, [0, 0, 0]) := by decide +kernel

/-- R168: a drop from 511 records with a session owed grants it the slot. -/
theorem test_dropRecord :
    reply (.dropRecord .purser) owing .purser = (0, [1, 255, 1]) ∧ ((after (.dropRecord .purser) owing).session 1).state = .free
      ∧ (after (.dropRecord .purser) owing).owed = [] := by decide +kernel

/-- R171: the mark is returned and set to the occupancy. -/
theorem test_readQueueMark :
    reply (.readQueueMark .purser) { sea with queue := ⟨[filler], 7⟩ } .purser = (0, [0, 7, 0, 1, 0, 0])
      ∧ (after (.readQueueMark .purser) { sea with queue := ⟨[filler], 7⟩ }).queue.mark = 1 := by decide +kernel

/-- R51, R53: a report of another zone sets the candidate, and one of the current zone removes a permissive candidate. -/
theorem test_zoneReport :
    (after (.zoneReport .cell 2) sea).coverage.candidate = some ⟨2, .restrictive, 65536⟩
      ∧ (after (.zoneReport .link 1) (seaCandidate 15 .permissive)).coverage.candidate = none := by decide +kernel

/-- R62, R63: a crossing into NO_RADIATE waters drains the sessions with the zone's grace of 60 s. -/
theorem test_candidateQualifies :
    (after .candidateQualifies { served with coverage := { served.coverage with candidate := some ⟨2, .restrictive, 4⟩ } }).coverage.state
        = .withdrawing
      ∧ (after .candidateQualifies { served with coverage := { served.coverage with candidate := some ⟨2, .restrictive, 4⟩ } }).coverage.graceTimer
        = some 1966080 := by decide +kernel

/-- R64: the grace timer closes what still drains and the ship falls SILENT. -/
theorem test_graceTimerExpires :
    (after .graceTimerExpires withdrawing).coverage.state = .silent ∧ (after .graceTimerExpires withdrawing).servedCount = 0
      ∧ (after .graceTimerExpires withdrawing).queue.records.length = 2 := by decide +kernel

/-- R86: a DOWN link with a stored raw figure has its figures at 0 once its slot is unloaded. -/
theorem test_loadLink_unloads :
    ((after (.loadLink .purser 1 0 0 0 0 0) (sea.setLink 1 { Link.start with raw := 77 })).link 1).raw = 0 := by decide +kernel

/-- Chapter 5's worked example of a falling figure: a smoothed figure of 72 and a report of quality 55, loss 120, latency 640 give 37 and 63. -/
theorem test_linkReport :
    ((after (.linkReport .link 0 1 55 120 640) (sea.setLink 0 { sea.link 0 with smoothed := 72 })).link 0).raw = 37
      ∧ ((after (.linkReport .link 0 1 55 120 640) (sea.setLink 0 { sea.link 0 with smoothed := 72 })).link 0).smoothed = 63 := by
  decide +kernel

/-- R99, R121: a hard failure of the carrier is E10 and E11, and the standby link is taken at once, E7 (R109). -/
theorem test_linkReport_hard_failure :
    pendingKinds (after (.linkReport .link 0 0 0 0 0) sea) = [7, 10, 11]
      ∧ (after (.linkReport .link 0 0 0 0 0) sea).selector.swap = some ⟨1, none, 655360⟩ := by decide +kernel

/-- R116, R122: a confirm makes the candidate the carrier and sends its cost class: E8 and E6. -/
theorem test_swapConfirm :
    reply (.swapConfirm .link 1) swapping .link = (0, [1, 255]) ∧ (after (.swapConfirm .link 1) swapping).carrier = some 1
      ∧ pendingKinds (after (.swapConfirm .link 1) swapping) = [6, 8] := by decide +kernel

/-- R118: the swap timer abandons the candidate to HOLDOFF, with E9 and the late mark; R117 then answers TOO_LATE. -/
theorem test_swapTimerExpires :
    ((after .swapTimerExpires swapping).link 1).state = .holdoff ∧ (after .swapTimerExpires swapping).selector.lateMark = some 1
      ∧ reply (.swapConfirm .link 1) (after .swapTimerExpires swapping) .link = (Status.tooLate.code, [0, 255]) := by decide +kernel

/-- Chapter 7's worked example of carries and leap years. -/
theorem test_calendar_carries :
    (⟨59, 59, 23, 28, 2, 3, 5⟩ : Calendar).advance = ⟨0, 0, 0, 1, 3, 3, 6⟩
      ∧ (⟨59, 59, 23, 28, 2, 4, 6⟩ : Calendar).advance = ⟨0, 0, 0, 29, 2, 4, 7⟩
      ∧ (⟨59, 59, 23, 29, 2, 4, 7⟩ : Calendar).advance = ⟨0, 0, 0, 1, 3, 4, 1⟩
      ∧ (⟨59, 59, 23, 31, 12, 99, 3⟩ : Calendar).advance = ⟨0, 0, 0, 1, 1, 0, 4⟩
      ∧ (⟨59, 30, 12, 28, 2, 0, 2⟩ : Calendar).advance = ⟨0, 31, 12, 28, 2, 0, 2⟩ := by decide +kernel

/-- R126: with a trim of +68 the second that begins at minute 59, second 59 lasts 32,700 periods. -/
theorem test_wholeSecond_trim :
    (after .wholeSecond { sea with clock := { Clock.cold with calendar := ⟨58, 59, 0, 1, 1, 0, 7⟩, trim := 68 } }).clock.secondLength
      = 32700 := by decide +kernel

/-- R124: a second of 32,768 periods taken 7,232 periods late leaves 7,232 counted into the next. -/
theorem test_wholeSecond_late :
    (after .wholeSecond { sea with clock := { Clock.cold with subSecond := 40000 } }).clock.subSecond = 7232
      ∧ (after .wholeSecond { sea with clock := { Clock.cold with subSecond := 40000 } }).clock.calendar.seconds = 1 := by decide +kernel

/-- The same example: 03-02-29 is refused and 04-02-29 is taken. -/
theorem test_setClock :
    reply (.setClock .purser 0 0 0 29 2 3 1) sea .purser = (Status.badParam.code, [])
      ∧ reply (.setClock .purser 0 0 0 29 2 4 1) sea .purser = (0, [0, 0, 0, 1, 1, 0, 7, 1]) := by decide +kernel

/-- Chapter 7's worked example of setting the clock, step 1: the set to 20:01:30 makes the period OFFPEAK, with E26 and the boundary's E6. -/
theorem test_setClock_period :
    (after (.setClock .purser 30 1 20 14 6 4 1) { sea with clock := ⟨⟨10, 58, 19, 14, 6, 4, 1⟩, 0, 32768, false, 0, 20, 6⟩ }).period
        = .offpeak
      ∧ pendingKinds (after (.setClock .purser 30 1 20 14 6 4 1)
          { sea with clock := ⟨⟨10, 58, 19, 14, 6, 4, 1⟩, 0, 32768, false, 0, 20, 6⟩ }) = [6, 26] := by decide +kernel

/-- Chapter 4's worked example: a third pulse ends at a rise, and the gap timer then takes HARBOR, with E4; HARBOR
ends radiation (R58, R62), so E1 is raised too. -/
theorem test_gapTimerExpires :
    (after .gapTimerExpires (decoding true (train 3))).bridge.standing = ⟨false, true, false⟩
      ∧ (after .bridgeLineRise (decoding false { low .train .counted 6554 with pulseCount := 2 })).bridge.pulseCount = 3
      ∧ (after .bridgeLineRise (decoding false (low .idle .brief 984))).bridge.pulseCount = 1
      ∧ (after .bridgeLineRise (decoding false (low .train .counted 13108))).bridge.longLow = true
      ∧ (after .bridgeLineRise (decoding false (low .train .long 163840))).bridge.state = .recovering
      ∧ pendingKinds (after .gapTimerExpires (decoding true (train 3))) = [1, 4]
      ∧ pendingKinds (after .gapTimerExpires (decoding true (train 5))) = [5] := by decide +kernel

/-- R139: the pending context comes into force when the settle window ends, with no event. -/
theorem test_settleWindowExpires :
    (after .settleWindowExpires settling).rating.inForce = ⟨1, 2, .peak⟩ ∧ pendingKinds (after .settleWindowExpires settling) = [] := by
  decide +kernel

/-- `sea` with 511 records and the pending set of the example of 11.6 on the purser port. -/
def standing : State :=
  { fullQueue with router := { fullQueue.router with purser := { PortState.start with
      pending := [⟨.creditExhausted, 12, false, false⟩, ⟨.segmentMixed, 2, false, false⟩, ⟨.recordReady, 0, false, true⟩,
        ⟨.queueFull, 0, false, true⟩], lineLow := true, attention := some 9 } } }

/-- Reading under standing conditions: E16, E23, then E19 renewed behind E20. -/
theorem test_readEvent :
    reply (.readEvent .purser) standing .purser = (0, [16, 0, 12, 0, 0, 3])
      ∧ pendingKinds (after (.readEvent .purser) standing) = [23, 19, 20]
      ∧ pendingKinds (after (.readEvent .purser) (after (.readEvent .purser) (after (.readEvent .purser) standing))) = [20, 19] := by
  decide +kernel

/-- R197: a reset of the port leaves the level kinds that hold, as new entries. -/
theorem test_portReset : pendingKinds (after (.portReset .purser) standing) = [19, 20, 25] := by decide +kernel

/-- R180, R183: the warning flushes, and its fall starts the part warm. -/
theorem test_powerFailWarning :
    (after .powerFailWarningRises served).power.supervisor = .flushed
      ∧ (after .powerFailWarningRises served).coverage.permit = false
      ∧ (after .powerFailWarningFalls (after .powerFailWarningRises served)).power = ⟨.initializing, .warm, false, 0⟩ := by
  decide +kernel

/-- R178: E0, E11 and E25 are pending at the end of a cold start. -/
theorem test_initializationEnds :
    (after .initializationEnds (supervised .initializing false true)).power.supervisor = .running
      ∧ pendingKinds (after .initializationEnds (supervised .initializing false true)) = [0, 11, 25] := by decide +kernel

/-- R13: a visit at a lapse count of 3 closes the session, with E13. -/
theorem test_lapseSweepVisit :
    ((after .lapseSweepVisit (served.setSession 0 { roamer with lapseCount := 3 })).session 0).state = .free
      ∧ pendingKinds (after .lapseSweepVisit (served.setSession 0 { roamer with lapseCount := 3 })) = [13, 19] := by decide +kernel

end Sys2Proof.Tests
end

/-! SUPPORT. The family of link selection and swaps (6): the order of the standby links and its least (R107), the reloads of a
slot that leave the selector alone (R85, R94), and what a consideration does (R108 to R111). -/

namespace Sys2Proof.Selection

open Sys2Proof Sys2Proof.Machine

/-! ### The order of the standby links (R107) -/

theorem betterStandby_iff (s : State) (i j : Slot) :
    s.betterStandby i j = true ↔
      (s.linkConfig.get i).costClass < (s.linkConfig.get j).costClass
      ∨ (s.linkConfig.get i).costClass = (s.linkConfig.get j).costClass
        ∧ ((s.linkConfig.get j).rank < (s.linkConfig.get i).rank
          ∨ (s.linkConfig.get j).rank = (s.linkConfig.get i).rank ∧ i < j) := by
  simp [State.betterStandby, eq_comm (a := (s.linkConfig.get j).rank) (b := (s.linkConfig.get i).rank)]

theorem betterStandby_asymm {s : State} {i j : Slot} (ij : s.betterStandby i j = true) : s.betterStandby j i ≠ true := by
  simp only [ne_eq, betterStandby_iff, Fin.lt_def] at *
  omega

theorem betterStandby_trans {s : State} {i j k : Slot} (ij : s.betterStandby i j = true) (jk : s.betterStandby j k = true) :
    s.betterStandby i k = true := by
  simp only [betterStandby_iff, Fin.lt_def] at *
  omega

theorem betterStandby_of_not {s : State} {i j : Slot} (differ : j ≠ i) (no : s.betterStandby i j ≠ true) :
    s.betterStandby j i = true := by
  have apart : j.val ≠ i.val := Fin.val_ne_of_ne differ
  simp only [ne_eq, betterStandby_iff, Fin.lt_def] at *
  omega

/-! ### The best of a list of slots -/

theorem bestOf_eq_none_iff (s : State) (l : List Slot) : s.bestOf l = none ↔ l = [] := by
  cases l with
  | nil => simp [State.bestOf]
  | cons i rest =>
    simp only [State.bestOf, reduceCtorEq, iff_false]
    split
    · simp
    · split <;> simp

/-- The best of a list is one of its slots and comes before every other. -/
theorem bestOf_least {s : State} {l : List Slot} {b : Slot} (best : s.bestOf l = some b) :
    b ∈ l ∧ ∀ j ∈ l, j ≠ b → s.betterStandby b j = true := by
  induction l generalizing b with
  | nil => simp [State.bestOf] at best
  | cons i rest ih =>
    simp only [State.bestOf] at best
    split at best
    next empty =>
      rw [bestOf_eq_none_iff] at empty
      simp_all
    next c found =>
      obtain ⟨cMem, cLeast⟩ := ih found
      split at best
      next ic =>
        cases best
        refine ⟨List.mem_cons_self, fun j jMem jNe => ?_⟩
        have jRest : j ∈ rest := List.mem_of_ne_of_mem jNe jMem
        by_cases jc : j = c
        · exact jc ▸ ic
        · exact betterStandby_trans ic (cLeast j jRest jc)
      next ic =>
        cases best
        refine ⟨List.mem_cons_of_mem _ cMem, fun j jMem jNe => ?_⟩
        obtain rfl | jRest := List.mem_cons.mp jMem
        · exact betterStandby_of_not jNe.symm ic
        · exact cLeast j jRest jNe

/-- No second slot of the list is as good, so the search finds whichever slot comes before the others. -/
theorem bestOf_eq_some_iff (s : State) (l : List Slot) (b : Slot) :
    s.bestOf l = some b ↔ b ∈ l ∧ ∀ j ∈ l, j ≠ b → s.betterStandby b j = true := by
  refine ⟨bestOf_least, fun ⟨bMem, bLeast⟩ => ?_⟩
  cases found : s.bestOf l with
  | none => simp [(bestOf_eq_none_iff s l).mp found] at bMem
  | some c =>
    obtain ⟨cMem, cLeast⟩ := bestOf_least found
    by_contra differ
    have bc : b ≠ c := fun same => differ (same ▸ rfl)
    exact betterStandby_asymm (bLeast c cMem bc.symm) (cLeast b bMem bc)

/-! ### The best standby -/

theorem mem_standbySlots (s : State) (j : Slot) :
    j ∈ (allSlots.filter fun i => (s.links.get i).state == .standby) ↔ (s.link j).state = .standby := by
  have listed : j ∈ allSlots := by fin_cases j <;> simp [allSlots]
  simp [listed, State.link]

theorem bestStandby_eq_some_iff (s : State) (b : Slot) :
    s.bestStandby = some b ↔
      (s.link b).state = .standby ∧ ∀ j : Slot, (s.link j).state = .standby → j ≠ b → s.betterStandby b j = true := by
  simp only [State.bestStandby, bestOf_eq_some_iff, mem_standbySlots]

theorem bestStandby_eq_none_iff (s : State) : s.bestStandby = none ↔ ∀ j : Slot, (s.link j).state ≠ .standby := by
  simp only [State.bestStandby, bestOf_eq_none_iff, List.eq_nil_iff_forall_not_mem, mem_standbySlots, ne_eq]

/-! ### What the link table's law says of one slot -/

theorem standby_healthy_eligible {s : State} (law : s.LinkLaw) {j : Slot} (standby : (s.link j).state = .standby) :
    (s.link j).healthy = true ∧ (s.link j).eligible = true := by
  obtain ⟨slots, -⟩ := law
  obtain ⟨-, -, -, -, fit, -⟩ := slots j
  exact fit (.inr standby)

/-- A slot that is neither DOWN nor in HOLDOFF is loaded (R86). -/
theorem loaded_of_state {s : State} (law : s.LinkLaw) {i : Slot} (notDown : (s.link i).state ≠ .down)
    (notHoldoff : (s.link i).state ≠ .holdoff) : (s.linkConfig.get i).loaded = true := by
  obtain ⟨slots, -⟩ := law
  obtain ⟨-, -, -, -, -, -, -, unloaded, -⟩ := slots i
  by_contra no
  obtain ⟨down, -⟩ | holdoff := unloaded (Bool.eq_false_iff.mpr no)
  · exact notDown down
  · exact notHoldoff holdoff

theorem eligible_eq_eligibleNow {s : State} (law : s.LinkLaw) (runs : s.mainRuns = true) (i : Slot) :
    (s.link i).eligible = s.eligibleNow i := by
  obtain ⟨slots, -⟩ := law
  obtain ⟨-, -, -, -, -, -, -, -, -, -, -, -, judged⟩ := slots i
  exact judged (.inl runs)

/-! ### A reload that leaves the eligible flag as it is -/

@[simp] theorem Slots.set_get_self {α : Type} (t : Slots α) (i : Slot) : t.set i (t.get i) = t := by
  fin_cases i <;> rfl

@[simp] theorem setLink_link_self (s : State) (i : Slot) : s.setLink i (s.link i) = s := by
  simp [State.setLink, State.link]

/-- A slot whose eligible flag is as R93 gives it already: judging it afresh changes nothing and starts no consideration. -/
theorem judgeLinks_of_eligible_eq {s : State} {i : Slot} (same : (s.link i).eligible = s.eligibleNow i) :
    s.judgeLinks [i] = s := by
  have unlost : ∀ j : Slot, ((s.link j).eligible && !(s.link j).eligible) = false := fun j => Bool.and_not_self _
  have kept : [i].foldl (fun t i => t.setLink i ((t.link i).judge (t.eligibleNow i) t.params.linkQual)) s = s := by
    simp [Link.judge, same]
  simp only [State.judgeLinks, kept, unlost, Bool.false_eq_true, if_false]
  cases s.carrier <;> cases s.selector.swap <;> rfl

/-- A reload that keeps kind and zones, the only parts of the configuration R93 reads, writes the configuration alone. -/
theorem loadLink_of_same_kind_zones {s : State} {i : Slot} (law : s.LinkLaw) (runs : s.mainRuns = true)
    (loaded : (s.linkConfig.get i).loaded = true) (cost rank : Nat) :
    s.loadLink i ⟨true, (s.linkConfig.get i).kind, cost, rank, (s.linkConfig.get i).zones⟩ =
      { s with linkConfig := s.linkConfig.set i ⟨true, (s.linkConfig.get i).kind, cost, rank, (s.linkConfig.get i).zones⟩ } := by
  unfold State.loadLink
  split
  next unchanged => rw [← unchanged, Slots.set_get_self]
  next =>
    apply judgeLinks_of_eligible_eq
    have now := eligible_eq_eligibleNow law runs i
    simpa [State.link, State.eligibleNow, eligibleFor, loaded] using now

/-! ### The command LOAD_LINK -/

theorem slotOf_of_toNat_eq {b : Byte} {i : Slot} (named : b.toNat = i.val) : slotOf b = some i := by
  have small : b.toNat < 6 := named ▸ i.isLt
  rw [slotOf, dif_pos small]
  exact congrArg some (Fin.ext named)

theorem command_of_running {s : State} (running : s.power.supervisor = .running) {p : Port} {roles : List Port}
    (listed : p ∈ roles) (rule : State → State × Reply) : s.command p roles rule = (rule s).1.answer p (rule s).2 := by
  simp only [State.command, running, if_pos listed]

/-- R84: a load in range is refused with BUSY only for a loaded slot that ramps or carries and would change kind or class. -/
theorem exec_loadLink_ok {s : State} {i : Slot} {b kind cost rank : Byte} {zones : Half} {k : LinkKind}
    (running : s.power.supervisor = .running) (named : b.toNat = i.val) (kindOk : linkKindOf kind = some k)
    (costOk : cost.toNat ≤ 3) (rankLow : 1 ≤ rank.toNat) (rankHigh : rank.toNat ≤ 15)
    (free : (s.link i).engaged = false ∨ k = (s.linkConfig.get i).kind ∧ cost.toNat = (s.linkConfig.get i).costClass) :
    exec (.loadLink .purser b 1 kind cost rank zones) s =
      .next ((s.loadLink i ⟨true, k, cost.toNat, rank.toNat, zones⟩).withFrame .purser (.answered .ok [])) := by
  have notBusy : ((s.linkConfig.get i).loaded && (s.link i).engaged
      && ((s.linkConfig.get i).kind != k || (s.linkConfig.get i).costClass != cost.toNat)) = false := by
    obtain idle | ⟨sameKind, sameCost⟩ := free
    · simp [idle]
    · simp [sameKind, sameCost]
  have flag : boolOf 1 = some true := rfl
  have ranges : cost.toNat ≤ 3 ∧ 1 ≤ rank.toNat ∧ rank.toNat ≤ 15 := ⟨costOk, rankLow, rankHigh⟩
  change execLoadLink .purser b 1 kind cost rank zones s = _
  rw [execLoadLink, command_of_running running (by simp)]
  simp only [slotOf_of_toNat_eq named, flag, kindOk, if_pos ranges, notBusy]
  rfl

/-- Settles O32: the search finds the least slot of a strict total order, and a reload that keeps kind and zones keeps the
eligible flag, the only thing through which a load reaches the selector. -/
theorem bestStandbyIsLeast : Obligations.BestStandbyIsLeast := by
  intro s
  refine ⟨fun b => ?least, bestStandby_eq_none_iff s, fun law j standby => standby_healthy_eligible law standby, ?reload⟩
  case least => simp only [bestStandby_eq_some_iff, betterStandby_iff]
  case reload =>
    intro i b kind cost rank zones law running named kindOk zonesSame costOk rankLow rankHigh state
    have runs : s.mainRuns = true := by simp [State.mainRuns, running]
    have loaded : (s.linkConfig.get i).loaded = true := by
      obtain standby | ⟨carrying, -⟩ := state
      · exact loaded_of_state law (by simp [standby]) (by simp [standby])
      · exact loaded_of_state law (by simp [carrying]) (by simp [carrying])
    have free : (s.link i).engaged = false
        ∨ (s.linkConfig.get i).kind = (s.linkConfig.get i).kind ∧ cost.toNat = (s.linkConfig.get i).costClass := by
      obtain standby | ⟨-, sameCost⟩ := state
      · exact .inl (by simp [Link.engaged, standby])
      · exact .inr ⟨rfl, sameCost⟩
    subst zonesSame
    rw [exec_loadLink_ok running named kindOk costOk rankLow rankHigh free, loadLink_of_same_kind_zones law runs loaded]

/-! ### The consideration (R108 to R111) -/

theorem considerSwap_of_swap {s : State} (inFlight : s.selector.swap.isSome = true) : s.considerSwap = s := by
  simp [State.considerSwap, inFlight]

theorem considerSwap_of_bestStandby_none {s : State} (nobody : s.bestStandby = none) : s.considerSwap = s := by
  simp [State.considerSwap, nobody]

theorem considerSwap_of_bestStandby {s : State} {b : Slot} (noSwap : s.selector.swap = none) (best : s.bestStandby = some b) :
    s.considerSwap = if s.forced || s.voluntary b then s.startSwap b else s := by
  simp [State.considerSwap, noSwap, best]

/-- R109. -/
theorem forced_iff (s : State) :
    s.forced = true ↔ s.carrier = none ∨ ∃ c, s.carrier = some c ∧ (s.link c).eligible = false := by
  unfold State.forced
  cases s.carrier <;> simp [State.link]

/-- R110's margin. -/
theorem meetsMargin_iff (s : State) (b c : Slot) :
    s.meetsMargin b c = true ↔
      (s.linkConfig.get b).costClass < (s.linkConfig.get c).costClass
      ∨ (s.linkConfig.get b).costClass = (s.linkConfig.get c).costClass
        ∧ (s.linkConfig.get c).rank + 2 ≤ (s.linkConfig.get b).rank := by
  simp [State.meetsMargin]

/-- R110. -/
theorem voluntary_iff (s : State) (b : Slot) :
    s.voluntary b = true ↔
      ∃ c, s.carrier = some c ∧ (s.link c).eligible = true ∧ s.selector.dwellTimer = none
        ∧ s.bridge.standing.linkHold = false ∧ s.meetsMargin b c = true := by
  unfold State.voluntary
  cases s.carrier with
  | none => simp
  | some c =>
    simp only [Bool.and_eq_true, Option.isNone_iff_eq_none, Bool.not_eq_true', Option.some.injEq, exists_eq_left', State.link]
    tauto

/-- R111, the start of a swap written out. -/
theorem startSwap_eq (s : State) (b : Slot) :
    s.startSwap b = ({ s with
      links := s.links.set b { s.link b with state := .ramping }
      selector := { s.selector with
        swap := some ⟨b, s.carrier, s.params.swapTimeout * Config.periodsPerSecond⟩, lateMark := none } } : State).raise
          .swapBegin b.val := rfl

/-- Settles O33, from what the forced and the voluntary condition say of the carrier and of the best standby. -/
theorem considerationStartsSwap : Obligations.ConsiderationStartsSwap := by
  intro s
  refine ⟨?nothing, fun b noSwap best => ⟨?starts, ?stays⟩⟩
  case nothing =>
    rintro (inFlight | nobody)
    · exact considerSwap_of_swap inFlight
    · exact considerSwap_of_bestStandby_none ((bestStandby_eq_none_iff s).mpr nobody)
  case starts =>
    intro condition
    have starts : (s.forced || s.voluntary b) = true := by
      rw [Bool.or_eq_true, forced_iff, voluntary_iff]
      simp only [meetsMargin_iff]
      exact or_assoc.mpr condition
    rw [considerSwap_of_bestStandby noSwap best, if_pos starts, startSwap_eq]
  case stays =>
    intro c carries eligible obstacle
    have notForced : ¬ s.forced = true := by simp [forced_iff, carries, eligible]
    have notVoluntary : ¬ s.voluntary b = true := by
      rw [voluntary_iff]
      rintro ⟨d, carriesToo, -, dwellStopped, noHold, margin⟩
      obtain rfl : c = d := Option.some.inj (carries.symm.trans carriesToo)
      rw [meetsMargin_iff] at margin
      obtain dwellRuns | hold | dearer | outranked := obstacle
      · simp [dwellStopped] at dwellRuns
      · simp [noHold] at hold
      · omega
      · omega
    rw [considerSwap_of_bestStandby noSwap best, if_neg (by simp [notForced, notVoluntary])]

end Sys2Proof.Selection

/-! SUPPORT. Tables read record by record: what a canonical table lists, searches and counts, said of the records its numbers
give, and the update of every listed record. -/

namespace Sys2Proof.Machine

/-! ### Entries -/

section Canonical

variable {α : Type} [DecidableEq α] {t u : Table α} {cold : α} {size : Nat}

theorem Table.rising_of_wf (canonical : t.wf cold size = true) : risingFrom 0 t.entries = true := by
  simp only [Table.wf, Bool.and_eq_true] at canonical
  exact canonical.1

/-- A canonical table lists exactly the records that are not cold. -/
theorem Table.mem_entries (canonical : t.wf cold size = true) {k : Nat} {v : α} :
    (k, v) ∈ t.entries ↔ t.get cold k = v ∧ v ≠ cold := by
  constructor
  · intro listed
    have found := (lookupKey_of_mem (Table.rising_of_wf canonical) listed).1
    simp only [Table.wf, Bool.and_eq_true, List.all_eq_true, decide_eq_true_eq] at canonical
    exact ⟨by simp [Table.get, found], (canonical.2 _ listed).2⟩
  · rintro ⟨rfl, warm⟩
    unfold Table.get at warm ⊢
    cases found : lookupKey k t.entries with
    | none => simp [found] at warm
    | some w => exact mem_of_lookupKey found

theorem Table.forall_entries (canonical : t.wf cold size = true) {P : Nat × α → Prop} :
    (∀ e ∈ t.entries, P e) ↔ ∀ k, t.get cold k ≠ cold → P (k, t.get cold k) := by
  constructor
  · exact fun all k warm => all _ ((Table.mem_entries canonical).mpr ⟨rfl, warm⟩)
  · rintro all ⟨k, v⟩ listed
    obtain ⟨rfl, warm⟩ := (Table.mem_entries canonical).mp listed
    exact all k warm

theorem Table.lt_of_get_ne (canonical : t.wf cold size = true) {k : Nat} (warm : t.get cold k ≠ cold) : k < size := by
  have listed := (Table.mem_entries canonical).mpr ⟨rfl, warm⟩
  simp only [Table.wf, Bool.and_eq_true, List.all_eq_true, decide_eq_true_eq] at canonical
  exact (canonical.2 _ listed).1

theorem Table.get_of_le (canonical : t.wf cold size = true) {k : Nat} (beyond : size ≤ k) : t.get cold k = cold := by
  by_contra warm
  have := Table.lt_of_get_ne canonical warm
  omega

omit [DecidableEq α] in
theorem nodup_of_rising {l : List (Nat × α)} {low : Nat} (rising : risingFrom low l = true) : l.Nodup := by
  induction l generalizing low with
  | nil => exact List.nodup_nil
  | cons e l ih =>
    obtain ⟨j, v⟩ := e
    simp only [risingFrom, Bool.and_eq_true, decide_eq_true_eq] at rising
    refine List.nodup_cons.mpr ⟨fun again => ?_, ih rising.2⟩
    have := (lookupKey_of_mem rising.2 again).2
    omega

/-- No two records that satisfy `p` agree on `f`, said of the entries and of the numbers. -/
theorem Table.nodup_map_filter_iff {β : Type} (canonical : t.wf cold size = true) (p : Nat × α → Bool) (f : Nat × α → β) :
    ((t.entries.filter p).map f).Nodup ↔
      ∀ j k, t.get cold j ≠ cold → t.get cold k ≠ cold → p (j, t.get cold j) = true → p (k, t.get cold k) = true →
        f (j, t.get cold j) = f (k, t.get cold k) → j = k := by
  rw [List.nodup_map_iff_inj_on ((nodup_of_rising (Table.rising_of_wf canonical)).filter p)]
  constructor
  · intro inj j k warmJ warmK pj pk same
    have listedJ := List.mem_filter.mpr ⟨(Table.mem_entries canonical).mpr ⟨rfl, warmJ⟩, pj⟩
    have listedK := List.mem_filter.mpr ⟨(Table.mem_entries canonical).mpr ⟨rfl, warmK⟩, pk⟩
    exact congrArg Prod.fst (inj _ listedJ _ listedK same)
  · rintro inj ⟨j, v⟩ listedJ ⟨k, w⟩ listedK same
    obtain ⟨inJ, pj⟩ := List.mem_filter.mp listedJ
    obtain ⟨inK, pk⟩ := List.mem_filter.mp listedK
    obtain ⟨rfl, warmJ⟩ := (Table.mem_entries canonical).mp inJ
    obtain ⟨rfl, warmK⟩ := (Table.mem_entries canonical).mp inK
    obtain rfl := inj j k warmJ warmK pj pk same
    rfl

theorem Table.nodup_map_iff {β : Type} (canonical : t.wf cold size = true) (f : α → β) :
    (t.entries.map fun e => f e.2).Nodup ↔
      ∀ j k, t.get cold j ≠ cold → t.get cold k ≠ cold → f (t.get cold j) = f (t.get cold k) → j = k := by
  have all : t.entries.filter (fun _ => true) = t.entries := List.filter_true _
  have split := Table.nodup_map_filter_iff canonical (fun _ => true) (fun e => f e.2)
  rw [all] at split
  simpa using split

/-! ### Searches and counts -/

/-- A search of a canonical table lists the numbers below its size whose records satisfy it. -/
theorem Table.keys_eq (canonical : t.wf cold size = true) {f : α → Bool} (hf : f cold = false) :
    t.keys f = (List.range size).filter fun k => f (t.get cold k) := by
  have right : ((List.range size).filter fun k => f (t.get cold k)).Pairwise (· < ·) := List.pairwise_lt_range.filter _
  refine List.Perm.eq_of_pairwise (fun a b _ _ ab ba => absurd ba (by omega)) (Table.keys_pairwise canonical f) right ?_
  refine (List.perm_ext_iff_of_nodup ((Table.keys_pairwise canonical f).imp (fun h => by omega)) (right.imp (fun h => by omega))).mpr
    fun k => ?_
  rw [Table.mem_keys canonical hf, List.mem_filter, List.mem_range]
  refine ⟨fun sat => ⟨Table.lt_of_get_ne canonical fun isCold => ?_, sat⟩, fun h => h.2⟩
  simp [isCold, hf] at sat

theorem Table.count_eq (canonical : t.wf cold size = true) {f : α → Bool} (hf : f cold = false) :
    t.count f = (List.range size).countP fun k => f (t.get cold k) := by
  rw [Table.count, Table.keys_eq canonical hf, List.countP_eq_length_filter]

theorem Table.count_eq_zero_iff (canonical : t.wf cold size = true) {f : α → Bool} (hf : f cold = false) :
    t.count f = 0 ↔ ∀ k, f (t.get cold k) = false := by
  rw [Table.count, List.length_eq_zero_iff, List.eq_nil_iff_forall_not_mem]
  simp [Table.mem_keys canonical hf]

/-- Tests that differ at one number of a list without repetition count alike but for that number. -/
theorem countP_update {l : List Nat} (once : l.Nodup) {k : Nat} (listed : k ∈ l) {p q : Nat → Bool}
    (off : ∀ j, j ≠ k → p j = q j) :
    l.countP p + (if q k = true then 1 else 0) = l.countP q + if p k = true then 1 else 0 := by
  induction l with
  | nil => cases listed
  | cons i l ih =>
    obtain ⟨fresh, once⟩ := List.nodup_cons.mp once
    by_cases here : i = k
    · subst here
      have rest : l.countP p = l.countP q :=
        List.countP_congr fun j inL => by rw [off j fun same => fresh (same ▸ inL)]
      rw [List.countP_cons, List.countP_cons, rest]
      omega
    · have inL : k ∈ l := (List.mem_cons.mp listed).resolve_left fun same => here same.symm
      have rest := ih once inL
      rw [List.countP_cons, List.countP_cons, off i here]
      omega

/-- A write moves a count by the record that goes and the record that comes. -/
theorem Table.count_set (canonical : t.wf cold size = true) {f : α → Bool} (hf : f cold = false) {k : Nat} (inside : k < size)
    (v : α) :
    (t.set cold k v).count f + (if f (t.get cold k) = true then 1 else 0) = t.count f + if f v = true then 1 else 0 := by
  rw [Table.count_eq (Table.wf_set canonical inside v) hf, Table.count_eq canonical hf]
  have moved := countP_update (List.nodup_range (n := size)) (List.mem_range.mpr inside)
    (p := fun j => f ((t.set cold k v).get cold j)) (q := fun j => f (t.get cold j))
    fun j other => by rw [Table.get_set_other t cold other]
  simpa using moved

theorem Table.count_congr (canonical : t.wf cold size = true) (canonical' : u.wf cold size = true) {f g : α → Bool}
    (hf : f cold = false) (hg : g cold = false) (same : ∀ k, f (t.get cold k) = g (u.get cold k)) :
    t.count f = u.count g := by
  rw [Table.count_eq canonical hf, Table.count_eq canonical' hg]
  exact List.countP_congr fun k _ => by rw [same k]

/-! ### Equality -/

omit [DecidableEq α] in
theorem rising_ext {l m : List (Nat × α)} {low : Nat} (hl : risingFrom low l = true) (hm : risingFrom low m = true)
    (same : ∀ k, lookupKey k l = lookupKey k m) : l = m := by
  have memIff : ∀ e, e ∈ l ↔ e ∈ m := by
    rintro ⟨k, v⟩
    refine ⟨fun inL => mem_of_lookupKey ?_, fun inM => mem_of_lookupKey ?_⟩
    · rw [← same]; exact (lookupKey_of_mem hl inL).1
    · rw [same]; exact (lookupKey_of_mem hm inM).1
  have sorted : ∀ {low : Nat} {n : List (Nat × α)}, risingFrom low n = true → n.Pairwise fun a b => a.1 < b.1 := by
    intro low n
    induction n generalizing low with
    | nil => exact fun _ => List.Pairwise.nil
    | cons e n ih =>
      obtain ⟨j, v⟩ := e
      intro rising
      simp only [risingFrom, Bool.and_eq_true, decide_eq_true_eq] at rising
      refine List.pairwise_cons.mpr ⟨fun ⟨i, w⟩ inN => ?_, ih rising.2⟩
      have := (lookupKey_of_mem rising.2 inN).2
      show j < i
      omega
  exact List.Perm.eq_of_pairwise (fun a b _ _ ab ba => absurd ba (by omega)) (sorted hl) (sorted hm)
    ((List.perm_ext_iff_of_nodup (nodup_of_rising hl) (nodup_of_rising hm)).mpr memIff)

/-- Canonical tables with equal records are equal data. -/
theorem Table.ext_get (canonical : t.wf cold size = true) (canonical' : u.wf cold size = true)
    (same : ∀ k, t.get cold k = u.get cold k) : t = u := by
  obtain ⟨l⟩ := t
  obtain ⟨m⟩ := u
  congr 1
  refine rising_ext (Table.rising_of_wf canonical) (Table.rising_of_wf canonical') fun k => ?_
  have sameGet := same k
  cases foundL : lookupKey k l with
  | some v =>
    have listed := (Table.mem_entries canonical).mp (mem_of_lookupKey foundL)
    have other := (Table.mem_entries canonical').mpr ⟨sameGet ▸ listed.1, listed.2⟩
    exact (lookupKey_of_mem (Table.rising_of_wf canonical') other).1.symm
  | none =>
    cases foundM : lookupKey k m with
    | none => rfl
    | some v =>
      have listed := (Table.mem_entries canonical').mp (mem_of_lookupKey foundM)
      have other := (Table.mem_entries canonical).mpr ⟨sameGet.trans listed.1, listed.2⟩
      rw [(lookupKey_of_mem (Table.rising_of_wf canonical) other).1] at foundL
      cases foundL

theorem Table.eq_empty (canonical : t.wf cold size = true) (allCold : ∀ k, t.get cold k = cold) : t = Table.empty :=
  Table.ext_get canonical (Table.wf_empty cold size) allCold

/-! ### An update of every record -/

theorem lookupKey_filter_map {f : α → α} {l : List (Nat × α)} {low : Nat} (rising : risingFrom low l = true) (k : Nat) :
    (lookupKey k ((l.map fun e => (e.1, f e.2)).filter fun e => decide (e.2 ≠ cold))).getD cold =
      ((lookupKey k l).map f).getD cold := by
  induction l generalizing low with
  | nil => rfl
  | cons e l ih =>
    obtain ⟨j, v⟩ := e
    simp only [risingFrom, Bool.and_eq_true, decide_eq_true_eq] at rising
    have rest := ih rising.2
    by_cases here : j = k
    · subst here
      have gone : lookupKey j l = none := by
        cases found : lookupKey j l with
        | none => rfl
        | some w =>
          have := (lookupKey_of_mem rising.2 (mem_of_lookupKey found)).2
          omega
      by_cases warm : f v = cold
      · simpa [lookupKey, warm, gone] using rest
      · simp [lookupKey, warm]
    · by_cases warm : f v = cold
      · simpa [lookupKey, warm, here] using rest
      · simpa [lookupKey, warm, here] using rest

theorem Table.get_update (canonical : t.wf cold size = true) {f : α → α} (keepsCold : f cold = cold) (k : Nat) :
    (t.update cold f).get cold k = f (t.get cold k) := by
  simp only [Table.get, Table.update, lookupKey_filter_map (Table.rising_of_wf canonical)]
  cases lookupKey k t.entries <;> simp [keepsCold]

omit [DecidableEq α] in
theorem rising_filter {l : List (Nat × α)} {low : Nat} (p : Nat × α → Bool) (rising : risingFrom low l = true) :
    risingFrom low (l.filter p) = true := by
  induction l generalizing low with
  | nil => rfl
  | cons e l ih =>
    obtain ⟨j, v⟩ := e
    simp only [risingFrom, Bool.and_eq_true, decide_eq_true_eq] at rising
    rw [List.filter_cons]
    split
    · simpa [risingFrom, rising.1] using ih rising.2
    · exact risingFrom_weaken (by omega) (ih rising.2)

omit [DecidableEq α] in
theorem rising_map {f : α → α} {l : List (Nat × α)} {low : Nat} (rising : risingFrom low l = true) :
    risingFrom low (l.map fun e => (e.1, f e.2)) = true := by
  induction l generalizing low with
  | nil => rfl
  | cons e l ih =>
    simp only [risingFrom, Bool.and_eq_true, decide_eq_true_eq] at rising
    simpa [risingFrom, rising.1] using ih rising.2

theorem Table.wf_update (canonical : t.wf cold size = true) (f : α → α) : (t.update cold f).wf cold size = true := by
  have rising := rising_filter (fun e => decide (e.2 ≠ cold)) (rising_map (f := f) (Table.rising_of_wf canonical))
  simp only [Table.wf, Bool.and_eq_true, List.all_eq_true, decide_eq_true_eq] at canonical ⊢
  refine ⟨rising, fun e listed => ?_⟩
  obtain ⟨mapped, warm⟩ := List.mem_filter.mp listed
  obtain ⟨e', listed', rfl⟩ := List.mem_map.mp mapped
  exact ⟨(canonical.2 e' listed').1, of_decide_eq_true warm⟩

end Canonical

end Sys2Proof.Machine

/-! SUPPORT. The event router (11.6): the order of a pending set, what one latch does to a port, and what a run of occurrences
leaves of each kind. -/

namespace Sys2Proof.Machine

/-! ### Event kinds -/

/-- The event kinds by rising number. -/
def EventKind.all : List EventKind :=
  [.warmStart, .coverageChanged, .zoneChanged, .zoneUnknown, .bridgeOrder, .bridgeBad, .ratingBoundary, .swapBegin, .swapDone,
    .swapAbandoned, .linkFault, .shoreDark, .linkStale, .sessionLapsed, .sessionSuspended, .sessionResumed, .creditExhausted,
    .lowBalance, .settlementSaturated, .recordReady, .queueFull, .recordOwed, .chargeClamped, .segmentMixed, .tableFull,
    .clockNotSet, .periodChanged]

theorem EventKind.all_number (k : EventKind) : EventKind.all[k.number]? = some k := by
  cases k <;> rfl

theorem EventKind.number_inj {j k : EventKind} (same : j.number = k.number) : j = k :=
  Option.some.inj ((EventKind.all_number j).symm.trans (same ▸ EventKind.all_number k))

/-! ### The place of a fresh entry -/

theorem insertFresh_perm (e : Entry) (l : List Entry) : (insertFresh e l).Perm (e :: l) := by
  induction l with
  | nil => exact List.Perm.refl _
  | cons x rest ih =>
    unfold insertFresh
    split
    · exact List.Perm.refl _
    · exact (ih.cons x).trans (List.Perm.swap e x rest)

theorem mem_insertFresh {e d : Entry} {l : List Entry} : d ∈ insertFresh e l ↔ d = e ∨ d ∈ l := by
  rw [(insertFresh_perm e l).mem_iff, List.mem_cons]

theorem insertFresh_ne_nil (e : Entry) (l : List Entry) : insertFresh e l ≠ [] :=
  List.ne_nil_of_mem (mem_insertFresh.mpr (.inl rfl))

/-- A filter that drops the new entry gives what it gave before. -/
theorem filter_insertFresh_of_neg {e : Entry} {p : Entry → Bool} (drops : p e = false) (l : List Entry) :
    (insertFresh e l).filter p = l.filter p := by
  induction l with
  | nil => simp [insertFresh, drops]
  | cons x rest ih =>
    unfold insertFresh
    split
    · simp [List.filter_cons, drops]
    · simp [List.filter_cons, ih]

theorem insertFresh_renewed_last {e : Entry} (fresh : e.renewed = false) {l : List Entry}
    (last : l.Pairwise fun a b => a.renewed = true → b.renewed = true) :
    (insertFresh e l).Pairwise fun a b => a.renewed = true → b.renewed = true := by
  induction l with
  | nil => simp [insertFresh]
  | cons x rest ih =>
    have tail := List.pairwise_cons.mp last
    unfold insertFresh
    split
    · exact List.pairwise_cons.mpr ⟨fun _ _ no => absurd no (by simp [fresh]), last⟩
    next later =>
      have young : x.renewed = false := by simp_all
      exact List.pairwise_cons.mpr ⟨fun _ _ no => absurd no (by simp [young]), ih tail.2⟩

theorem insertFresh_rising {e : Entry} (fresh : e.renewed = false) {l : List Entry} (absent : ∀ x ∈ l, x.kind ≠ e.kind)
    (last : l.Pairwise fun a b => a.renewed = true → b.renewed = true)
    (rising : (l.filter fun x => !x.renewed).Pairwise fun a b => a.kind.number < b.kind.number) :
    ((insertFresh e l).filter fun x => !x.renewed).Pairwise fun a b => a.kind.number < b.kind.number := by
  induction l with
  | nil => simp [insertFresh, fresh]
  | cons x rest ih =>
    obtain ⟨headLast, last'⟩ := List.pairwise_cons.mp last
    have absent' : ∀ y ∈ rest, y.kind ≠ e.kind := fun y inRest => absent y (List.mem_cons_of_mem _ inRest)
    unfold insertFresh
    split
    next before =>
      rw [List.filter_cons_of_pos (by simp [fresh])]
      refine List.pairwise_cons.mpr ⟨fun y inFilter => ?_, rising⟩
      obtain ⟨inList, young⟩ := List.mem_filter.mp inFilter
      have youngY : y.renewed = false := by simpa using young
      by_cases old : x.renewed = true
      · obtain rfl | inRest := List.mem_cons.mp inList
        · simp [old] at youngY
        · simp [headLast y inRest old] at youngY
      · have smaller : e.kind.number < x.kind.number := by simpa [old] using before
        rw [List.filter_cons_of_pos (by simpa using old)] at rising
        obtain rfl | inRest := List.mem_cons.mp inList
        · exact smaller
        · exact smaller.trans ((List.pairwise_cons.mp rising).1 y (List.mem_filter.mpr ⟨inRest, young⟩))
    next later =>
      obtain ⟨young, notSmaller⟩ : x.renewed = false ∧ ¬ e.kind.number < x.kind.number := by simpa using later
      rw [List.filter_cons_of_pos (by simp [young])] at rising ⊢
      obtain ⟨headRising, rising'⟩ := List.pairwise_cons.mp rising
      refine List.pairwise_cons.mpr ⟨fun y inFilter => ?_, ih absent' last' rising'⟩
      obtain ⟨inList, youngY⟩ := List.mem_filter.mp inFilter
      obtain rfl | inRest := mem_insertFresh.mp inList
      · have differ : x.kind.number ≠ y.kind.number := fun same => absent x List.mem_cons_self (EventKind.number_inj same)
        omega
      · exact headRising y (List.mem_filter.mpr ⟨inRest, youngY⟩)

/-! ### One latch -/

section Latch

variable {x : PortState} {k : EventKind} {d : Nat}

theorem PortState.latch_of_disabled (off : x.enabled k = false) : x.latch k d = x := by
  simp [PortState.latch, off]

/-- The pending set after a latch: the entry of the kind replaced (R192). -/
def PortState.latchedPending (x : PortState) (k : EventKind) (d : Nat) : List Entry :=
  insertFresh ⟨k, d, x.holds k, false⟩ (x.pending.filter fun e => e.kind != k)

theorem PortState.latch_of_enabled (on : x.enabled k = true) :
    x.latch k d = { x with
      pending := x.latchedPending k d, lineLow := true
      attention := if x.lineLow = true then x.attention else some Config.attentionPeriods } := by
  obtain ⟨enables, pending, lineLow, attention, truncated, frame⟩ := x
  cases lineLow <;> simp [PortState.latch, on, PortState.pullLow, PortState.latchedPending]

@[simp] theorem PortState.latch_enables : (x.latch k d).enables = x.enables := by
  cases on : x.enabled k with
  | false => rw [PortState.latch_of_disabled on]
  | true => rw [PortState.latch_of_enabled on]

@[simp] theorem PortState.latch_enabled (j : EventKind) : (x.latch k d).enabled j = x.enabled j := by
  simp [PortState.enabled]

@[simp] theorem PortState.latch_truncated : (x.latch k d).truncated = x.truncated := by
  cases on : x.enabled k with
  | false => rw [PortState.latch_of_disabled on]
  | true => rw [PortState.latch_of_enabled on]

@[simp] theorem PortState.latch_frame : (x.latch k d).frame = x.frame := by
  cases on : x.enabled k with
  | false => rw [PortState.latch_of_disabled on]
  | true => rw [PortState.latch_of_enabled on]

theorem PortState.filter_same_latchedPending :
    (x.latchedPending k d).filter (fun e => e.kind == k) = [⟨k, d, x.holds k, false⟩] := by
  unfold PortState.latchedPending
  have only : ∀ l : List Entry, (∀ e ∈ l, e.kind ≠ k) →
      (insertFresh ⟨k, d, x.holds k, false⟩ l).filter (fun e => e.kind == k) = [⟨k, d, x.holds k, false⟩] := by
    intro l others
    have none : l.filter (fun e => e.kind == k) = [] := List.filter_eq_nil_iff.mpr fun e inL => by simpa using others e inL
    refine List.perm_singleton.mp (((insertFresh_perm _ l).filter _).trans ?_)
    rw [List.filter_cons_of_pos (by simp), none]
  exact only _ fun e inFilter => by simpa using (List.mem_filter.mp inFilter).2

theorem PortState.filter_other_latchedPending {p : Entry → Bool} (drops : ∀ e : Entry, e.kind = k → p e = false) :
    (x.latchedPending k d).filter p = x.pending.filter p := by
  unfold PortState.latchedPending
  rw [filter_insertFresh_of_neg (drops _ rfl), List.filter_filter]
  refine List.filter_congr fun e _ => ?_
  by_cases same : e.kind = k
  · simp [drops e same]
  · simp [same]

/-- A latch leaves the entries of every other kind as they were. -/
theorem PortState.latch_filter_other {j : EventKind} (differ : j ≠ k) :
    (x.latch k d).pending.filter (fun e => e.kind == j) = x.pending.filter fun e => e.kind == j := by
  cases on : x.enabled k with
  | false => rw [PortState.latch_of_disabled on]
  | true =>
    rw [PortState.latch_of_enabled on]
    exact PortState.filter_other_latchedPending fun e same => by simpa [same] using differ.symm

theorem PortState.latch_filter_same (on : x.enabled k = true) :
    (x.latch k d).pending.filter (fun e => e.kind == k) = [⟨k, d, x.holds k, false⟩] := by
  rw [PortState.latch_of_enabled on]
  exact PortState.filter_same_latchedPending

theorem PortState.holds_iff {j : EventKind} : x.holds j = true ↔ x.pending.filter (fun e => e.kind == j) ≠ [] := by
  simp [PortState.holds, List.filter_eq_nil_iff]

/-- A latch drops no pending kind. -/
theorem PortState.holds_latch {j : EventKind} (held : x.holds j = true) : (x.latch k d).holds j = true := by
  rw [PortState.holds_iff] at held ⊢
  by_cases same : j = k
  · subst same
    cases on : x.enabled j with
    | false => rwa [PortState.latch_of_disabled on]
    | true => simp [PortState.latch_filter_same on]
  · rwa [PortState.latch_filter_other same]

/-- A latch keeps the order of the pending set and the attention line with its timer (R192 to R195). -/
theorem PortState.Lawful.latch (law : x.Lawful) (k : EventKind) (d : Nat) : (x.latch k d).Lawful := by
  cases on : x.enabled k with
  | false => rwa [PortState.latch_of_disabled on]
  | true =>
    obtain ⟨once, last, rising, renewedLevel, lowPending, timed⟩ := law
    have kept : ∀ e ∈ x.pending.filter (fun e => e.kind != k), e ∈ x.pending ∧ e.kind ≠ k := fun e inFilter => by
      simpa using List.mem_filter.mp inFilter
    have last' := last.filter (fun e => e.kind != k)
    rw [PortState.latch_of_enabled on]
    refine ⟨?once, insertFresh_renewed_last rfl last', ?rising, ?level, fun _ => insertFresh_ne_nil _ _, ?timed⟩
    case once =>
      refine (((insertFresh_perm _ _).map Entry.kind).nodup_iff).mpr (List.nodup_cons.mpr ⟨?_, ?_⟩)
      · simp [List.mem_map, List.mem_filter]
      · exact once.sublist ((List.filter_sublist).map _)
    case rising =>
      refine insertFresh_rising rfl (fun e inFilter => (kept e inFilter).2) last' ?_
      rw [List.filter_comm]
      exact rising.filter _
    case level =>
      intro e listed renewed
      obtain rfl | inFilter := mem_insertFresh.mp listed
      · cases renewed
      · exact renewedLevel e (kept e inFilter).1 renewed
    case timed =>
      cases low : x.lineLow with
      | false => simp
      | true => simpa [low] using timed

end Latch

/-! ### Stored details -/

theorem LevelDetails.get_store (s : LevelDetails) (k j : EventKind) (d : Nat) :
    (s.store k d).get j = if j = k ∧ k ∈ levelKinds then d else s.get j := by
  by_cases same : j = k
  · subst same
    cases j <;> rfl
  · simp only [same, false_and, if_false]
    cases k <;> cases j <;> first | rfl | exact absurd rfl same

/-- Settles O48, port by port from what one latch does. -/
theorem occurrenceIsLatched : Obligations.OccurrenceIsLatched := by
  intro s k d
  refine ⟨rfl, fun j => LevelDetails.get_store _ k j d, fun p => ⟨fun off => ?_, fun on => ?_⟩⟩
  · exact (Router.port_occur _ k d p).trans (PortState.latch_of_disabled off)
  · have latched : (s.raise k d).port p = (s.port p).latch k d := Router.port_occur _ k d p
    refine ⟨(s.port p).latchedPending k d, latched.trans (PortState.latch_of_enabled on), PortState.filter_same_latchedPending,
      PortState.filter_other_latchedPending fun e same => by simp [same], fun law => ?_⟩
    rw [latched]
    exact law.latch k d

/-! ### Runs of occurrences -/

/-- Occurrences offered one after another. -/
def Router.occurs (r : Router) (l : List (EventKind × Nat)) : Router := l.foldl (fun r e => r.occur e.1 e.2) r

@[simp] theorem Router.occurs_nil (r : Router) : r.occurs [] = r := rfl

theorem Router.occurs_cons (r : Router) (e : EventKind × Nat) (l : List (EventKind × Nat)) :
    r.occurs (e :: l) = (r.occur e.1 e.2).occurs l := rfl

theorem Router.occurs_append (r : Router) (l m : List (EventKind × Nat)) : r.occurs (l ++ m) = (r.occurs l).occurs m :=
  List.foldl_append

theorem Router.occur_eq_occurs (r : Router) (k : EventKind) (d : Nat) : r.occur k d = r.occurs [(k, d)] := rfl

/-- The last occurrence of a kind among some, if there is one. -/
def lastDetail (k : EventKind) (l : List (EventKind × Nat)) : Option Nat :=
  ((l.filter fun e => e.1 == k).map Prod.snd).getLast?

section Occurs

variable {r : Router} {l : List (EventKind × Nat)} {p : Port} {k : EventKind}

@[simp] theorem Router.occurs_enables : ((r.occurs l).port p).enables = (r.port p).enables := by
  induction l generalizing r with
  | nil => rfl
  | cons e l ih => rw [Router.occurs_cons, ih, Router.port_occur, PortState.latch_enables]

@[simp] theorem Router.occurs_enabled : ((r.occurs l).port p).enabled k = (r.port p).enabled k := by
  simp [PortState.enabled]

@[simp] theorem Router.occurs_truncated : ((r.occurs l).port p).truncated = (r.port p).truncated := by
  induction l generalizing r with
  | nil => rfl
  | cons e l ih => rw [Router.occurs_cons, ih, Router.port_occur, PortState.latch_truncated]

@[simp] theorem Router.occurs_frame : ((r.occurs l).port p).frame = (r.port p).frame := by
  induction l generalizing r with
  | nil => rfl
  | cons e l ih => rw [Router.occurs_cons, ih, Router.port_occur, PortState.latch_frame]

theorem Router.occurs_lawful (law : (r.port p).Lawful) : ((r.occurs l).port p).Lawful := by
  induction l generalizing r with
  | nil => exact law
  | cons e l ih =>
    rw [Router.occurs_cons]
    refine ih ?_
    rw [Router.port_occur]
    exact law.latch e.1 e.2

theorem Router.occurs_holds (held : (r.port p).holds k = true) : ((r.occurs l).port p).holds k = true := by
  induction l generalizing r with
  | nil => exact held
  | cons e l ih =>
    rw [Router.occurs_cons]
    refine ih ?_
    rw [Router.port_occur]
    exact PortState.holds_latch held

/-- The entries of a kind with no occurrence stay as they were. -/
theorem Router.occurs_filter_of_none (quiet : ∀ e ∈ l, e.1 ≠ k) :
    ((r.occurs l).port p).pending.filter (fun e => e.kind == k) = (r.port p).pending.filter fun e => e.kind == k := by
  induction l generalizing r with
  | nil => rfl
  | cons e l ih =>
    rw [Router.occurs_cons, ih fun e' inL => quiet e' (List.mem_cons_of_mem _ inL), Router.port_occur]
    exact PortState.latch_filter_other (quiet e List.mem_cons_self).symm

/-- A kind with an occurrence is held by every port enabled for it, in one entry, not renewed, of the last detail. -/
theorem Router.occurs_filter_of_some {d : Nat} (last : lastDetail k l = some d) (on : (r.port p).enabled k = true) :
    ∃ overrun, ((r.occurs l).port p).pending.filter (fun e => e.kind == k) = [⟨k, d, overrun, false⟩] := by
  induction l using List.reverseRecOn generalizing d with
  | nil => simp [lastDetail] at last
  | append_singleton l e ih =>
    rw [Router.occurs_append]
    change ∃ overrun, (((r.occurs l).occur e.1 e.2).port p).pending.filter (fun e => e.kind == k) = _
    rw [Router.port_occur]
    by_cases here : e.1 = k
    · have detail : e.2 = d := by simpa [lastDetail, List.filter_append, here] using last
      subst here detail
      exact ⟨_, PortState.latch_filter_same (by simpa using on)⟩
    · rw [PortState.latch_filter_other fun same => here same.symm]
      refine ih ?_
      simpa [lastDetail, List.filter_append, here] using last

/-- A port that is not enabled for a kind keeps its entries of it. -/
theorem Router.occurs_filter_of_disabled (off : (r.port p).enabled k = false) :
    ((r.occurs l).port p).pending.filter (fun e => e.kind == k) = (r.port p).pending.filter fun e => e.kind == k := by
  induction l generalizing r with
  | nil => rfl
  | cons e l ih =>
    rw [Router.occurs_cons, ih (by simpa using off), Router.port_occur]
    by_cases same : k = e.1
    · subst same
      rw [PortState.latch_of_disabled off]
    · exact PortState.latch_filter_other same

end Occurs

theorem lastDetail_mem {k : EventKind} {l : List (EventKind × Nat)} {d : Nat} (last : lastDetail k l = some d) : (k, d) ∈ l := by
  obtain ⟨e, listed, rfl⟩ := List.mem_map.mp (List.mem_of_getLast? last)
  obtain ⟨inL, kind⟩ := List.mem_filter.mp listed
  rwa [← eq_of_beq kind]

theorem lastDetail_eq_none_iff {k : EventKind} {l : List (EventKind × Nat)} : lastDetail k l = none ↔ ∀ e ∈ l, e.1 ≠ k := by
  simp [lastDetail]

theorem exists_lastDetail {k : EventKind} {l : List (EventKind × Nat)} {d : Nat} (listed : (k, d) ∈ l) :
    ∃ d', lastDetail k l = some d' := by
  cases last : lastDetail k l with
  | none => exact absurd rfl (lastDetail_eq_none_iff.mp last _ listed)
  | some d' => exact ⟨d', rfl⟩

/-! ### What the statements say of two states -/

section Told

variable {s t : State} {l : List (EventKind × Nat)} {k : EventKind}

theorem State.latched_of_occurs (run : t.router = s.router.occurs l) {d : Nat} (listed : (k, d) ∈ l) : s.Latched t k := by
  intro p on
  obtain ⟨d', last⟩ := exists_lastDetail listed
  obtain ⟨o, entry⟩ := Router.occurs_filter_of_some (r := s.router) (p := p) last on
  rw [State.port, run, PortState.holds_iff, entry]
  simp

theorem State.unlatched_of_occurs (run : t.router = s.router.occurs l) (quiet : ∀ e ∈ l, e.1 ≠ k) : s.Unlatched t k := by
  intro p
  rw [State.port, run]
  exact Router.occurs_filter_of_none quiet

/-- A run whose occurrences of a kind name exactly the sessions that move tells the moves. -/
theorem State.tellsMoves_of_occurs (run : t.router = s.router.occurs l) {old new : SessionState}
    (exact : ∀ h, (k, h) ∈ l ↔ (s.session h).state = old ∧ (t.session h).state = new) : s.TellsMoves t k old new := by
  constructor
  · intro still
    refine State.unlatched_of_occurs run fun e listed same => ?_
    obtain ⟨was, now⟩ := (exact e.2).mp (same ▸ listed)
    exact still _ was now
  · rintro ⟨h, moved⟩
    obtain ⟨d, last⟩ := exists_lastDetail ((exact h).mpr moved)
    obtain ⟨was, now⟩ := (exact d).mp (lastDetail_mem last)
    refine ⟨d, was, now, fun p => ?_⟩
    rw [State.port, run]
    split
    next on =>
      obtain ⟨overrun, entry⟩ := Router.occurs_filter_of_some (r := s.router) (p := p) last on
      have mark : ((s.router.occurs l).port p).pending.any (fun e => e.kind == k && e.overrun) = overrun := by
        rw [← List.any_filter, entry]
        simp
      rw [entry, mark]
    next off =>
      exact Router.occurs_filter_of_disabled (by simpa [State.port] using off)

end Told

end Sys2Proof.Machine

/-! SUPPORT. Changes of session records that keep the table's shape: reasons (1.2), flags, the drain order (R20), the ZONE
changes (R57) and the CREDIT changes (R39), each as one rewriting of the records handle by handle. -/

namespace Sys2Proof.Machine

/-! ### Rewritings of the session records -/

/-- `t` is `s` with every session record `h` become `new h`, and some occurrences raised. -/
structure State.Rewrites (s t : State) (new : Nat → Session) (l : List (EventKind × Nat)) : Prop where
  frame : t = { s with sessions := t.sessions, router := s.router.occurs l }
  session : ∀ h, t.session h = new h
  canonical : s.sessions.wf Session.free Config.sessionCount = true → t.sessions.wf Session.free Config.sessionCount = true

section Rewrites

variable {s t u : State} {new new' : Nat → Session} {l l' : List (EventKind × Nat)}

theorem State.Rewrites.refl (s : State) : s.Rewrites s s.session [] := ⟨rfl, fun _ => rfl, id⟩

theorem State.Rewrites.trans (first : s.Rewrites t new l) (second : t.Rewrites u new' l') : s.Rewrites u new' (l ++ l') := by
  refine ⟨?_, second.session, second.canonical ∘ first.canonical⟩
  rw [Router.occurs_append]
  rw [second.frame, first.frame]

theorem State.Rewrites.congr (first : s.Rewrites t new l) (same : ∀ h, new h = new' h) : s.Rewrites t new' l :=
  ⟨first.frame, fun h => (first.session h).trans (same h), first.canonical⟩

theorem State.Rewrites.router (first : s.Rewrites t new l) : t.router = s.router.occurs l := by rw [first.frame]
theorem State.Rewrites.agreements (first : s.Rewrites t new l) : t.agreements = s.agreements := by rw [first.frame]
theorem State.Rewrites.accounts (first : s.Rewrites t new l) : t.accounts = s.accounts := by rw [first.frame]

theorem State.rewrites_setSession {h : Nat} (x : Session) (inside : (s.session h).notFree = true) :
    s.Rewrites (s.setSession h x) (fun k => if k = h then x else s.session k) [] := by
  refine ⟨rfl, fun k => State.setSession_session s h k x, fun canonical => Table.wf_set canonical ?_ x⟩
  refine Table.lt_of_get_ne canonical fun isFree => ?_
  change s.session h = _ at isFree
  rw [isFree] at inside
  cases inside

theorem State.rewrites_raise (k : EventKind) (d : Nat) : s.Rewrites (s.raise k d) s.session [(k, d)] :=
  ⟨rfl, fun _ => rfl, id⟩

/-- A rewriting handle after handle, each of its own record, is a rewriting of the listed records. -/
theorem State.rewrites_foldl {op : State → Nat → State} {g : Nat → Session → Session}
    {told : Nat → Session → List (EventKind × Nat)} {hs : List Nat} (once : hs.Nodup)
    (one : ∀ (t : State) (h : Nat), h ∈ hs → t.agreements = s.agreements → t.session h = s.session h →
      t.Rewrites (op t h) (fun k => if k = h then g h (t.session h) else t.session k) (told h (t.session h))) :
    s.Rewrites (hs.foldl op s) (fun k => if k ∈ hs then g k (s.session k) else s.session k)
      (hs.flatMap fun h => told h (s.session h)) := by
  induction hs generalizing s with
  | nil => exact State.Rewrites.refl s
  | cons h rest ih =>
    obtain ⟨fresh, once⟩ := List.nodup_cons.mp once
    have first := one s h List.mem_cons_self rfl rfl
    have others : ∀ k ∈ rest, (op s h).session k = s.session k := fun k inRest => by
      rw [first.session, if_neg fun same : k = h => fresh (same ▸ inRest)]
    have second := ih (s := op s h) once fun t k inRest sameAgreements sameSession =>
      one t k (List.mem_cons_of_mem _ inRest) (sameAgreements.trans first.agreements) (sameSession.trans (others k inRest))
    have told' : (rest.flatMap fun k => told k ((op s h).session k)) = rest.flatMap fun k => told k (s.session k) :=
      List.flatMap_congr fun k inRest => by rw [others k inRest]
    rw [told'] at second
    refine (first.trans second).congr fun k => ?_
    simp only [first.session, List.mem_cons]
    by_cases here : k = h
    · subst here
      simp [fresh]
    · simp [here]

end Rewrites

/-! ### A change of reasons (R4, R5) -/

theorem Session.served_iff {x : Session} :
    x.served = true ↔ x.state = .active ∨ x.state = .suspended ∨ x.state = .draining := by
  unfold Session.served
  cases x.state <;> simp

theorem Session.served_eq_false_iff {x : Session} : x.served = false ↔ x.state = .free ∨ x.state = .closing := by
  unfold Session.served
  cases x.state <;> simp

theorem Session.live_iff {x : Session} : x.live = true ↔ x.state = .active ∨ x.state = .suspended := by
  unfold Session.live
  cases x.state <;> simp

theorem Session.notFree_iff {x : Session} : x.notFree = true ↔ x.state ≠ .free := by
  simp [Session.notFree]

theorem Session.notFree_of_served {x : Session} (served : x.served = true) : x.notFree = true := by
  rw [Session.served_iff] at served
  rw [Session.notFree_iff]
  obtain h | h | h := served <;> simp [h]

@[simp] theorem Session.free_served : Session.free.served = false := rfl
@[simp] theorem Session.free_live : Session.free.live = false := rfl
@[simp] theorem Session.free_notFree : Session.free.notFree = false := rfl

theorem Reasons.isEmpty_iff {r : Reasons} : r.isEmpty = true ↔ r = Reasons.none := by
  obtain ⟨a, b, c, d⟩ := r
  simp [Reasons.isEmpty, Reasons.none, and_assoc]

/-- What a change of reasons makes of a session: nothing of one that is not served (R4, R5). -/
def Session.changed (x : Session) (add remove : Reasons) : Session :=
  if x.served then x.judged (x.reasons.change add remove) else x

/-- The events a session's new reason set is told by: E14 when it suspends the session, E15 when it resumes it. -/
def Session.told (x : Session) (r : Reasons) (h : Nat) : List (EventKind × Nat) :=
  if x.state = .active ∧ r ≠ Reasons.none then [(.sessionSuspended, h)]
  else if x.state = .suspended ∧ r = Reasons.none then [(.sessionResumed, h)] else []

section Judged

variable {x : Session} {r add remove : Reasons} {h : Nat}

theorem Session.mem_told {e : EventKind × Nat} :
    e ∈ x.told r h ↔
      e = (.sessionSuspended, h) ∧ x.state = .active ∧ (x.judged r).state = .suspended
      ∨ e = (.sessionResumed, h) ∧ x.state = .suspended ∧ (x.judged r).state = .active := by
  unfold Session.told Session.judged
  cases x.state <;> by_cases empty : r = Reasons.none <;> simp [empty]

theorem Session.changed_of_served (served : x.served = true) :
    x.changed add remove = x.judged (x.reasons.change add remove) := by
  simp [Session.changed, served]

theorem Session.changed_of_not_served (unserved : x.served = false) : x.changed add remove = x := by
  simp [Session.changed, unserved]

theorem Session.told_of_not_served (unserved : x.served = false) : x.told r h = [] := by
  rw [Session.served_eq_false_iff] at unserved
  obtain state | state := unserved <;> simp [Session.told, state]

theorem State.changeReasons_of_not_served {s : State} (unserved : (s.session h).served = false) :
    s.changeReasons add remove h = s := by
  rw [Session.served_eq_false_iff] at unserved
  obtain state | state := unserved <;> simp [State.changeReasons, state]

/-- A change that reaches a served session writes the record judged by its new reason set, and tells it. -/
theorem State.changeReasons_of_served {s : State} (served : (s.session h).served = true) :
    s.changeReasons add remove h =
      { s with
        sessions := s.sessions.set Session.free h ((s.session h).judged ((s.session h).reasons.change add remove))
        router := s.router.occurs ((s.session h).told ((s.session h).reasons.change add remove) h) } := by
  unfold State.changeReasons
  generalize s.session h = x at *
  generalize change : x.reasons.change add remove = r
  obtain ⟨state, identity, basis, agreement, account, plan, reasons⟩ := x
  have empty : r.isEmpty = decide (r = Reasons.none) := by
    rw [Bool.eq_iff_iff, Reasons.isEmpty_iff, decide_eq_true_iff]
  by_cases none : r = Reasons.none <;> cases state <;>
    simp_all [Session.served, Session.judged, Session.told, State.setSession, State.raise, Router.occur_eq_occurs]

theorem State.rewrites_changeReasons (s : State) (add remove : Reasons) (h : Nat) :
    s.Rewrites (s.changeReasons add remove h) (fun k => if k = h then (s.session h).changed add remove else s.session k)
      ((s.session h).told ((s.session h).reasons.change add remove) h) := by
  cases served : (s.session h).served with
  | false =>
    rw [State.changeReasons_of_not_served served, Session.changed_of_not_served served, Session.told_of_not_served served]
    refine (State.Rewrites.refl s).congr fun k => ?_
    by_cases here : k = h <;> simp [here]
  | true =>
    have written := State.rewrites_setSession (s := s) ((s.session h).judged ((s.session h).reasons.change add remove))
      (Session.notFree_of_served served)
    rw [State.changeReasons_of_served served, Session.changed_of_served served]
    exact ⟨rfl, written.session, written.canonical⟩

end Judged

/-! ### Changes of many sessions -/

section Many

variable {s t : State} {hs : List Nat} {add remove : Reasons}

theorem State.rewrites_changeReasonsOf (s : State) (add remove : Reasons) (once : hs.Nodup) :
    s.Rewrites (s.changeReasonsOf add remove hs) (fun k => if k ∈ hs then (s.session k).changed add remove else s.session k)
      (hs.flatMap fun h => (s.session h).told ((s.session h).reasons.change add remove) h) :=
  State.rewrites_foldl (g := fun _ x => x.changed add remove) (told := fun h x => x.told (x.reasons.change add remove) h) once
    fun t h _ _ _ => State.rewrites_changeReasons t add remove h

theorem State.changeReasonsOf_of_none (unserved : ∀ h ∈ hs, (s.session h).served = false) :
    s.changeReasonsOf add remove hs = s := by
  unfold State.changeReasonsOf
  induction hs with
  | nil => rfl
  | cons h rest ih =>
    rw [List.foldl_cons, State.changeReasons_of_not_served (unserved h List.mem_cons_self)]
    exact ih fun k inRest => unserved k (List.mem_cons_of_mem _ inRest)

theorem mem_flatMap_told {x : Nat → Session} {r : Nat → Reasons} {e : EventKind × Nat} :
    (e ∈ hs.flatMap fun h => (x h).told (r h) h) ↔
      e.2 ∈ hs ∧ (e.1 = .sessionSuspended ∧ (x e.2).state = .active ∧ ((x e.2).judged (r e.2)).state = .suspended
        ∨ e.1 = .sessionResumed ∧ (x e.2).state = .suspended ∧ ((x e.2).judged (r e.2)).state = .active) := by
  obtain ⟨k, d⟩ := e
  simp only [List.mem_flatMap, Session.mem_told, Prod.mk.injEq]
  constructor
  · rintro ⟨h, listed, ⟨⟨rfl, rfl⟩, moved⟩ | ⟨⟨rfl, rfl⟩, moved⟩⟩ <;> simp_all
  · rintro ⟨listed, ⟨rfl, moved⟩ | ⟨rfl, moved⟩⟩ <;> exact ⟨d, listed, by simp_all⟩

/-- E14 and E15 tell the judgements of the listed sessions, when no other session moves and no other occurrence is of their
kinds. -/
theorem State.tellsReasons_of_told {l : List (EventKind × Nat)} {r : Nat → Reasons} (run : t.router = s.router.occurs l)
    (told : ∀ e : EventKind × Nat, e.1 = .sessionSuspended ∨ e.1 = .sessionResumed →
      (e ∈ l ↔ e ∈ hs.flatMap fun h => (s.session h).told (r h) h))
    (judged : ∀ h ∈ hs, (s.session h).served = true → (t.session h).state = ((s.session h).judged (r h)).state)
    (kept : ∀ h, h ∉ hs ∨ (s.session h).served = false → (t.session h).state = (s.session h).state) : s.TellsReasons t := by
  have moves : ∀ old new : SessionState, old = .active ∨ old = .suspended → old ≠ new → ∀ h,
      (s.session h).state = old ∧ (t.session h).state = new ↔
        h ∈ hs ∧ (s.session h).state = old ∧ ((s.session h).judged (r h)).state = new := by
    intro old new live differ h
    by_cases here : h ∈ hs
    · cases served : (s.session h).served with
      | false =>
        rw [Session.served_eq_false_iff] at served
        obtain rfl | rfl := live <;> obtain state | state := served <;> simp [state]
      | true => rw [judged h here served]; simp [here]
    · rw [kept h (.inl here)]
      simp only [here, false_and, iff_false, not_and]
      rintro rfl
      exact differ
  refine ⟨State.tellsMoves_of_occurs run fun h => ?_, State.tellsMoves_of_occurs run fun h => ?_⟩
  · rw [told _ (.inl rfl), mem_flatMap_told, moves _ _ (.inl rfl) (by simp)]
    simp
  · rw [told _ (.inr rfl), mem_flatMap_told, moves _ _ (.inr rfl) (by simp)]
    simp

/-! ### The drain order (R20) -/

/-- What the drain order makes of a session: a live one DRAINING. -/
def Session.drained (x : Session) : Session := if x.live then { x with state := .draining } else x

theorem State.nodup_handlesOf (canonical : s.sessions.wf Session.free Config.sessionCount = true) (f : Session → Bool) :
    (s.handlesOf f).Nodup :=
  (Table.keys_pairwise canonical f).imp fun h => by omega

theorem State.mem_handlesOf (canonical : s.sessions.wf Session.free Config.sessionCount = true) {f : Session → Bool}
    (hf : f Session.free = false) {h : Nat} : h ∈ s.handlesOf f ↔ f (s.session h) = true :=
  Table.mem_keys canonical hf

theorem State.rewrites_drainOrder (canonical : s.sessions.wf Session.free Config.sessionCount = true) :
    s.Rewrites s.drainOrder (fun k => (s.session k).drained) [] := by
  have fold := State.rewrites_foldl (s := s) (op := State.drainOne) (g := fun _ x => { x with state := .draining })
    (told := fun _ _ => []) (State.nodup_handlesOf canonical Session.live) fun t h listed _ same => by
      refine State.rewrites_setSession _ ?_
      rw [State.mem_handlesOf canonical rfl, Session.live_iff] at listed
      rw [same, Session.notFree_iff]
      obtain state | state := listed <;> simp [state]
  have quiet : ((s.handlesOf Session.live).flatMap fun _ => ([] : List (EventKind × Nat))) = [] := by simp
  rw [quiet] at fold
  refine fold.congr fun k => ?_
  simp only [State.mem_handlesOf canonical (f := Session.live) rfl, Session.drained]

/-! ### The ZONE changes of a new zone (R57) -/

/-- The ZONE change a session under agreement `i` is sent. -/
def State.zoneAdd (s : State) (z i : Nat) : Reasons := if zoneIn z (s.agreement i).zones then Reasons.none else Reasons.onlyZone
def State.zoneRemove (s : State) (z i : Nat) : Reasons := if zoneIn z (s.agreement i).zones then Reasons.onlyZone else Reasons.none

theorem State.zoneReason_of_agreement {z h i : Nat} (under : (s.session h).agreement = some i) :
    s.zoneReason z h = s.changeReasons (s.zoneAdd z i) (s.zoneRemove z i) h := by
  unfold State.zoneReason State.zoneAdd State.zoneRemove
  simp only [under]
  split <;> rfl

theorem Reasons.change_zone (r : Reasons) (z i : Nat) :
    r.change (s.zoneAdd z i) (s.zoneRemove z i) = { r with zone := !zoneIn z (s.agreement i).zones } := by
  unfold State.zoneAdd State.zoneRemove
  cases zoneIn z (s.agreement i).zones <;> simp [Reasons.change, Reasons.none, Reasons.onlyZone]

/-- The reasons of a session judged against a zone: ZONE as its agreement gives it, for a roaming session. -/
def State.zoneJudged (s : State) (z : Nat) (x : Session) : Reasons :=
  match x.agreement with
  | some i => { x.reasons with zone := !zoneIn z (s.agreement i).zones }
  | none => x.reasons

theorem State.rewrites_zoneReasons (canonical : s.sessions.wf Session.free Config.sessionCount = true) (z : Nat) :
    s.Rewrites (s.zoneReasons z)
      (fun k => if (s.session k).served = true ∧ (s.session k).agreement.isSome = true
        then (s.session k).judged (s.zoneJudged z (s.session k)) else s.session k)
      ((s.handlesOf fun x => x.served && x.agreement.isSome).flatMap fun h => (s.session h).told (s.zoneJudged z (s.session h)) h) := by
  have listedIff : ∀ h, h ∈ s.handlesOf (fun x => x.served && x.agreement.isSome) ↔
      (s.session h).served = true ∧ (s.session h).agreement.isSome = true := fun h => by
    rw [State.mem_handlesOf canonical rfl, Bool.and_eq_true]
  have fold := State.rewrites_foldl (s := s) (op := fun t h => t.zoneReason z h)
    (g := fun _ x => x.judged (s.zoneJudged z x)) (told := fun h x => x.told (s.zoneJudged z x) h)
    (State.nodup_handlesOf canonical fun x => x.served && x.agreement.isSome) fun t h listed sameAgreements same => by
      obtain ⟨served, roaming⟩ := (listedIff h).mp listed
      obtain ⟨i, under⟩ := Option.isSome_iff_exists.mp roaming
      have change : ((t.session h).reasons.change (t.zoneAdd z i) (t.zoneRemove z i)) = s.zoneJudged z (t.session h) := by
        rw [Reasons.change_zone, State.zoneJudged, same, under]
        simp [State.agreement, sameAgreements]
      have one := State.rewrites_changeReasons t (t.zoneAdd z i) (t.zoneRemove z i) h
      rw [Session.changed_of_served (same ▸ served), change] at one
      rwa [State.zoneReason_of_agreement (same ▸ under)]
  refine fold.congr fun k => ?_
  simp only [listedIff]

end Many

/-! ### The CREDIT changes (R39, R41) -/

theorem Reasons.change_credit (r : Reasons) (v : Nat) :
    r.change (if v = 0 then Reasons.onlyCredit else Reasons.none) (if v = 0 then Reasons.none else Reasons.onlyCredit) =
      { r with credit := v == 0 } := by
  by_cases zero : v = 0 <;> simp [zero, Reasons.change, Reasons.none, Reasons.onlyCredit]

/-- The occurrences of a value written to a prepaid account: E16 at zero, and the sessions it suspends or resumes. -/
def State.creditTold (s : State) (a v : Nat) : List (EventKind × Nat) :=
  (if v = 0 then [(.creditExhausted, a)] else [])
    ++ (s.sessionsOn a).flatMap fun h => (s.session h).told { (s.session h).reasons with credit := v == 0 } h

theorem State.mem_sessionsOn {s : State} (canonical : s.sessions.wf Session.free Config.sessionCount = true) {a h : Nat} :
    h ∈ s.sessionsOn a ↔ (s.session h).notFree = true ∧ (s.session h).account = a := by
  rw [State.sessionsOn, State.mem_handlesOf canonical rfl, Bool.and_eq_true, beq_iff_eq]

theorem State.rewrites_creditEffect {s : State} (canonical : s.sessions.wf Session.free Config.sessionCount = true) (a v : Nat) :
    s.Rewrites (s.creditEffect a v)
      (fun k => if (s.session k).served = true ∧ (s.session k).account = a
        then (s.session k).judged { (s.session k).reasons with credit := v == 0 } else s.session k)
      (s.creditTold a v) := by
  have once : (s.sessionsOn a).Nodup := State.nodup_handlesOf canonical _
  have change := fun x : Session => Reasons.change_credit x.reasons v
  have rewritten : s.Rewrites (s.creditEffect a v)
      (fun k => if k ∈ s.sessionsOn a then (s.session k).changed (if v = 0 then Reasons.onlyCredit else Reasons.none)
        (if v = 0 then Reasons.none else Reasons.onlyCredit) else s.session k) (s.creditTold a v) := by
    unfold State.creditEffect State.creditTold
    simp only [← change]
    by_cases zero : v = 0
    · simp only [zero, if_true]
      exact (State.rewrites_raise .creditExhausted a).trans
        (State.rewrites_changeReasonsOf (s.raise .creditExhausted a) Reasons.onlyCredit Reasons.none once)
    · simp only [zero, if_false]
      exact State.rewrites_changeReasonsOf s Reasons.none Reasons.onlyCredit once
  refine rewritten.congr fun k => ?_
  cases served : (s.session k).served with
  | false => simp [Session.changed_of_not_served served]
  | true => simp [State.mem_sessionsOn canonical, Session.notFree_of_served served, Session.changed_of_served served, change]

end Sys2Proof.Machine

/-! SUPPORT. The families of agreements and accounts (2): identities and codes found (R6, R29), the commands that write accounts
and agreements, the CREDIT changes and the debit. -/

namespace Sys2Proof.Machine

/-! ### Commands taken in RUNNING -/

/-- A command on a port that is listed for it acts by its rule, and its reply stands in the port's frame. -/
theorem State.command_eq {s : State} (running : s.power.supervisor = .running) {p : Port} {roles : List Port} (listed : p ∈ roles)
    (rule : State → State × Reply) :
    s.command p roles rule = (rule s).1.withFrame p (.answered (rule s).2.status (rule s).2.response) := by
  simp only [State.command, running, if_pos listed]
  rfl

/-! ### Identities and codes (R6, R29) -/

/-- A search whose hits are all one finds exactly its hit. -/
theorem head?_eq_some_iff_of_unique {l : List Nat} (unique : ∀ j ∈ l, ∀ k ∈ l, j = k) {h : Nat} : l.head? = some h ↔ h ∈ l := by
  cases l with
  | nil => simp
  | cons j rest =>
    refine ⟨List.mem_of_head? , fun listed => ?_⟩
    rw [unique h listed j List.mem_cons_self]
    rfl

section Search

variable {s : State}

theorem State.lookupIdentity_eq_some_iff (tables : s.TablesLaw) (law : s.SessionLaw) (x : IdentityWord) (h : Nat) :
    s.lookupIdentity x = some h ↔ (s.session h).state ≠ .free ∧ (s.session h).identity = x := by
  obtain ⟨canonical, -⟩ := tables
  obtain ⟨-, unique, -⟩ := law
  rw [Table.nodup_map_iff canonical] at unique
  have mem : ∀ k, k ∈ s.sessions.keys (fun r => r.notFree && r.identity == x) ↔
      (s.session k).state ≠ .free ∧ (s.session k).identity = x := fun k => by
    rw [Table.mem_keys canonical rfl, Bool.and_eq_true, beq_iff_eq, Session.notFree_iff]
    rfl
  have warm : ∀ k, (s.session k).state ≠ .free → s.session k ≠ Session.free := fun k state isFree => state (by rw [isFree]; rfl)
  rw [State.lookupIdentity, head?_eq_some_iff_of_unique, mem]
  intro j inJ k inK
  obtain ⟨stateJ, idJ⟩ := (mem j).mp inJ
  obtain ⟨stateK, idK⟩ := (mem k).mp inK
  exact unique j k (warm j stateJ) (warm k stateK) (idJ.trans idK.symm)

/-- A five-digit code is its five digits with 15 after them (R199). -/
theorem code_eq_of_five {c d : CodeWord} (validC : codeValid 5 c = true) (validD : codeValid 5 d = true)
    (same : c.extractLsb' 4 20 = d.extractLsb' 4 20) : c = d := by
  have low : ∀ e : CodeWord, codeValid 5 e = true → e.toNat % 16 = 15 := by
    intro e valid
    have last : halfByte e 6 5 = 15 := by simp_all [codeValid]
    simpa [halfByte, BitVec.extractLsb'_toNat] using last
  have high := congrArg BitVec.toNat same
  simp only [BitVec.extractLsb'_toNat, Nat.shiftRight_eq_div_pow] at high
  have := low c validC
  have := low d validD
  have := c.isLt
  have := d.isLt
  apply BitVec.eq_of_toNat_eq
  omega

theorem State.mem_matchOfLength (tables : s.TablesLaw) (len : Nat) (x : IdentityWord) (i : Nat) :
    i ∈ s.agreements.keys (fun g => g.state != .empty && g.codeLength == len && codeMatches len g.code x) ↔
      (s.agreement i).state ≠ .empty ∧ (s.agreement i).codeLength = len ∧ codeMatches len (s.agreement i).code x = true := by
  obtain ⟨-, canonical, -⟩ := tables
  rw [Table.mem_keys canonical rfl]
  simp [State.agreement, and_assoc]

theorem State.agreement_ne_emptied {i : Nat} (state : (s.agreement i).state ≠ .empty) :
    s.agreements.get Agreement.emptied i ≠ Agreement.emptied := fun emptied => state (by rw [State.agreement, emptied]; rfl)

/-- Agreements that are not EMPTY and hold one code are one (R30). -/
theorem State.agreement_unique (tables : s.TablesLaw) (law : s.PartyLaw) {i j : Nat} (stateI : (s.agreement i).state ≠ .empty)
    (stateJ : (s.agreement j).state ≠ .empty) (len : (s.agreement i).codeLength = (s.agreement j).codeLength)
    (code : (s.agreement i).code = (s.agreement j).code) : i = j := by
  obtain ⟨-, canonical, -⟩ := tables
  obtain ⟨-, unique, -⟩ := law
  rw [Table.nodup_map_filter_iff canonical] at unique
  exact unique i j (State.agreement_ne_emptied stateI) (State.agreement_ne_emptied stateJ) (by simpa [State.agreement] using stateI)
    (by simpa [State.agreement] using stateJ) (Prod.ext len code)

theorem State.codeValid_of_loaded (tables : s.TablesLaw) (law : s.LoadedLaw) {i : Nat} (state : (s.agreement i).state ≠ .empty) :
    codeValid (s.agreement i).codeLength (s.agreement i).code = true := by
  obtain ⟨-, canonical, -⟩ := tables
  obtain ⟨-, -, -, -, -, agreements, -⟩ := law
  exact ((Table.forall_entries canonical).mp agreements i (State.agreement_ne_emptied state)).2 state

theorem State.matchOfLength_eq_some_iff (tables : s.TablesLaw) (loaded : s.LoadedLaw) (law : s.PartyLaw) {len : Nat}
    (lengths : len = 5 ∨ len = 6) (x : IdentityWord) (i : Nat) :
    s.matchOfLength len x = some i ↔
      (s.agreement i).state ≠ .empty ∧ (s.agreement i).codeLength = len ∧ codeMatches len (s.agreement i).code x = true := by
  rw [State.matchOfLength, head?_eq_some_iff_of_unique, State.mem_matchOfLength tables]
  intro j inJ k inK
  obtain ⟨stateJ, lenJ, codeJ⟩ := (State.mem_matchOfLength tables len x j).mp inJ
  obtain ⟨stateK, lenK, codeK⟩ := (State.mem_matchOfLength tables len x k).mp inK
  refine State.agreement_unique tables law stateJ stateK (lenJ.trans lenK.symm) ?_
  obtain rfl | rfl := lengths
  · have validJ := State.codeValid_of_loaded tables loaded stateJ
    have validK := State.codeValid_of_loaded tables loaded stateK
    rw [lenJ] at validJ
    rw [lenK] at validK
    simp only [codeMatches, if_true, beq_iff_eq] at codeJ codeK
    exact code_eq_of_five validJ validK (codeJ.trans codeK.symm)
  · simp only [codeMatches, Nat.reduceEqDiff, if_false, beq_iff_eq] at codeJ codeK
    exact codeJ.trans codeK.symm

end Search

/-- Settles O17: identities and codes are held once, so a search finds exactly its hit. -/
theorem lookupAndLongestMatch : Obligations.LookupAndLongestMatch := by
  intro s x tables sessions loaded party
  refine ⟨State.lookupIdentity_eq_some_iff tables sessions x, fun i => ?_⟩
  have six := State.matchOfLength_eq_some_iff tables loaded party (.inr rfl) x
  have five := State.matchOfLength_eq_some_iff tables loaded party (.inl rfl) x
  simp only [codeMatches, Nat.reduceEqDiff, if_false, if_true, beq_iff_eq] at six five
  unfold State.matchAgreement
  cases found : s.matchOfLength 6 x with
  | some j =>
    obtain ⟨stateJ, lenJ, codeJ⟩ := (six j).mp found
    simp only [← found, six]
    constructor
    · rintro ⟨state, len, code⟩
      exact ⟨state, .inl ⟨len, code⟩⟩
    · rintro ⟨state, ⟨len, code⟩ | ⟨-, -, noSix⟩⟩
      · exact ⟨state, len, code⟩
      · exact absurd codeJ (noSix j stateJ lenJ)
  | none =>
    have noSix : ∀ j, (s.agreement j).state ≠ .empty → (s.agreement j).codeLength = 6 →
        (s.agreement j).code ≠ x.extractLsb' 40 24 := fun j state len code => by
      simp [(six j).mpr ⟨state, len, code⟩] at found
    simp only [five]
    constructor
    · rintro ⟨state, len, code⟩
      exact ⟨state, .inr ⟨len, code, noSix⟩⟩
    · rintro ⟨state, ⟨len, code⟩ | ⟨len, code, -⟩⟩
      · exact absurd code (noSix i state len)
      · exact ⟨state, len, code⟩

/-! ### The CREDIT changes -/

section Credit

variable {s t : State} {a v : Nat}

theorem State.mem_creditTold_reasons {e : EventKind × Nat} (kind : e.1 = .sessionSuspended ∨ e.1 = .sessionResumed) :
    e ∈ s.creditTold a v ↔
      e ∈ (s.sessionsOn a).flatMap fun h => (s.session h).told { (s.session h).reasons with credit := v == 0 } h := by
  have other : e ∉ (if v = 0 then [(EventKind.creditExhausted, a)] else []) := by
    split
    · obtain ⟨k, d⟩ := e
      obtain rfl | rfl := kind <;> simp
    · simp
  simp [State.creditTold, other]

theorem State.kind_of_mem_creditTold {e : EventKind × Nat} (listed : e ∈ s.creditTold a v) :
    e.1 = .sessionSuspended ∨ e.1 = .sessionResumed ∨ e.1 = .creditExhausted ∧ v = 0 := by
  obtain exhausted | told := List.mem_append.mp listed
  · split at exhausted
    next zero => simp_all
    next => cases exhausted
  · obtain ⟨-, ⟨kind, -⟩ | ⟨kind, -⟩⟩ := mem_flatMap_told.mp told <;> simp [kind]

/-- What a CREDIT change tells, after occurrences of other kinds than E14, E15 and E16 on unchanged sessions. -/
theorem State.tells_creditEffect {before : List (EventKind × Nat)} {w : State}
    (canonical : w.sessions.wf Session.free Config.sessionCount = true) (same : w.sessions = s.sessions)
    (run : w.router = s.router.occurs before)
    (quiet : ∀ e ∈ before, e.1 ≠ .sessionSuspended ∧ e.1 ≠ .sessionResumed ∧ e.1 ≠ .creditExhausted) :
    s.TellsReasons (w.creditEffect a v)
      ∧ (v = 0 → s.Latched (w.creditEffect a v) .creditExhausted)
      ∧ (v ≠ 0 → s.Unlatched (w.creditEffect a v) .creditExhausted) := by
  have effect := State.rewrites_creditEffect canonical a v
  have session : ∀ h, w.session h = s.session h := fun h => by rw [State.session, same, State.session]
  have run' : (w.creditEffect a v).router = s.router.occurs (before ++ w.creditTold a v) := by
    rw [effect.router, run, Router.occurs_append]
  refine ⟨?_, fun zero => ?_, fun positive => ?_⟩
  · refine State.tellsReasons_of_told (hs := w.sessionsOn a) (r := fun h => { (s.session h).reasons with credit := v == 0 })
      run' (fun e kind => ?_) (fun h listed served => ?_) fun h apart => ?_
    · have notBefore : e ∉ before := fun listed => kind.elim (quiet e listed).1 (quiet e listed).2.1
      rw [List.mem_append, State.mem_creditTold_reasons kind]
      simp [notBefore, session]
    · obtain ⟨-, account⟩ := (State.mem_sessionsOn canonical).mp listed
      rw [effect.session, if_pos ⟨by rwa [session], account⟩, session]
    · rw [effect.session, if_neg, session]
      rintro ⟨served, account⟩
      rw [State.mem_sessionsOn canonical] at apart
      obtain no | no := apart
      · exact no ⟨Session.notFree_of_served served, account⟩
      · simp [session, no] at served
  · exact State.latched_of_occurs run' (d := a) (by simp [State.creditTold, zero])
  · refine State.unlatched_of_occurs run' fun e listed same => ?_
    obtain listed | listed := List.mem_append.mp listed
    · exact (quiet e listed).2.2 same
    · obtain k | k | ⟨-, zero⟩ := State.kind_of_mem_creditTold listed
      · simp [same] at k
      · simp [same] at k
      · exact positive zero

end Credit

theorem State.writeAccount_of_prepaid (s : State) (a : Nat) {new : Account} (prepaid : new.kind = .prepaid) :
    s.writeAccount a new = (s.setAccount a new).creditEffect a new.value := by
  simp [State.writeAccount, prepaid]

theorem State.writeAccount_of_not_prepaid (s : State) (a : Nat) {new : Account} (other : new.kind ≠ .prepaid) :
    s.writeAccount a new = s.setAccount a new := by
  unfold State.writeAccount
  cases kind : new.kind <;> simp_all

/-- A write to the account table reaches sessions and ports, and no other record of the table. -/
theorem State.writeAccount_frame (s : State) (a : Nat) (new : Account) :
    ∃ x o, s.writeAccount a new = { s.setAccount a new with sessions := x, router := o } := by
  by_cases prepaid : new.kind = .prepaid
  · rw [State.writeAccount_of_prepaid s a prepaid]
    exact State.creditEffect_frame _ _ _
  · rw [State.writeAccount_of_not_prepaid s a prepaid]
    exact ⟨_, _, rfl⟩

theorem State.writeAccount_account (s : State) (a b : Nat) (new : Account) :
    (s.writeAccount a new).account b = if b = a then new else s.account b := by
  obtain ⟨x, o, written⟩ := State.writeAccount_frame s a new
  rw [written]
  exact State.setAccount_account s a b new

/-- Settles O20, from the rewriting of the account's sessions. -/
theorem creditFollowsValue : Obligations.CreditFollowsValue := by
  intro s a new tables _
  obtain ⟨canonical, -⟩ := tables
  refine ⟨by simp [State.writeAccount_account], fun b differ => by simp [State.writeAccount_account, differ], ?other, ?prepaid⟩
  case other =>
    intro kind
    rw [State.writeAccount_of_not_prepaid s a kind]
    rfl
  case prepaid =>
    intro kind
    have effect := State.rewrites_creditEffect (s := s.setAccount a new) canonical a new.value
    have tells := State.tells_creditEffect (s := s) (w := s.setAccount a new) (a := a) (v := new.value) (before := []) canonical rfl
      rfl (by simp)
    rw [State.writeAccount_of_prepaid s a kind]
    refine ⟨?_, effect.session, tells⟩
    rw [effect.frame]
    rfl

/-! ### The debit (2.8) -/

section Debit

variable {s : State} {a charge : Nat}

theorem State.debit_zero (s : State) (a : Nat) : s.debit a 0 = (s, 0, 0) := by simp [State.debit]

/-- The events of a prepaid account that falls to a value: E17 when that passes below the threshold (R42). -/
def Account.fallTold (c : Account) (a left : Nat) : List (EventKind × Nat) :=
  if c.threshold ≤ c.value ∧ left < c.threshold then [(.lowBalance, a)] else []

/-- A prepaid account after a fall of its value, before its sessions are told (R41, R42). -/
def State.fallen (s : State) (a left : Nat) : State :=
  { s with
    accounts := s.accounts.set Account.closed a { s.account a with value := left }
    router := s.router.occurs ((s.account a).fallTold a left) }

theorem State.debit_prepaid (prepaid : (s.account a).kind = .prepaid) (charged : charge ≠ 0) :
    s.debit a charge =
      (if (s.account a).value - min charge (s.account a).value = 0
        then (s.fallen a ((s.account a).value - min charge (s.account a).value)).creditEffect a 0
        else s.fallen a ((s.account a).value - min charge (s.account a).value),
        min charge (s.account a).value, charge - min charge (s.account a).value) := by
  unfold State.debit State.fallen Account.fallTold
  simp only [charged, if_false, prepaid]
  by_cases low : (s.account a).threshold ≤ (s.account a).value
      ∧ (s.account a).value - min charge (s.account a).value < (s.account a).threshold
  · simp only [low, if_true, and_self]
    rfl
  · simp only [low, if_false]
    rfl

theorem State.debit_settlement (settlement : (s.account a).kind = .settlement) (charged : charge ≠ 0) :
    s.debit a charge =
      (if min charge (Config.maxValue - (s.account a).value) < charge
        then (s.setAccount a { s.account a with
          value := (s.account a).value + min charge (Config.maxValue - (s.account a).value) }).raise .settlementSaturated a
        else s.setAccount a { s.account a with
          value := (s.account a).value + min charge (Config.maxValue - (s.account a).value) },
        min charge (Config.maxValue - (s.account a).value),
        charge - min charge (Config.maxValue - (s.account a).value)) := by
  simp only [State.debit, charged, if_false, settlement]

theorem State.debit_closed (closed : (s.account a).kind = .closed) (charged : charge ≠ 0) :
    s.debit a charge = (s, 0, charge) := by
  simp only [State.debit, charged, if_false, closed]

theorem Account.kind_of_mem_fallTold {c : Account} {left : Nat} {e : EventKind × Nat} (listed : e ∈ c.fallTold a left) :
    e = (.lowBalance, a) ∧ c.threshold ≤ c.value ∧ left < c.threshold := by
  unfold Account.fallTold at listed
  split at listed
  next low => exact ⟨List.mem_singleton.mp listed, low⟩
  next => cases listed

end Debit

/-- Settles O21, kind by kind of account. -/
theorem debitSplitsCharge : Obligations.DebitSplitsCharge := by
  rintro s a charge c t taken short ⟨canonical, -⟩ - rfl debited
  refine ⟨?nothing, ?prepaid, ?settlement⟩
  case nothing =>
    rintro rfl
    rw [State.debit_zero] at debited
    cases debited
    exact ⟨rfl, rfl, rfl⟩
  case prepaid =>
    intro charged prepaid
    rw [State.debit_prepaid prepaid charged] at debited
    injection debited with state amounts
    injection amounts with takenEq shortEq
    generalize leftEq : (s.account a).value - min charge (s.account a).value = left at state
    have leftTaken : (s.account a).value - taken = left := by rw [← takenEq, leftEq]
    have same : ∀ h, (s.fallen a left).session h = s.session h := fun _ => rfl
    have quiet : ∀ e ∈ (s.account a).fallTold a left,
        e.1 ≠ .sessionSuspended ∧ e.1 ≠ .sessionResumed ∧ e.1 ≠ .creditExhausted := fun e listed => by
      rw [(Account.kind_of_mem_fallTold listed).1]
      simp
    have account : ∀ b, (s.fallen a left).account b = if b = a then { s.account a with value := left } else s.account b :=
      fun b => State.setAccount_account s a b _
    rw [leftTaken]
    -- the parts that hold whether or not the value ends at zero
    have fallen : ∃ told x, t = { s.fallen a left with sessions := x, router := (s.fallen a left).router.occurs told }
        ∧ ∀ e ∈ told, e.1 ≠ .lowBalance := by
      by_cases zero : left = 0
      · rw [if_pos zero] at state
        have effect := State.rewrites_creditEffect (s := s.fallen a left) canonical a 0
        refine ⟨(s.fallen a left).creditTold a 0, _, state ▸ effect.frame, fun e listed => ?_⟩
        obtain k | k | ⟨k, -⟩ := State.kind_of_mem_creditTold listed <;> simp [k]
      · rw [if_neg zero] at state
        exact ⟨[], _, state.symm, by simp⟩
    obtain ⟨told, x, whole, notLow⟩ := fallen
    have run : t.router = s.router.occurs ((s.account a).fallTold a left ++ told) := by
      rw [whole, Router.occurs_append]
      rfl
    refine ⟨takenEq.symm, by omega, ?_, fun b differ => ?_, fun wasAbove nowBelow => ?_, fun still => ?_, ?_⟩
    · rw [whole]
      exact (account a).trans (if_pos rfl)
    · rw [whole]
      exact (account b).trans (if_neg differ)
    · exact State.latched_of_occurs run (d := a) (by simp [Account.fallTold, wasAbove, nowBelow])
    · refine State.unlatched_of_occurs run fun e listed kind => ?_
      obtain listed | listed := List.mem_append.mp listed
      · have := (Account.kind_of_mem_fallTold listed).2
        omega
      · exact notLow e listed kind
    · by_cases zero : left = 0
      · rw [if_pos zero] at state
        have effect := State.rewrites_creditEffect (s := s.fallen a left) canonical a 0
        obtain ⟨reasons, exhausted, -⟩ := State.tells_creditEffect (s := s) (w := s.fallen a left) (a := a) (v := 0) canonical rfl
          rfl quiet
        rw [← state]
        refine ⟨fun _ => exhausted rfl, fun no => absurd zero no, reasons, fun h => ?_, ?_⟩
        · rw [effect.session]
          simp only [zero, true_and, beq_self_eq_true]
          rfl
        · rw [effect.frame]
          rfl
      · rw [if_neg zero] at state
        subst state
        refine ⟨fun yes => absurd yes zero, fun _ => State.unlatched_of_occurs (l := (s.account a).fallTold a left) rfl
          fun e listed => (quiet e listed).2.2, ?_, fun h => ?_, rfl⟩
        · refine State.tellsReasons_of_told (hs := []) (r := fun h => (s.session h).reasons) (l := (s.account a).fallTold a left)
            rfl (fun e kind => ?_) (by simp) fun h _ => rfl
          have notListed : e ∉ (s.account a).fallTold a left := fun listed =>
            kind.elim (quiet e listed).1 (quiet e listed).2.1
          simp [notListed]
        · rw [if_neg fun both => zero both.1]
          exact same h
  case settlement =>
    intro charged settlement bounded
    rw [State.debit_settlement settlement charged] at debited
    injection debited with state amounts
    injection amounts with takenEq shortEq
    rw [takenEq] at state shortEq
    have shortIff : taken < charge ↔ short ≠ 0 := by omega
    have account : ∀ b, (s.setAccount a { s.account a with value := (s.account a).value + taken }).account b =
        if b = a then { s.account a with value := (s.account a).value + taken } else s.account b :=
      fun b => State.setAccount_account s a b _
    refine ⟨takenEq.symm, by omega, ?_⟩
    by_cases saturated : taken < charge
    · rw [if_pos saturated] at state
      subst state
      exact ⟨by simp, fun b differ => (account b).trans (if_neg differ), fun no => absurd no (shortIff.mp saturated), fun _ => rfl,
        rfl⟩
    · rw [if_neg saturated] at state
      subst state
      exact ⟨by simp, fun b differ => (account b).trans (if_neg differ), fun _ => rfl, fun no => absurd (shortIff.mpr no) saturated,
        rfl⟩

end Sys2Proof.Machine

/-! SUPPORT. What a parameter byte names (R198), and the commands that write agreements and accounts (2.3, 2.6, 2.7). -/

namespace Sys2Proof.Machine

/-! ### Parameter bytes -/

theorem byte_eq_iff (b : Byte) (n : Nat) (small : n < 256) : b = BitVec.ofNat 8 n ↔ b.toNat = n := by
  rw [BitVec.toNat_eq, BitVec.toNat_ofNat, Nat.mod_eq_of_lt small]

theorem byte_eq_zero_iff (b : Byte) : b = 0 ↔ b.toNat = 0 := byte_eq_iff b 0 (by decide)
theorem byte_eq_one_iff (b : Byte) : b = 1 ↔ b.toNat = 1 := byte_eq_iff b 1 (by decide)
theorem byte_eq_two_iff (b : Byte) : b = 2 ↔ b.toNat = 2 := byte_eq_iff b 2 (by decide)

@[simp] theorem boolOf_zero : boolOf 0 = some false := rfl
@[simp] theorem boolOf_one : boolOf 1 = some true := rfl

theorem boolOf_eq_none_iff {b : Byte} : boolOf b = none ↔ 2 ≤ b.toNat := by
  unfold boolOf
  simp only [byte_eq_zero_iff, byte_eq_one_iff]
  repeat' split
  all_goals simp; try omega

theorem byte_of_lt_two {b : Byte} (small : b.toNat < 2) : b = 0 ∨ b = 1 := by
  rw [byte_eq_zero_iff, byte_eq_one_iff]
  omega

theorem boolOf_of_lt {b : Byte} (small : b.toNat < 2) : boolOf b = some (b == 1) := by
  obtain rfl | rfl := byte_of_lt_two small <;> rfl

theorem accountKindOf_eq_none_iff {b : Byte} : accountKindOf b = none ↔ 2 < b.toNat := by
  unfold accountKindOf
  simp only [byte_eq_zero_iff, byte_eq_one_iff, byte_eq_two_iff]
  repeat' split
  all_goals simp; try omega

theorem linkKindOf_eq_none_iff {b : Byte} : linkKindOf b = none ↔ 3 ≤ b.toNat := by
  unfold linkKindOf
  simp only [byte_eq_zero_iff, byte_eq_one_iff, byte_eq_two_iff]
  repeat' split
  all_goals simp; try omega

theorem policyOf_eq_none_iff {b : Byte} : policyOf b = none ↔ 2 ≤ b.toNat := by
  unfold policyOf
  simp only [byte_eq_zero_iff, byte_eq_one_iff]
  repeat' split
  all_goals simp; try omega

theorem agreementStateOf_eq_none_iff {b : Byte} : agreementStateOf b = none ↔ 2 < b.toNat := by
  unfold agreementStateOf
  simp only [byte_eq_zero_iff, byte_eq_one_iff, byte_eq_two_iff]
  repeat' split
  all_goals simp; try omega

theorem handleOf_of_lt {h : Half} (inside : h.toNat < Config.sessionCount) : handleOf h = some h.toNat := if_pos inside
theorem handleOf_of_le {h : Half} (beyond : Config.sessionCount ≤ h.toNat) : handleOf h = none := if_neg (by omega)
theorem zoneOf_of_lt {b : Byte} (inside : b.toNat < 16) : zoneOf b = some b.toNat := if_pos inside
theorem zoneOf_of_le {b : Byte} (beyond : 16 ≤ b.toNat) : zoneOf b = none := if_neg (Nat.not_lt.mpr beyond)
theorem agreementOf_of_lt {b : Byte} (inside : b.toNat < 64) : agreementOf b = some b.toNat := if_pos inside
theorem agreementOf_of_le {b : Byte} (beyond : 64 ≤ b.toNat) : agreementOf b = none := if_neg (Nat.not_lt.mpr beyond)
theorem slotOf_of_le {b : Byte} (beyond : 6 ≤ b.toNat) : slotOf b = none := dif_neg (Nat.not_lt.mpr beyond)

theorem slotOf_of_val {b : Byte} {i : Slot} (named : b.toNat = i.val) : slotOf b = some i := by
  have inside : b.toNat < 6 := named ▸ i.isLt
  rw [slotOf, dif_pos inside]
  exact congrArg some (Fin.ext named)

/-! ### Account set and Account adjust -/

section Accounts

variable {s : State} {index kind sign plan : Byte} {value threshold magnitude : Value48}

/-- The record an *Account set* writes (R38). -/
theorem Account.written_eq (a : Account) (k : AccountKind) (v t p : Nat) :
    a.written k v t p = ⟨k, if k = .closed then 0 else v, if k = .prepaid then t else 0, if k = .prepaid then p else 0, a.count⟩ := by
  cases k <;> rfl

theorem exec_accountSet (running : s.power.supervisor = .running) :
    exec (.accountSet .purser index kind value threshold plan) s = .next (
      match accountKindOf kind with
      | none => s.withFrame .purser (.answered .badParam [])
      | some k =>
        if 7 < plan.toNat then s.withFrame .purser (.answered .badParam [])
        else if k ≠ (s.account index.toNat).kind ∧ ((s.account index.toNat).count ≠ 0 ∨ s.agreementsNaming index.toNat ≠ 0) then
          s.withFrame .purser (.answered .busy [])
        else (s.writeAccount index.toNat ((s.account index.toNat).written k value.toNat threshold.toNat plan.toNat)).withFrame .purser
          (.answered .ok (beBytes 6 (s.account index.toNat).value))) := by
  change execAccountSet .purser index kind value threshold plan s = _
  rw [execAccountSet, State.command_eq running (by simp)]
  cases accountKindOf kind with
  | none => rfl
  | some k =>
    dsimp only
    repeat' split
    all_goals rfl

theorem exec_accountAdjust (running : s.power.supervisor = .running) :
    exec (.accountAdjust .purser index sign magnitude) s = .next (
      match boolOf sign with
      | none => s.withFrame .purser (.answered .badParam [])
      | some minus =>
        if Config.maxDelta < magnitude.toNat then s.withFrame .purser (.answered .badParam [])
        else if (s.account index.toNat).kind = .closed then s.withFrame .purser (.answered .notFound [])
        else (s.adjustAccount index.toNat minus magnitude.toNat).withFrame .purser
          (.answered (clampStatus (decide (adjusted (s.account index.toNat).value minus magnitude.toNat
            ≠ adjustClamped (s.account index.toNat).value minus magnitude.toNat)))
            (beBytes 6 (s.account index.toNat).value))) := by
  change execAccountAdjust .purser index sign magnitude s = _
  rw [execAccountAdjust, State.command_eq running (by simp)]
  cases boolOf sign with
  | none => rfl
  | some minus =>
    dsimp only
    split
    · rfl
    · cases kind : (s.account index.toNat).kind <;> simp [Reply.bare]

theorem adjustClamped_minus (v m : Nat) (bounded : v ≤ Config.maxValue) : adjustClamped v true m = v - m := by
  simp only [adjustClamped, adjusted, if_true]
  omega

theorem adjustClamped_plus (v m : Nat) : adjustClamped v false m = min Config.maxValue (v + m) := by
  simp only [adjustClamped, adjusted, Bool.false_eq_true, if_false]
  omega

theorem adjust_clamped_iff (v m : Nat) (minus : Bool) (bounded : v ≤ Config.maxValue) :
    adjusted v minus m ≠ adjustClamped v minus m ↔ if minus then v < m else Config.maxValue < v + m := by
  cases minus
  · rw [adjustClamped_plus, adjusted, if_neg (by simp), if_neg (by simp)]
    omega
  · rw [adjustClamped_minus _ _ bounded, adjusted, if_pos rfl, if_pos rfl]
    omega

end Accounts

/-- Settles O19, check by check. -/
theorem accountCommandsWrite : Obligations.AccountCommandsWrite := by
  rintro s index kind sign value threshold magnitude plan a running rfl
  refine ⟨fun refused => ?_, fun k named planOk => ⟨fun differ held => ?_, fun free => ?_⟩, fun refused => ?_,
    fun signOk small => ⟨fun closed => ?_, fun notClosed bounded => ⟨fun nothing => ?_, fun nonzero minus => ?_, fun nonzero plus => ?_⟩⟩⟩
  · rw [exec_accountSet running]
    obtain beyond | beyond := refused
    · rw [accountKindOf_eq_none_iff.mpr beyond]
    · cases accountKindOf kind <;> simp [beyond]
  · rw [exec_accountSet running, named]
    simp [Nat.not_lt.mpr planOk, differ, held]
  · rw [exec_accountSet running, named]
    have notBusy : ¬ (k ≠ (s.account index.toNat).kind
        ∧ ((s.account index.toNat).count ≠ 0 ∨ s.agreementsNaming index.toNat ≠ 0)) := by tauto
    simp only [Nat.not_lt.mpr planOk, if_false, if_neg notBusy, Account.written_eq]
  · rw [exec_accountAdjust running]
    obtain beyond | beyond := refused
    · rw [boolOf_eq_none_iff.mpr beyond]
    · cases boolOf sign <;> simp [beyond]
  · rw [exec_accountAdjust running, boolOf_of_lt signOk]
    simp [Nat.not_lt.mpr small, closed]
  · rw [exec_accountAdjust running, boolOf_of_lt signOk]
    have zero : magnitude.toNat = 0 := by simp [nothing]
    have exactly := adjust_clamped_iff (s.account index.toNat).value 0 (sign == 1) bounded
    have notClamped : ¬ (if (sign == 1) = true then (s.account index.toNat).value < 0
        else Config.maxValue < (s.account index.toNat).value + 0) := by split <;> omega
    simp only [zero, Nat.not_lt_zero, if_false, notClosed, State.adjustAccount, if_true]
    rw [decide_eq_false (mt exactly.mp notClamped)]
    rfl
  all_goals
    have positive : magnitude.toNat ≠ 0 := fun zero => nonzero (BitVec.eq_of_toNat_eq (by simpa using zero))
  · rw [exec_accountAdjust running, minus]
    simp only [boolOf_one, Nat.not_lt.mpr small, if_false, notClosed, State.adjustAccount, positive]
    simp only [adjust_clamped_iff _ _ true bounded, if_true]
    simp only [adjustClamped_minus _ _ bounded, clampStatus, decide_eq_true_eq]
  · rw [exec_accountAdjust running, plus]
    simp only [boolOf_zero, Nat.not_lt.mpr small, if_false, notClosed, State.adjustAccount, positive]
    simp only [adjust_clamped_iff _ _ false bounded, Bool.false_eq_true, if_false]
    simp only [adjustClamped_plus, clampStatus, decide_eq_true_eq]

/-! ### Load agreement -/

section LoadAgreement

variable {s : State}

theorem State.codeTaken_iff (tables : s.TablesLaw) (i len : Nat) (code : CodeWord) :
    s.codeTaken i len code = true ↔
      ∃ j, j ≠ i ∧ (s.agreement j).state ≠ .empty ∧ (s.agreement j).codeLength = len ∧ (s.agreement j).code = code := by
  obtain ⟨-, canonical, -⟩ := tables
  simp only [State.codeTaken, List.any_eq_true, bne_iff_ne]
  have mem : ∀ j, j ∈ s.agreements.keys (fun g => g.state != .empty && g.codeLength == len && g.code == code) ↔
      (s.agreement j).state ≠ .empty ∧ (s.agreement j).codeLength = len ∧ (s.agreement j).code = code := fun j => by
    rw [Table.mem_keys canonical rfl]
    simp [State.agreement, and_assoc]
  simp only [mem]
  exact exists_congr fun j => and_comm

/-- The reasons a load leaves a session under the agreement (R32, R33). -/
def State.reloadReasons (s : State) (old new : Agreement) (r : Reasons) : Reasons :=
  { r with
    agreement :=
      if old.state = .opened ∧ new.state = .suspended then true
      else if old.state = .suspended ∧ new.state = .opened then false else r.agreement
    zone :=
      match s.coverage.zone with
      | some z => if old.state = .empty ∨ old.zones = new.zones then r.zone else !zoneIn z new.zones
      | none => r.zone }

theorem State.change_loadReasons (s : State) (old new : Agreement) (r : Reasons) :
    r.change (s.loadReasons old new).1 (s.loadReasons old new).2 = s.reloadReasons old new r := by
  unfold State.loadReasons State.reloadReasons Reasons.change
  cases old.state <;> cases new.state <;> cases s.coverage.zone with
  | none => simp [beq_eq_decide]
  | some z => by_cases same : old.zones = new.zones <;> cases bit : zoneIn z new.zones <;> simp [same, bit, beq_eq_decide]

theorem Reasons.change_of_empty {add remove : Reasons} (r : Reasons) (noAdd : add.isEmpty = true)
    (noRemove : remove.isEmpty = true) : r.change add remove = r := by
  rw [Reasons.isEmpty_iff] at noAdd noRemove
  simp [noAdd, noRemove, Reasons.change, Reasons.none]

/-- A lawful session's state is as its reasons judge it already (R1). -/
theorem Session.judged_self {x : Session} (served : x.served = true) (active : x.state = .active → x.reasons = Reasons.none)
    (suspended : x.state = .suspended → x.reasons ≠ Reasons.none) : x.judged x.reasons = x := by
  obtain ⟨state, identity, basis, agreement, account, plan, reasons⟩ := x
  rw [Session.served_iff] at served
  obtain rfl | rfl | rfl := served <;> simp_all [Session.judged]

theorem State.mem_sessionsUnder (canonical : s.sessions.wf Session.free Config.sessionCount = true) {i h : Nat} :
    h ∈ s.sessionsUnder i ↔ (s.session h).notFree = true ∧ (s.session h).agreement = some i := by
  rw [State.sessionsUnder, State.mem_handlesOf canonical rfl, Bool.and_eq_true, beq_iff_eq]

theorem State.rewrites_loadAgreement (canonical : s.sessions.wf Session.free Config.sessionCount = true)
    (lawful : ∀ h, (s.session h).served = true → (s.session h).judged (s.session h).reasons = s.session h) (i : Nat)
    (new : Agreement) :
    (s.setAgreement i new).Rewrites (s.loadAgreement i new)
      (fun h => if (s.session h).served = true ∧ (s.session h).agreement = some i
        then (s.session h).judged (s.reloadReasons (s.agreement i) new (s.session h).reasons) else s.session h)
      ((s.sessionsUnder i).flatMap fun h => (s.session h).told (s.reloadReasons (s.agreement i) new (s.session h).reasons) h) := by
  have many := State.rewrites_changeReasonsOf (s.setAgreement i new) (s.loadReasons (s.agreement i) new).1
    (s.loadReasons (s.agreement i) new).2 (State.nodup_handlesOf canonical fun x => x.notFree && x.agreement == some i)
  have each : ∀ h, (if h ∈ s.sessionsUnder i then (s.session h).changed (s.loadReasons (s.agreement i) new).1
      (s.loadReasons (s.agreement i) new).2 else s.session h) =
      if (s.session h).served = true ∧ (s.session h).agreement = some i
        then (s.session h).judged (s.reloadReasons (s.agreement i) new (s.session h).reasons) else s.session h := fun h => by
    cases served : (s.session h).served with
    | false => simp [Session.changed_of_not_served served]
    | true =>
      simp [State.mem_sessionsUnder canonical, Session.notFree_of_served served, Session.changed_of_served served,
        State.change_loadReasons]
  unfold State.loadAgreement
  dsimp only
  split
  next nothing =>
    obtain ⟨noAdd, noRemove⟩ := Bool.and_eq_true_iff.mp nothing
    have same : ∀ r : Reasons, s.reloadReasons (s.agreement i) new r = r := fun r => by
      rw [← State.change_loadReasons, Reasons.change_of_empty r noAdd noRemove]
    have quiet : ((s.sessionsUnder i).flatMap fun h =>
        (s.session h).told (s.reloadReasons (s.agreement i) new (s.session h).reasons) h) = [] := by
      refine List.flatMap_eq_nil_iff.mpr fun h _ => List.eq_nil_iff_forall_not_mem.mpr fun e listed => ?_
      rw [same, Session.mem_told] at listed
      cases served : (s.session h).served with
      | false =>
        rw [Session.served_eq_false_iff] at served
        obtain state | state := served <;> simp [state] at listed
      | true =>
        rw [lawful h served] at listed
        obtain ⟨-, was, now⟩ | ⟨-, was, now⟩ := listed <;> simp [was] at now
    rw [quiet]
    refine (State.Rewrites.refl _).congr fun h => ?_
    rw [same]
    split
    next both => exact (lawful h both.1).symm
    next => rfl
  next =>
    simp only [State.setAgreement_session, State.change_loadReasons] at many
    exact many.congr each

theorem State.judged_reasons_of_law (canonical : s.sessions.wf Session.free Config.sessionCount = true) (law : s.SessionLaw)
    {h : Nat} (served : (s.session h).served = true) : (s.session h).judged (s.session h).reasons = s.session h := by
  obtain ⟨lawful, -⟩ := law
  have warm : s.session h ≠ Session.free := fun isFree => by simp [isFree] at served
  obtain ⟨-, active, suspended, -⟩ := (Table.forall_entries canonical).mp lawful h warm
  exact Session.judged_self served active suspended

theorem agreementStateOf_of_ne_zero {b : Byte} (nonzero : b ≠ 0) (small : b.toNat ≤ 2) :
    agreementStateOf b = some (if b = 1 then .opened else .suspended) := by
  unfold agreementStateOf
  rw [if_neg nonzero]
  split
  · rfl
  next notOne =>
    rw [ne_eq, byte_eq_zero_iff] at nonzero
    rw [byte_eq_one_iff] at notOne
    rw [if_pos ((byte_eq_two_iff b).mpr (by omega))]

/-- The checks of R30 for a state that is not EMPTY. -/
abbrev State.loadChecks (s : State) (i len : Nat) (code : CodeWord) (plan account : Nat) : Prop :=
  codeValid len code = true ∧ plan ≤ 7 ∧ (s.account account).kind = .settlement ∧ s.codeTaken i len code = false

theorem exec_loadAgreement (running : s.power.supervisor = .running) {index state len plan account : Byte} {code : CodeWord}
    {zones : Half} (inside : index.toNat < 64) :
    exec (.loadAgreement .purser index state len code zones plan account) s =
      .next (
      if state = 0 then
        if (s.agreement index.toNat).count = 0 then
          (s.setAgreement index.toNat Agreement.emptied).withFrame .purser (.answered .ok [])
        else s.withFrame .purser (.answered .busy [])
      else
        match agreementStateOf state with
        | none => s.withFrame .purser (.answered .badParam [])
        | some st =>
          if s.loadChecks index.toNat len.toNat code plan.toNat account.toNat then
            if (s.agreement index.toNat).state ≠ .empty ∧ (s.agreement index.toNat).count ≠ 0
                ∧ ((s.agreement index.toNat).codeLength ≠ len.toNat ∨ (s.agreement index.toNat).code ≠ code
                  ∨ (s.agreement index.toNat).account ≠ account.toNat) then
              s.withFrame .purser (.answered .busy [])
            else (s.loadAgreement index.toNat
              ⟨st, len.toNat, code, zones, plan.toNat, account.toNat, (s.agreement index.toNat).count⟩).withFrame .purser
                (.answered .ok [])
          else s.withFrame .purser (.answered .badParam [])) := by
  change execLoadAgreement .purser index state len code zones plan account s = _
  rw [execLoadAgreement, State.command_eq running (by simp)]
  unfold State.loadChecks
  simp only [agreementOf_of_lt inside]
  split
  · split <;> rfl
  · cases agreementStateOf state with
    | none => rfl
    | some st =>
      dsimp only
      split
      · split <;> rfl
      · rfl

end LoadAgreement

/-- Settles O18: the checks in order, and the rewriting of the sessions under the agreement. -/
theorem loadAgreementChecksAndSends : Obligations.LoadAgreementChecksAndSends := by
  rintro s index state len code zones plan account old tables law running rfl
  have canonical := tables.1
  refine ⟨fun beyond => ?_, fun inside => ⟨fun zero held => ?_, fun zero free => ?_, fun nonzero => ⟨fun refused => ?_,
    fun small valid planOk settles fresh => ⟨fun notEmpty held differ => ?_, fun free => ?_⟩⟩⟩⟩
  · change execLoadAgreement .purser index state len code zones plan account s = _
    rw [execLoadAgreement, State.command_eq running (by simp)]
    simp only [agreementOf_of_le beyond]
    rfl
  · rw [exec_loadAgreement running inside, if_pos zero, if_neg held]
  · rw [exec_loadAgreement running inside, if_pos zero, if_pos free]
  · rw [exec_loadAgreement running inside, if_neg nonzero]
    cases named : agreementStateOf state with
    | none => rfl
    | some st =>
      have notBeyond : ¬ 2 < state.toNat := fun beyond => by simp [agreementStateOf_eq_none_iff.mpr beyond] at named
      have fails : ¬ s.loadChecks index.toNat len.toNat code plan.toNat account.toNat := by
        rintro ⟨valid, planOk, settles, free⟩
        rw [← State.codeTaken_iff tables] at refused
        simp [notBeyond, valid, settles, free] at refused
        omega
      simp only [fails, if_false]
  all_goals
    have checks : s.loadChecks index.toNat len.toNat code plan.toNat account.toNat := by
      refine ⟨valid, planOk, settles, Bool.eq_false_iff.mpr fun taken => ?_⟩
      obtain ⟨j, other, state, lenSame, codeSame⟩ := (State.codeTaken_iff tables _ _ _).mp taken
      exact fresh j other state lenSame codeSame
  · rw [exec_loadAgreement running inside, if_neg nonzero, agreementStateOf_of_ne_zero nonzero small]
    dsimp only
    rw [if_pos checks, if_pos ⟨notEmpty, held, differ⟩]
  · have notBusy : ¬ ((s.agreement index.toNat).state ≠ .empty ∧ (s.agreement index.toNat).count ≠ 0
        ∧ ((s.agreement index.toNat).codeLength ≠ len.toNat ∨ (s.agreement index.toNat).code ≠ code
          ∨ (s.agreement index.toNat).account ≠ account.toNat)) := by tauto
    rw [exec_loadAgreement running inside, if_neg nonzero, agreementStateOf_of_ne_zero nonzero small]
    dsimp only
    rw [if_pos checks, if_neg notBusy]
    have lawful := fun h (served : (s.session h).served = true) => State.judged_reasons_of_law canonical law served
    generalize newEq : (⟨if state = 1 then .opened else .suspended, len.toNat, code, zones, plan.toNat, account.toNat,
      (s.agreement index.toNat).count⟩ : Agreement) = new
    have rewritten := State.rewrites_loadAgreement canonical lawful index.toNat new
    have isOne : state = 1 → state ≠ 2 := by rintro rfl; decide
    have reloaded : ∀ r, s.reloadReasons (s.agreement index.toNat) new r = { r with
        agreement :=
          if (s.agreement index.toNat).state = .opened ∧ state = 2 then true
          else if (s.agreement index.toNat).state = .suspended ∧ state = 1 then false else r.agreement
        zone :=
          match s.coverage.zone with
          | some z => if (s.agreement index.toNat).state = .empty ∨ (s.agreement index.toNat).zones = zones then r.zone
            else !zoneIn z zones
          | none => r.zone } := fun r => by
      have isTwo : state ≠ 1 → state = 2 := fun notOne => by
        rw [ne_eq, byte_eq_one_iff, byte_eq_zero_iff, byte_eq_two_iff] at *
        omega
      subst newEq
      by_cases one : state = 1
      · simp [State.reloadReasons, one]
      · simp [State.reloadReasons, isTwo one]
    have judged : ∀ h, (s.loadAgreement index.toNat new).session h = _ := rewritten.session
    refine ⟨_, rfl, ?_, ?_, fun j other => ?_, ?_, fun h => ?_⟩
    · conv_lhs => rw [rewritten.frame]
      rw [rewritten.frame]
      rfl
    · rw [State.agreement, rewritten.agreements]
      exact State.setAgreement_agreement_same s _ new
    · rw [State.agreement, rewritten.agreements]
      exact (State.setAgreement_agreement s _ j new).trans (if_neg other)
    · refine State.tellsReasons_of_told (hs := s.sessionsUnder index.toNat)
        (r := fun h => s.reloadReasons (s.agreement index.toNat) new (s.session h).reasons) rewritten.router (fun _ _ => Iff.rfl)
        (fun h listed served => ?_) fun h apart => ?_
      · rw [State.mem_sessionsUnder canonical] at listed
        rw [judged, if_pos ⟨served, listed.2⟩]
      · rw [judged, if_neg]
        rintro ⟨served, under⟩
        rw [State.mem_sessionsUnder canonical] at apart
        obtain no | no := apart
        · exact no ⟨Session.notFree_of_served served, under⟩
        · simp [no] at served
    · exact (judged h).trans (by rw [reloaded] <;> rfl)

end Sys2Proof.Machine

/-! SUPPORT. The passage of time: what the periods that pass leave unchanged, and that they keep every law. -/

namespace Sys2Proof.Machine

section Elapse

variable {s : State} {n : Nat}

/-! ### What passing time changes -/

theorem State.mainRuns_iff : s.mainRuns = true ↔ s.power.supervisor = .running ∨ s.power.supervisor = .flushed := by
  unfold State.mainRuns
  cases s.power.supervisor <;> simp

theorem State.mainRuns_of_running (running : s.power.supervisor = .running) : s.mainRuns = true :=
  State.mainRuns_iff.mpr (.inl running)

theorem State.clockRuns_of_mainRuns (runs : s.mainRuns = true) : s.clockRuns = true := by
  obtain running | flushed := State.mainRuns_iff.mp runs
  · simp [State.clockRuns, running]
  · simp [State.clockRuns, flushed]

theorem State.elapse_of_runs (runs : s.mainRuns = true) :
    s.elapse n = { s with
      clock := s.clock.pass n
      rating := { s.rating with settleTimer := passTimer n s.rating.settleTimer }
      sweep := { s.sweep with timer := passTimer n s.sweep.timer }
      coverage := s.coverage.pass n
      bridge := s.bridge.pass n
      links := s.links.map (Link.pass n)
      selector := s.selector.pass n
      router := s.router.pass n } := by
  unfold State.elapse
  have still : ({ s with clock := s.clock.pass n } : State).mainRuns = true := runs
  simp only [State.clockRuns_of_mainRuns runs, if_true, still]

/-- Time that passes outside the main domain's running reaches the clock's count and the time since INITIALIZING alone. -/
theorem State.elapse_of_stops (stops : s.mainRuns = false) :
    ∃ c i, s.elapse n = { s with clock := { s.clock with subSecond := c }, power := { s.power with initTime := i } } := by
  unfold State.elapse
  have still : ∀ c : Clock, ({ s with clock := c } : State).mainRuns = false := fun _ => stops
  by_cases counts : s.clockRuns = true
  · simp only [counts, if_true, still, Bool.false_eq_true, if_false]
    split
    · exact ⟨s.clock.subSecond + n, s.power.initTime + n, rfl⟩
    · exact ⟨s.clock.subSecond + n, s.power.initTime, rfl⟩
  · simp only [counts, Bool.false_eq_true, if_false, stops]
    split
    · exact ⟨s.clock.subSecond, s.power.initTime + n, rfl⟩
    · exact ⟨s.clock.subSecond, s.power.initTime, rfl⟩

/-- A field that neither the timers nor the clock's count belong to is as it was. -/
theorem State.elapse_frame (s : State) (n : Nat) :
    ∃ c i r w v b l k o, s.elapse n = { s with
      clock := { s.clock with subSecond := c }, power := { s.power with initTime := i }
      rating := { s.rating with settleTimer := r }, sweep := { s.sweep with timer := w }, coverage := v, bridge := b, links := l
      selector := k, router := o } := by
  cases runs : s.mainRuns with
  | true => exact ⟨_, s.power.initTime, _, _, _, _, _, _, _, State.elapse_of_runs runs⟩
  | false =>
    obtain ⟨c, i, passed⟩ := State.elapse_of_stops (n := n) runs
    exact ⟨c, i, s.rating.settleTimer, s.sweep.timer, s.coverage, s.bridge, s.links, s.selector, s.router, passed⟩

@[simp] theorem State.elapse_pins : (s.elapse n).pins = s.pins := by
  obtain ⟨_, _, _, _, _, _, _, _, _, passed⟩ := s.elapse_frame n
  rw [passed]
@[simp] theorem State.elapse_tariff : (s.elapse n).tariff = s.tariff := by
  obtain ⟨_, _, _, _, _, _, _, _, _, passed⟩ := s.elapse_frame n
  rw [passed]
@[simp] theorem State.elapse_zones : (s.elapse n).zones = s.zones := by
  obtain ⟨_, _, _, _, _, _, _, _, _, passed⟩ := s.elapse_frame n
  rw [passed]
@[simp] theorem State.elapse_linkConfig : (s.elapse n).linkConfig = s.linkConfig := by
  obtain ⟨_, _, _, _, _, _, _, _, _, passed⟩ := s.elapse_frame n
  rw [passed]
@[simp] theorem State.elapse_agreements : (s.elapse n).agreements = s.agreements := by
  obtain ⟨_, _, _, _, _, _, _, _, _, passed⟩ := s.elapse_frame n
  rw [passed]
@[simp] theorem State.elapse_accounts : (s.elapse n).accounts = s.accounts := by
  obtain ⟨_, _, _, _, _, _, _, _, _, passed⟩ := s.elapse_frame n
  rw [passed]
@[simp] theorem State.elapse_queue : (s.elapse n).queue = s.queue := by
  obtain ⟨_, _, _, _, _, _, _, _, _, passed⟩ := s.elapse_frame n
  rw [passed]
@[simp] theorem State.elapse_params : (s.elapse n).params = s.params := by
  obtain ⟨_, _, _, _, _, _, _, _, _, passed⟩ := s.elapse_frame n
  rw [passed]
@[simp] theorem State.elapse_backupValid : (s.elapse n).backupValid = s.backupValid := by
  obtain ⟨_, _, _, _, _, _, _, _, _, passed⟩ := s.elapse_frame n
  rw [passed]
@[simp] theorem State.elapse_period : (s.elapse n).period = s.period := by
  obtain ⟨_, _, _, _, _, _, _, _, _, passed⟩ := s.elapse_frame n
  rw [passed]
@[simp] theorem State.elapse_sessions : (s.elapse n).sessions = s.sessions := by
  obtain ⟨_, _, _, _, _, _, _, _, _, passed⟩ := s.elapse_frame n
  rw [passed]
@[simp] theorem State.elapse_owed : (s.elapse n).owed = s.owed := by
  obtain ⟨_, _, _, _, _, _, _, _, _, passed⟩ := s.elapse_frame n
  rw [passed]
@[simp] theorem State.elapse_pending : (s.elapse n).pending = s.pending := by
  obtain ⟨_, _, _, _, _, _, _, _, _, passed⟩ := s.elapse_frame n
  rw [passed]
@[simp] theorem State.elapse_supervisor : (s.elapse n).power.supervisor = s.power.supervisor := by
  obtain ⟨_, _, _, _, _, _, _, _, _, passed⟩ := s.elapse_frame n
  rw [passed]
@[simp] theorem State.elapse_flushing : (s.elapse n).power.flushing = s.power.flushing := by
  obtain ⟨_, _, _, _, _, _, _, _, _, passed⟩ := s.elapse_frame n
  rw [passed]
@[simp] theorem State.elapse_calendar : (s.elapse n).clock.calendar = s.clock.calendar := by
  obtain ⟨_, _, _, _, _, _, _, _, _, passed⟩ := s.elapse_frame n
  rw [passed]
@[simp] theorem State.elapse_notSet : (s.elapse n).clock.notSet = s.clock.notSet := by
  obtain ⟨_, _, _, _, _, _, _, _, _, passed⟩ := s.elapse_frame n
  rw [passed]
@[simp] theorem State.elapse_inForce : (s.elapse n).rating.inForce = s.rating.inForce := by
  obtain ⟨_, _, _, _, _, _, _, _, _, passed⟩ := s.elapse_frame n
  rw [passed]
@[simp] theorem State.elapse_pendingContext : (s.elapse n).rating.pendingContext = s.rating.pendingContext := by
  obtain ⟨_, _, _, _, _, _, _, _, _, passed⟩ := s.elapse_frame n
  rw [passed]

@[simp] theorem State.elapse_session (h : Nat) : (s.elapse n).session h = s.session h := by simp [State.session]
@[simp] theorem State.elapse_account (a : Nat) : (s.elapse n).account a = s.account a := by simp [State.account]
@[simp] theorem State.elapse_agreement (i : Nat) : (s.elapse n).agreement i = s.agreement i := by simp [State.agreement]
@[simp] theorem State.elapse_zoneRecord (z : Nat) : (s.elapse n).zoneRecord z = s.zoneRecord z := by simp [State.zoneRecord]
@[simp] theorem State.elapse_mainRuns : (s.elapse n).mainRuns = s.mainRuns := by simp [State.mainRuns]

/-- The link of a slot after some periods, while the main domain runs. -/
theorem State.elapse_link (runs : s.mainRuns = true) (i : Slot) : (s.elapse n).link i = (s.link i).pass n := by
  rw [State.elapse_of_runs runs]
  exact Slots.get_map _ _ i

theorem State.elapse_coverage (runs : s.mainRuns = true) : (s.elapse n).coverage = s.coverage.pass n := by
  rw [State.elapse_of_runs runs]

theorem State.elapse_bridge (runs : s.mainRuns = true) : (s.elapse n).bridge = s.bridge.pass n := by
  rw [State.elapse_of_runs runs]

theorem State.elapse_selector (runs : s.mainRuns = true) : (s.elapse n).selector = s.selector.pass n := by
  rw [State.elapse_of_runs runs]

theorem State.elapse_rating (runs : s.mainRuns = true) :
    (s.elapse n).rating = { s.rating with settleTimer := passTimer n s.rating.settleTimer } := by
  rw [State.elapse_of_runs runs]

theorem State.elapse_sweep (runs : s.mainRuns = true) :
    (s.elapse n).sweep = { s.sweep with timer := passTimer n s.sweep.timer } := by
  rw [State.elapse_of_runs runs]

theorem State.elapse_clock (runs : s.mainRuns = true) : (s.elapse n).clock = s.clock.pass n := by
  rw [State.elapse_of_runs runs]

theorem State.elapse_port (runs : s.mainRuns = true) (p : Port) : (s.elapse n).port p = (s.port p).pass n := by
  rw [State.elapse_of_runs runs]
  cases p <;> rfl

@[simp] theorem passTimer_isSome (n : Nat) (t : Timer) : (passTimer n t).isSome = t.isSome := by simp [passTimer]
@[simp] theorem passTimer_none (n : Nat) : passTimer n none = none := rfl
@[simp] theorem passTimer_eq_none (n : Nat) (t : Timer) : passTimer n t = none ↔ t = none := by simp [passTimer]
theorem passTimer_some_self (n : Nat) : passTimer n (some n) = some 0 := by simp [passTimer]

/-! ### What a link, a slot search and a judgement give after some periods -/

theorem slotIn_congr {s t : State} (same : ∀ i : Slot, (t.link i).state = (s.link i).state) (st : LinkState) :
    t.slotIn st = s.slotIn st := by
  unfold State.slotIn
  congr 1
  funext i
  rw [show (t.links.get i).state = (s.links.get i).state from same i]

theorem State.elapse_carrier : (s.elapse n).carrier = s.carrier := by
  refine slotIn_congr (fun i => ?_) _
  cases runs : s.mainRuns with
  | true => rw [State.elapse_link runs]; rfl
  | false =>
    obtain ⟨c, w, passed⟩ := State.elapse_of_stops (n := n) runs
    rw [passed]
    rfl

theorem State.elapse_radiationAllowed : (s.elapse n).radiationAllowed = s.radiationAllowed := by
  unfold State.radiationAllowed
  cases runs : s.mainRuns with
  | true => simp [State.elapse_coverage runs, State.elapse_bridge runs, Coverage.pass, Bridge.pass]
  | false =>
    obtain ⟨c, w, passed⟩ := State.elapse_of_stops (n := n) runs
    rw [passed]
    rfl

end Elapse

/-! ### Every law is kept while time passes -/

section Lawful

variable {s : State}

theorem State.SlotLaw.elapse {i : Slot} (runs : s.mainRuns = true) (n : Nat) (law : s.SlotLaw i) : (s.elapse n).SlotLaw i := by
  have eligible : (s.elapse n).eligibleNow i = s.eligibleNow i := by
    simp [State.eligibleNow, State.elapse_coverage runs, State.elapse_bridge runs, Coverage.pass, Bridge.pass]
  unfold State.SlotLaw at *
  simpa [State.elapse_link runs, Link.pass, eligible] using law

theorem PortState.Lawful.pass {x : PortState} (law : x.Lawful) (n : Nat) : (x.pass n).Lawful := by
  unfold PortState.Lawful at *
  simpa [PortState.pass] using law

theorem State.PowerLaw.elapse (law : s.PowerLaw) (runs : s.mainRuns = true) (n : Nat) : (s.elapse n).PowerLaw := by
  obtain ⟨flushed, flushing, high, low, calm, warned, valid, empty, cut⟩ := law
  have awake : ¬ (s.power.supervisor = .off ∨ s.power.supervisor = .initializing) := by
    obtain running | flushed := State.mainRuns_iff.mp runs
    · simp [running]
    · simp [flushed]
  refine ⟨?_, ?_, ?_, ?_, ?_, ?_, ?_, fun asleep => ?_, ?_⟩
  · simpa using flushed
  · simpa using flushing
  · simpa using high
  · simpa using low
  · simpa using calm
  · simpa using warned
  · simpa using valid
  · exact absurd (by simpa using asleep) awake
  · simpa using cut

theorem State.TablesLaw.elapse (law : s.TablesLaw) (n : Nat) : (s.elapse n).TablesLaw := by
  simpa only [State.TablesLaw, State.elapse_sessions, State.elapse_agreements, State.elapse_accounts, State.elapse_zones,
    State.elapse_tariff] using law

theorem State.LoadedLaw.elapse (law : s.LoadedLaw) (n : Nat) : (s.elapse n).LoadedLaw := by
  simpa only [State.LoadedLaw, State.elapse_agreements, State.elapse_accounts, State.elapse_zones, State.elapse_tariff,
    State.elapse_linkConfig] using law

theorem State.ParamsLaw.elapse (law : s.ParamsLaw) (n : Nat) : (s.elapse n).ParamsLaw := by
  simpa only [State.ParamsLaw, State.elapse_params] using law

theorem State.SessionLaw.elapse (law : s.SessionLaw) (n : Nat) : (s.elapse n).SessionLaw := by
  simpa only [State.SessionLaw, State.elapse_sessions, State.elapse_owed, State.elapse_session] using law

theorem State.CountLaw.elapse (law : s.CountLaw) (n : Nat) : (s.elapse n).CountLaw := by
  simpa only [State.CountLaw, State.elapse_sessions, State.elapse_agreement, State.elapse_account] using law

theorem State.PartyLaw.elapse (law : s.PartyLaw) (n : Nat) : (s.elapse n).PartyLaw := by
  simpa only [State.PartyLaw, State.elapse_sessions, State.elapse_agreements, State.elapse_agreement, State.elapse_account] using law

theorem State.ReasonsLaw.elapse (law : s.ReasonsLaw) (runs : s.mainRuns = true) (n : Nat) : (s.elapse n).ReasonsLaw := by
  simpa only [State.ReasonsLaw, State.elapse_sessions, State.elapse_agreement, State.elapse_account, State.elapse_coverage runs,
    Coverage.pass] using law

theorem State.CoverageLaw.elapse (law : s.CoverageLaw) (runs : s.mainRuns = true) (n : Nat) : (s.elapse n).CoverageLaw := by
  simpa only [State.CoverageLaw, State.elapse_radiationAllowed, State.elapse_mainRuns, State.elapse_supervisor,
    State.elapse_coverage runs, Coverage.pass, passTimer_isSome] using law

theorem State.ZoneLaw.elapse (law : s.ZoneLaw) (runs : s.mainRuns = true) (n : Nat) : (s.elapse n).ZoneLaw := by
  obtain ⟨known, last, timed, candidate⟩ := law
  rw [State.ZoneLaw, State.elapse_coverage runs]
  refine ⟨known, last, ?_, fun c held => ?_⟩
  · simpa only [Coverage.pass, Option.isSome_map, passTimer_isSome] using timed
  · obtain ⟨c', held', rfl⟩ := Option.map_eq_some_iff.mp held
    exact candidate c' held'

theorem State.ServiceLaw.elapse (law : s.ServiceLaw) (runs : s.mainRuns = true) (n : Nat) : (s.elapse n).ServiceLaw := by
  simpa only [State.ServiceLaw, State.elapse_sessions, State.elapse_coverage runs, Coverage.pass] using law

theorem State.WithdrawalLaw.elapse (law : s.WithdrawalLaw) (runs : s.mainRuns = true) (n : Nat) : (s.elapse n).WithdrawalLaw := by
  simpa only [State.WithdrawalLaw, State.servedCount, State.elapse_sessions, State.elapse_coverage runs, Coverage.pass] using law

theorem State.BridgeLaw.elapse (law : s.BridgeLaw) (runs : s.mainRuns = true) (n : Nat) : (s.elapse n).BridgeLaw := by
  simpa only [State.BridgeLaw, State.elapse_bridge runs, Bridge.pass, State.elapse_mainRuns, State.elapse_pins, passTimer_isSome,
    passTimer_eq_none, Option.isSome_map, Option.map_eq_none_iff] using law

theorem State.LinkLaw.elapse (law : s.LinkLaw) (runs : s.mainRuns = true) (n : Nat) : (s.elapse n).LinkLaw := by
  obtain ⟨slots, candidate, carrier, old⟩ := law
  refine ⟨fun i => (slots i).elapse runs n, fun i => ?_, fun i => ?_, fun w held => ?_⟩
  · rw [State.elapse_link runs, State.elapse_selector runs]
    simpa [Link.pass, Selector.pass, Option.map_map, Function.comp_def] using candidate i
  · rw [State.elapse_link runs, State.elapse_carrier]
    exact carrier i
  · rw [State.elapse_selector runs] at held
    obtain ⟨w', held', rfl⟩ := Option.map_eq_some_iff.mp held
    rw [State.elapse_carrier]
    exact old w' held'

theorem State.ClockLaw.elapse (law : s.ClockLaw) (runs : s.mainRuns = true) (n : Nat) : (s.elapse n).ClockLaw := by
  simpa only [State.ClockLaw, State.elapse_clock runs, Clock.pass] using law

theorem State.RatingLaw.elapse (law : s.RatingLaw) (runs : s.mainRuns = true) (n : Nat) : (s.elapse n).RatingLaw := by
  simpa only [State.RatingLaw, Rating.newest, Clock.periodNow, State.elapse_rating runs, State.elapse_clock runs, Clock.pass,
    State.elapse_carrier, State.elapse_coverage runs, Coverage.pass, State.elapse_period, State.elapse_mainRuns,
    State.elapse_zoneRecord, State.elapse_linkConfig, passTimer_isSome] using law

theorem State.QueueLaw.elapse (law : s.QueueLaw) (n : Nat) : (s.elapse n).QueueLaw := by
  simpa only [State.QueueLaw, State.elapse_queue, State.elapse_owed] using law

theorem State.PortLaw.elapse (law : s.PortLaw) (runs : s.mainRuns = true) (n : Nat) : (s.elapse n).PortLaw := by
  obtain ⟨cell, link, purser, released⟩ := law
  rw [State.PortLaw, State.elapse_mainRuns, State.elapse_of_runs runs]
  exact ⟨cell.pass n, link.pass n, purser.pass n, released⟩

/-- Time that passes in a running main domain keeps every law. -/
theorem State.Lawful.elapse_runs (law : s.Lawful) (runs : s.mainRuns = true) (n : Nat) : (s.elapse n).Lawful := by
  obtain ⟨power, tables, loaded, params, sessions, count, party, reasons, coverage, zone, service, withdrawal, bridge, link, clock,
    rating, queue, port⟩ := law
  exact ⟨power.elapse runs n, tables.elapse n, loaded.elapse n, params.elapse n, sessions.elapse n, count.elapse n, party.elapse n,
    reasons.elapse runs n, coverage.elapse runs n, zone.elapse runs n, service.elapse runs n, withdrawal.elapse runs n,
    bridge.elapse runs n, link.elapse runs n, clock.elapse runs n, rating.elapse runs n, queue.elapse n, port.elapse runs n⟩

/-- The laws do not read the clock's count, nor the time since INITIALIZING. -/
theorem State.Lawful.of_counts (law : s.Lawful) (c i : Nat) :
    ({ s with clock := { s.clock with subSecond := c }, power := { s.power with initTime := i } } : State).Lawful := law

/-- The laws do not read the queue of commands. -/
theorem State.Lawful.of_pending (law : s.Lawful) (q : List Instr) : ({ s with pending := q } : State).Lawful := law

/-- Time that passes keeps every law. -/
theorem State.Lawful.elapse (law : s.Lawful) (n : Nat) : (s.elapse n).Lawful := by
  cases runs : s.mainRuns with
  | true => exact law.elapse_runs runs n
  | false =>
    obtain ⟨c, i, passed⟩ := State.elapse_of_stops (n := n) runs
    rw [passed]
    exact law.of_counts c i

end Lawful

end Sys2Proof.Machine

/-! SUPPORT. The steady part of a state: what the sessions, the coverage controller, the links, the rating engine and the decoder
leave as it was, however far an event or a command reaches. -/

namespace Sys2Proof.Machine

/-- The state with every field that the rules over sessions, coverage, links, rating and the decoder write at a fixed value: what
is left is the power supervisor, the lines, the clock, the figures, the configuration and the queue of commands. -/
def State.steady (s : State) : State :=
  { s with
    period := .peak, rating := Rating.start .peak, sessions := Table.empty, owed := [], sweep := Sweep.start 0
    coverage := Coverage.start, bridge := Bridge.start, links := Slots.all Link.start, selector := Selector.start
    router := Router.start, agreements := Table.empty, accounts := Table.empty, queue := ⟨[], 0⟩ }

section Steady

variable {s t : State}

theorem State.power_of_steady (same : t.steady = s.steady) : t.power = s.power := congrArg (·.power) same
theorem State.pins_of_steady (same : t.steady = s.steady) : t.pins = s.pins := congrArg (·.pins) same
theorem State.clock_of_steady (same : t.steady = s.steady) : t.clock = s.clock := congrArg (·.clock) same
theorem State.tariff_of_steady (same : t.steady = s.steady) : t.tariff = s.tariff := congrArg (·.tariff) same
theorem State.zones_of_steady (same : t.steady = s.steady) : t.zones = s.zones := congrArg (·.zones) same
theorem State.linkConfig_of_steady (same : t.steady = s.steady) : t.linkConfig = s.linkConfig := congrArg (·.linkConfig) same
theorem State.params_of_steady (same : t.steady = s.steady) : t.params = s.params := congrArg (·.params) same
theorem State.backupValid_of_steady (same : t.steady = s.steady) : t.backupValid = s.backupValid := congrArg (·.backupValid) same
theorem State.pending_of_steady (same : t.steady = s.steady) : t.pending = s.pending := congrArg (·.pending) same

@[simp] theorem State.steady_pending : s.steady.pending = s.pending := rfl

@[simp] theorem State.raise_steady (k : EventKind) (d : Nat) : (s.raise k d).steady = s.steady := rfl
@[simp] theorem State.setPort_steady (p : Port) (x : PortState) : (s.setPort p x).steady = s.steady := rfl
@[simp] theorem State.setSession_steady (h : Nat) (x : Session) : (s.setSession h x).steady = s.steady := rfl
@[simp] theorem State.setAccount_steady (i : Nat) (a : Account) : (s.setAccount i a).steady = s.steady := rfl
@[simp] theorem State.setAgreement_steady (i : Nat) (g : Agreement) : (s.setAgreement i g).steady = s.steady := rfl
@[simp] theorem State.setLink_steady (i : Slot) (l : Link) : (s.setLink i l).steady = s.steady := rfl
@[simp] theorem State.refresh_steady (h : Nat) : (s.refresh h).steady = s.steady := rfl

/-! ### Sessions and the queue -/

@[simp] theorem State.appendRecord_steady (r : ChargeRecord) : (s.appendRecord r).steady = s.steady := by
  obtain ⟨_, _, framed⟩ := s.appendRecord_frame r
  rw [framed]
  rfl
@[simp] theorem State.contribute_steady (n c : Nat) : (s.contribute n c).steady = s.steady := by
  obtain ⟨_, _, framed⟩ := s.contribute_frame n c
  rw [framed]
  rfl
@[simp] theorem State.countSession_steady (x : Session) (f : Nat → Nat) : (s.countSession x f).steady = s.steady := by
  obtain ⟨_, _, framed⟩ := s.countSession_frame x f
  rw [framed]
  rfl
@[simp] theorem State.becomeFree_steady (h : Nat) : (s.becomeFree h).steady = s.steady := by
  obtain ⟨_, _, _, framed⟩ := s.becomeFree_frame h
  rw [framed]
  rfl
@[simp] theorem State.closeSession_steady (h : Nat) (r : CloseReason) : (s.closeSession h r).steady = s.steady := by
  obtain ⟨_, _, _, _, _, _, framed⟩ := s.closeSession_frame h r
  rw [framed]
  rfl
@[simp] theorem State.grantOwed_steady (hs : List Nat) : (s.grantOwed hs).1.steady = s.steady := by
  obtain ⟨_, _, _, _, _, _, framed⟩ := s.grantOwed_frame hs
  rw [framed]
  rfl
@[simp] theorem State.changeReasons_steady (a r : Reasons) (h : Nat) : (s.changeReasons a r h).steady = s.steady := by
  obtain ⟨_, _, framed⟩ := s.changeReasons_frame a r h
  rw [framed]
  rfl
@[simp] theorem State.changeReasonsOf_steady (a r : Reasons) (hs : List Nat) : (s.changeReasonsOf a r hs).steady = s.steady := by
  obtain ⟨_, _, framed⟩ := s.changeReasonsOf_frame a r hs
  rw [framed]
  rfl
@[simp] theorem State.creditEffect_steady (a v : Nat) : (s.creditEffect a v).steady = s.steady := by
  obtain ⟨_, _, framed⟩ := s.creditEffect_frame a v
  rw [framed]
  rfl
@[simp] theorem State.zoneReasons_steady (z : Nat) : (s.zoneReasons z).steady = s.steady := by
  obtain ⟨_, _, framed⟩ := s.zoneReasons_frame z
  rw [framed]
  rfl
@[simp] theorem State.drainOrder_steady : s.drainOrder.steady = s.steady := by
  obtain ⟨_, framed⟩ := s.drainOrder_frame
  rw [framed]
  rfl
@[simp] theorem State.emptyTable_steady : s.emptyTable.steady = s.steady := by
  obtain ⟨_, _, _, framed⟩ := s.emptyTable_frame
  rw [framed]
  rfl

/-! ### Rating -/

@[simp] theorem State.sendComponent_steady (c : WindowCause) (f : Context → Context) : (s.sendComponent c f).steady = s.steady := by
  obtain ⟨_, _, framed⟩ := s.sendComponent_frame c f
  rw [framed]
  rfl
@[simp] theorem State.sendZoneClass_steady (z : Nat) : (s.sendZoneClass z).steady = s.steady := State.sendComponent_steady _ _
@[simp] theorem State.sendCostClass_steady (k : Nat) : (s.sendCostClass k).steady = s.steady := State.sendComponent_steady _ _
@[simp] theorem State.settlePeriod_steady : s.settlePeriod.steady = s.steady := by
  obtain ⟨_, _, _, framed⟩ := s.settlePeriod_frame
  rw [framed]
  rfl
@[simp] theorem State.rateReport_steady (h d v m : Nat) : (s.rateReport h d v m).state.steady = s.steady := by
  obtain ⟨_, _, _, _, framed⟩ := s.rateReport_frame h d v m
  rw [framed]
  rfl
@[simp] theorem State.reportUsage_steady (h : Nat) (d v : Half) (m : Byte) : (s.reportUsage h d v m).1.state.steady = s.steady :=
  (State.rateReport_steady _ _ _ _).trans (State.refresh_steady h)
@[simp] theorem State.roundData_steady (h : Nat) : (s.roundData h).steady = s.steady := by
  obtain ⟨_, _, _, _, framed⟩ := s.roundData_frame h
  rw [framed]
  rfl
@[simp] theorem State.roundVoice_steady (h : Nat) : (s.roundVoice h).steady = s.steady := by
  obtain ⟨_, _, _, _, framed⟩ := s.roundVoice_frame h
  rw [framed]
  rfl
@[simp] theorem State.settleContext_steady : s.settleContext.steady = s.steady := rfl

/-! ### Links -/

@[simp] theorem State.considerSwap_steady : s.considerSwap.steady = s.steady := by
  obtain ⟨_, _, _, framed⟩ := s.considerSwap_frame
  rw [framed]
  rfl
@[simp] theorem State.faultLink_steady (i : Slot) (b : Bool) : (s.faultLink i b).steady = s.steady := by
  obtain ⟨_, _, _, framed⟩ := s.faultLink_frame i b
  rw [framed]
  rfl
@[simp] theorem State.abandonLate_steady : s.abandonLate.steady = s.steady := by
  obtain ⟨_, _, _, framed⟩ := s.abandonLate_frame
  rw [framed]
  rfl
@[simp] theorem State.judgeLinks_steady (slots : List Slot) : (s.judgeLinks slots).steady = s.steady := by
  obtain ⟨_, _, _, framed⟩ := s.judgeLinks_frame slots
  rw [framed]
  rfl
@[simp] theorem State.takeReport_steady (i : Slot) (b : Bool) (q l t : Nat) : (s.takeReport i b q l t).steady = s.steady := by
  obtain ⟨_, _, _, framed⟩ := s.takeReport_frame i b q l t
  rw [framed]
  rfl
@[simp] theorem State.completeSwap_steady (w : Swap) : (s.completeSwap w).steady = s.steady := by
  obtain ⟨_, _, _, _, framed⟩ := s.completeSwap_frame w
  rw [framed]
  rfl
@[simp] theorem State.staleLink_steady (i : Slot) : (s.staleLink i).steady = s.steady := rfl
@[simp] theorem State.qualifyLink_steady (i : Slot) : (s.qualifyLink i).steady = s.steady := by
  unfold State.qualifyLink
  dsimp only
  split <;> simp
@[simp] theorem State.faultTimerLink_steady (i : Slot) : (s.faultTimerLink i).steady = s.steady := by
  unfold State.faultTimerLink
  split <;> simp
@[simp] theorem State.endHoldoff_steady (i : Slot) : (s.endHoldoff i).steady = s.steady := by
  unfold State.endHoldoff
  dsimp only
  split
  · split <;> simp
  · simp

/-! ### Coverage -/

@[simp] theorem State.enterRadiating_steady : s.enterRadiating.steady = s.steady := rfl
@[simp] theorem State.enterRamping_steady : s.enterRamping.steady = s.steady := by
  obtain ⟨_, _, framed⟩ := s.enterRamping_frame
  rw [framed]
  rfl
@[simp] theorem State.endWithdrawal_steady : s.endWithdrawal.steady = s.steady := by
  obtain ⟨_, _, _, _, _, _, _, framed⟩ := s.endWithdrawal_frame
  rw [framed]
  rfl
@[simp] theorem State.judgeCoverage_steady (was : Bool) (grace : Nat) : (s.judgeCoverage was grace).steady = s.steady := by
  obtain ⟨_, _, _, _, _, _, _, framed⟩ := s.judgeCoverage_frame was grace
  rw [framed]
  rfl
@[simp] theorem State.endOfService_steady : s.endOfService.steady = s.steady := by
  obtain ⟨_, _, _, _, _, _, _, framed⟩ := s.endOfService_frame
  rw [framed]
  rfl
@[simp] theorem State.reportServed_steady : s.reportServed.steady = s.steady := by
  obtain ⟨_, _, _, _, _, _, _, framed⟩ := s.reportServed_frame
  rw [framed]
  rfl
@[simp] theorem State.closeServed_steady (h : Nat) (r : CloseReason) : (s.closeServed h r).steady = s.steady := by
  simp [State.closeServed]

/-- What stands in the coverage controller is no steady part. -/
@[simp] theorem State.withCoverage_steady (c : Coverage) : ({ s with coverage := c } : State).steady = s.steady := rfl
/-- What stands in the decoder is no steady part. -/
@[simp] theorem State.withBridge_steady (b : Bridge) : ({ s with bridge := b } : State).steady = s.steady := rfl

@[simp] theorem State.qualifyZone_steady (z : Nat) : (s.qualifyZone z).steady = s.steady := by
  unfold State.qualifyZone
  simp only [State.sendZoneClass_steady, State.judgeLinks_steady, State.judgeCoverage_steady, State.zoneReasons_steady]
  split <;> simp
@[simp] theorem State.loseFix_steady : s.loseFix.steady = s.steady := by
  unfold State.loseFix
  dsimp only
  split <;> simp
@[simp] theorem State.setCandidate_steady (z : Nat) (k : ZoneKind) : (s.setCandidate z k).steady = s.steady := by
  unfold State.setCandidate
  dsimp only
  split <;> simp
@[simp] theorem State.reportOther_steady (z : Nat) (k : ZoneKind) : (s.reportOther z k).steady = s.steady := by
  unfold State.reportOther
  split
  · simp
  · split
    · rfl
    · split <;> simp
@[simp] theorem State.reportCurrent_steady : s.reportCurrent.steady = s.steady := by
  unfold State.reportCurrent
  split <;> simp
@[simp] theorem State.takeZone_steady (z : Nat) : (s.takeZone z).steady = s.steady := by
  unfold State.takeZone
  dsimp only
  split
  · split <;> simp
  · split <;> simp

/-! ### The decoder, the sweep and the flush -/

@[simp] theorem State.endLow_steady : s.endLow.steady = s.steady := by
  obtain ⟨_, _, framed⟩ := s.endLow_frame
  rw [framed]
  rfl
@[simp] theorem State.reachStuck_steady : s.reachStuck.steady = s.steady := by
  obtain ⟨_, _, framed⟩ := s.reachStuck_frame
  rw [framed]
  rfl
@[simp] theorem State.coverageReads_steady (was : Bool) (old : Standing) : (s.coverageReads was old).steady = s.steady := by
  unfold State.coverageReads
  split <;> simp
@[simp] theorem State.linksRead_steady (old : Standing) : (s.linksRead old).steady = s.steady := by
  unfold State.linksRead
  split <;> simp
@[simp] theorem State.selectorReads_steady (old : Standing) : (s.selectorReads old).steady = s.steady := by
  unfold State.selectorReads
  split <;> simp
@[simp] theorem State.takeOrder_steady (order : Nat) : (s.takeOrder order).steady = s.steady := by
  simp [State.takeOrder]
@[simp] theorem State.endTrain_steady : s.endTrain.steady = s.steady := by
  unfold State.endTrain
  dsimp only
  split
  · simp
  · split
    · simp
    · split <;> simp
@[simp] theorem State.visit_steady (h : Nat) : (s.visit h).steady = s.steady := by
  unfold State.visit
  dsimp only
  split
  · split <;> simp
  · rfl
@[simp] theorem State.setFlags_steady (h : Nat) (m : Flags) : (s.setFlags h m).steady = s.steady := by
  unfold State.setFlags
  dsimp only
  split <;> simp
@[simp] theorem State.clearFlags_steady (h : Nat) (m : Flags) : (s.clearFlags h m).steady = s.steady := by
  unfold State.clearFlags
  dsimp only
  split <;> simp
@[simp] theorem State.writeAccount_steady (i : Nat) (a : Account) : (s.writeAccount i a).steady = s.steady := by
  unfold State.writeAccount
  dsimp only
  split <;> simp
@[simp] theorem State.adjustAccount_steady (i : Nat) (b : Bool) (m : Nat) : (s.adjustAccount i b m).steady = s.steady := by
  unfold State.adjustAccount
  dsimp only
  split <;> simp
@[simp] theorem State.loadAgreement_steady (i : Nat) (g : Agreement) : (s.loadAgreement i g).steady = s.steady := by
  unfold State.loadAgreement
  dsimp only
  split <;> simp
@[simp] theorem State.openSession_steady (x : IdentityWord) (c : Charging) (h : Nat) : (s.openSession x c h).steady = s.steady := by
  unfold State.openSession
  dsimp only
  split
  · split <;> simp
  · split <;> simp
@[simp] theorem State.attach_steady (x : IdentityWord) (a : Option Nat) : (s.attach x a).1.steady = s.steady := by
  unfold State.attach
  split
  · rfl
  · split
    · rfl
    · split
      · split <;> rfl
      · split
        · rfl
        · split
          · rfl
          · simp only [State.openSession_steady]
@[simp] theorem State.dropRecord_steady : s.dropRecord.1.steady = s.steady := by
  unfold State.dropRecord
  rw [State.grantOwed_steady]
  rfl

/-! ### The queue of commands beside the steady part -/

theorem State.loadZone_pending (z : Nat) (r : ZoneRecord) : (s.loadZone z r).pending = s.pending := by
  unfold State.loadZone
  dsimp only
  split
  · exact State.pending_of_steady (s := { s with zones := s.zones.set ZoneRecord.unloaded z r }) (by simp)
  · rfl
theorem State.unloadLink_pending (i : Slot) : (s.unloadLink i).pending = s.pending := rfl
theorem State.loadLink_pending (i : Slot) (c : LinkConfig) : (s.loadLink i c).pending = s.pending := by
  unfold State.loadLink
  split
  · rfl
  · exact State.pending_of_steady (s := { s with linkConfig := s.linkConfig.set i c }) (by simp)
theorem State.settlePeriod_pending : s.settlePeriod.pending = s.pending := State.pending_of_steady State.settlePeriod_steady
theorem State.flush_pending : s.flush.pending = s.pending := by
  have flushed : s.flush.steady =
      ({ s with power := { s.power with supervisor := .flushed, flushing := true } } : State).endOfService.steady := by
    unfold State.flush
    rw [State.contribute_steady, State.emptyTable_steady]
  exact State.pending_of_steady (s := { s with power := { s.power with supervisor := .flushed, flushing := true } })
    (flushed.trans State.endOfService_steady)
theorem State.beginStart_pending (k : StartKind) : (s.beginStart k).pending = s.pending := by
  cases k <;> rfl
@[simp] theorem State.latchStart_steady : s.latchStart.steady = s.steady := by
  simp only [State.latchStart, apply_ite State.steady, State.raise_steady, ite_self]
theorem State.latchStart_pending : s.latchStart.pending = s.pending := State.pending_of_steady State.latchStart_steady
theorem State.endInitialization_pending : s.endInitialization.pending = s.pending := by
  unfold State.endInitialization
  dsimp only
  split
  · exact State.flush_pending.trans State.latchStart_pending
  · exact State.latchStart_pending
theorem State.takeSecond_pending : s.takeSecond.pending = s.pending := by
  have refill : ∀ t : State, t.refillPacing.pending = t.pending := fun t => by
    unfold State.refillPacing
    split <;> rfl
  unfold State.takeSecond
  dsimp only
  split
  · rw [refill]
    split
    · exact State.settlePeriod_pending
    · rfl
  · rfl

/-- A timed row leaves the queue of commands alone when its rule does. -/
theorem State.onExpiry_pending (tm : Timer) {rule : State → State} (keeps : ∀ u, (rule u).pending = u.pending) :
    (s.onExpiry tm rule).pending = s.pending := by
  unfold State.onExpiry
  split
  · rfl
  · split
    · rw [keeps, State.elapse_pending]
    · rfl

/-- A length a low reaches leaves the queue of commands alone when its rule does. -/
theorem State.onLow_pending (length : Nat) (ready : Bool) {rule : State → State} (keeps : ∀ u, (rule u).pending = u.pending) :
    (s.onLow length ready rule).pending = s.pending := by
  unfold State.onLow
  split
  · rfl
  · split
    · rw [keeps, State.elapse_pending]
    · rfl

end Steady

end Sys2Proof.Machine

/-! SUPPORT. The command frames: the rule of each command of the summary, what a refusal leaves as it was, and how a frame reads
back. -/

namespace Sys2Proof.Machine

/-! ### Status codes and refusals (R189) -/

/-- What a command's rule may do to a state: the queue of commands stays, and a status code of 16 or above comes with the state as it
was, and with no response bytes unless `answers` lists the status. -/
structure State.Rules (s : State) (answers : Status → Prop) (r : State × Reply) : Prop where
  pending : r.1.pending = s.pending
  refusal : 16 ≤ r.2.status.code → r.1 = s ∧ (r.2.response = [] ∨ answers r.2.status)

theorem clampStatus_code_lt (b : Bool) : (clampStatus b).code < 16 := by
  cases b <;> decide

section Rules

variable {s : State} {answers : Status → Prop}

/-- A refusal without response bytes. -/
theorem State.Rules.refuse (st : Status) : s.Rules answers (s, Reply.bare st) :=
  ⟨rfl, fun _ => ⟨rfl, .inl rfl⟩⟩

/-- An answer with a status code below 16. -/
theorem State.Rules.accept {t : State} {st : Status} {response : List Byte} (low : st.code < 16) (kept : t.pending = s.pending) :
    s.Rules answers (t, ⟨st, response⟩) :=
  ⟨kept, fun high => absurd high (by simpa using low)⟩

/-- An answer that leaves the state as it was and has a status that is listed to come with response bytes. -/
theorem State.Rules.inform {st : Status} {response : List Byte} (listed : answers st) : s.Rules answers (s, ⟨st, response⟩) :=
  ⟨rfl, fun _ => ⟨rfl, .inr listed⟩⟩

theorem State.Rules.onServed {rule : Nat → State × Reply} (handle : Half) (rules : ∀ h, s.Rules answers (rule h)) :
    s.Rules answers (s.onServed handle rule) := by
  unfold State.onServed
  split
  · exact .refuse _
  · split
    · exact .refuse _
    · exact .refuse _
    · exact rules _

theorem State.Rules.onFlags {rule : Nat → State × Reply} (handle : Half) (mask : Byte) (rules : ∀ h, s.Rules answers (rule h)) :
    s.Rules answers (s.onFlags handle mask rule) := by
  unfold State.onFlags
  split
  · exact .onServed handle rules
  · exact .refuse _

end Rules

/-! ### The rule of each command (11.3) -/

/-- The statuses of 16 or above that a command answers with response bytes (1.4, 6.5). -/
def Instr.informs (i : Instr) (st : Status) : Prop :=
  (∃ p x a b, i = .attach p x a b) ∧ st = .closing ∨ (∃ p b, i = .swapConfirm p b) ∧ (st = .tooLate ∨ st = .notRamping)

/-- Command `i`, on port `p` with the roles listed, is a rule that keeps to `Rules` in every state. -/
def Instr.Ruled (i : Instr) (p : Port) (roles : List Port) : Prop :=
  ∃ rule : State → State × Reply, (∀ s, exec i s = .next (s.command p roles rule)) ∧ ∀ s : State, s.Rules (Instr.informs i) (rule s)

section Commands

variable (p : Port)

theorem ruled_attach (x : IdentityWord) (a b : Byte) : Instr.Ruled (.attach p x a b) p [.cell] := by
  have rules : ∀ (s : State) (account : Option Nat), s.Rules (Instr.informs (.attach p x a b)) (s.attach x account) := by
    intro s account
    unfold State.attach
    split
    · exact .refuse _
    · split
      · exact .refuse _
      · split
        · split
          · exact .accept (by decide) rfl
          · exact .inform (.inl ⟨⟨_, _, _, _, rfl⟩, rfl⟩)
        · split
          · exact .refuse _
          · split
            · exact .refuse _
            · exact .accept (by decide) (State.pending_of_steady (by simp))
  refine ⟨_, fun _ => rfl, fun s => ?_⟩
  split
  · exact rules s _
  · exact .refuse _

theorem reportUsage_status_low (s : State) (h : Nat) (d v : Half) (m : Byte) : (s.reportUsage h d v m).2.code < 16 := by
  simp only [State.reportUsage]
  split
  · decide
  · split <;> decide

theorem ruled_release (h d v : Half) (m : Byte) : Instr.Ruled (.release p h d v m) p [.cell] :=
  ⟨_, fun _ => rfl, fun s => .onServed _ fun _ =>
    .accept (reportUsage_status_low s _ _ _ _) (State.pending_of_steady (by simp))⟩

theorem ruled_usage (h d v : Half) (m : Byte) : Instr.Ruled (.usage p h d v m) p [.cell] :=
  ⟨_, fun _ => rfl, fun s => .onServed _ fun _ =>
    .accept (reportUsage_status_low s _ _ _ _) (State.pending_of_steady (by simp))⟩

theorem ruled_keepalive (h : Half) : Instr.Ruled (.keepalive p h) p [.cell] :=
  ⟨_, fun _ => rfl, fun _ => .onServed _ fun _ => .accept (by decide) rfl⟩

theorem ruled_closeSession (h : Half) : Instr.Ruled (.closeSession p h) p [.purser] :=
  ⟨_, fun _ => rfl, fun _ => .onServed _ fun _ => .accept (by decide) (State.pending_of_steady (by simp))⟩

theorem ruled_setSessionFlags (h : Half) (m : Byte) : Instr.Ruled (.setSessionFlags p h m) p [.purser] :=
  ⟨_, fun _ => rfl, fun _ => .onFlags _ _ fun _ => .accept (by decide) (State.pending_of_steady (by simp))⟩

theorem ruled_clearSessionFlags (h : Half) (m : Byte) : Instr.Ruled (.clearSessionFlags p h m) p [.purser] :=
  ⟨_, fun _ => rfl, fun _ => .onFlags _ _ fun _ => .accept (by decide) (State.pending_of_steady (by simp))⟩

theorem ruled_zoneReport (z : Byte) : Instr.Ruled (.zoneReport p z) p [.cell, .link] := by
  refine ⟨_, fun _ => rfl, fun s => ?_⟩
  split
  · exact .accept (by decide) rfl
  · split
    · exact .refuse _
    · exact .accept (by decide) (State.pending_of_steady (by simp))

theorem ruled_linkReport (b present quality : Byte) (loss latency : Half) :
    Instr.Ruled (.linkReport p b present quality loss latency) p [.link] := by
  refine ⟨_, fun _ => rfl, fun s => ?_⟩
  dsimp only
  split
  · exact .accept (clampStatus_code_lt _) (State.pending_of_steady (by simp))
  · exact .refuse _

theorem ruled_swapConfirm (b : Byte) : Instr.Ruled (.swapConfirm p b) p [.link] := by
  have other : ∀ (s : State) (i : Slot), Instr.informs (.swapConfirm p b) (if s.selector.lateMark = some i then .tooLate else .notRamping) :=
    fun s i => .inr ⟨⟨_, _, rfl⟩, by split <;> simp⟩
  refine ⟨_, fun _ => rfl, fun s => ?_⟩
  split
  · exact .refuse _
  · split
    · split
      · exact .accept (by decide) (State.pending_of_steady (by simp))
      · exact .inform (other s _)
    · exact .inform (other s _)

theorem ruled_loadZone (z loaded policy : Byte) (grace : Half) (cls : Byte) :
    Instr.Ruled (.loadZone p z loaded policy grace cls) p [.purser] := by
  refine ⟨_, fun _ => rfl, fun s => ?_⟩
  split
  · exact .accept (by decide) (State.loadZone_pending _ _)
  · split
    · split
      · exact .accept (clampStatus_code_lt _) (State.loadZone_pending _ _)
      · exact .refuse _
    · exact .refuse _
  · exact .refuse _

theorem ruled_loadLink (b loaded kind cost rank : Byte) (zones : Half) :
    Instr.Ruled (.loadLink p b loaded kind cost rank zones) p [.purser] := by
  refine ⟨_, fun _ => rfl, fun s => ?_⟩
  dsimp only
  split
  · split
    · exact .refuse _
    · exact .accept (by decide) (State.unloadLink_pending _)
  · split
    · split
      · split
        · exact .refuse _
        · exact .accept (by decide) (State.loadLink_pending _ _)
      · exact .refuse _
    · exact .refuse _
  · exact .refuse _

theorem ruled_loadPriceRow (plan cls : Byte) (dp di vp : Half) (vi : Byte) (mp : Half) :
    Instr.Ruled (.loadPriceRow p plan cls dp di vp vi mp) p [.purser] := by
  refine ⟨_, fun _ => rfl, fun s => ?_⟩
  dsimp only
  split
  · exact .accept (clampStatus_code_lt _) rfl
  · exact .refuse _

theorem ruled_setSurcharges (a b c d : Half) : Instr.Ruled (.setSurcharges p a b c d) p [.purser] :=
  ⟨_, fun _ => rfl, fun _ => .accept (clampStatus_code_lt _) rfl⟩

theorem ruled_setDiscounts (a b c d e f g h : Byte) : Instr.Ruled (.setDiscounts p a b c d e f g h) p [.purser] :=
  ⟨_, fun _ => rfl, fun _ => .accept (clampStatus_code_lt _) rfl⟩

theorem ruled_setOffPeakWindow (a b : Byte) : Instr.Ruled (.setOffPeakWindow p a b) p [.purser] := by
  refine ⟨_, fun _ => rfl, fun s => ?_⟩
  dsimp only
  split
  · exact .accept (by decide) State.settlePeriod_pending
  · exact .refuse _

theorem ruled_loadAgreement (index state length : Byte) (code : CodeWord) (zones : Half) (plan account : Byte) :
    Instr.Ruled (.loadAgreement p index state length code zones plan account) p [.purser] := by
  refine ⟨_, fun _ => rfl, fun s => ?_⟩
  dsimp only
  split
  · exact .refuse _
  · split
    · split
      · exact .accept (by decide) rfl
      · exact .refuse _
    · split
      · exact .refuse _
      · split
        · split
          · exact .refuse _
          · exact .accept (by decide) (State.pending_of_steady (by simp))
        · exact .refuse _

theorem ruled_accountSet (index kind : Byte) (value threshold : Value48) (plan : Byte) :
    Instr.Ruled (.accountSet p index kind value threshold plan) p [.purser] := by
  refine ⟨_, fun _ => rfl, fun s => ?_⟩
  dsimp only
  split
  · exact .refuse _
  · split
    · exact .refuse _
    · split
      · exact .refuse _
      · exact .accept (by decide) (State.pending_of_steady (by simp))

theorem ruled_accountAdjust (index sign : Byte) (magnitude : Value48) :
    Instr.Ruled (.accountAdjust p index sign magnitude) p [.purser] := by
  refine ⟨_, fun _ => rfl, fun s => ?_⟩
  dsimp only
  split
  · exact .refuse _
  · split
    · exact .refuse _
    · split
      · exact .refuse _
      · exact .accept (clampStatus_code_lt _) (State.pending_of_steady (by simp))

theorem ruled_readRecord : Instr.Ruled (.readRecord p) p [.purser] := by
  refine ⟨_, fun _ => rfl, fun s => ?_⟩
  split
  · exact .refuse _
  · exact .accept (by decide) rfl

theorem ruled_dropRecord : Instr.Ruled (.dropRecord p) p [.purser] := by
  refine ⟨_, fun _ => rfl, fun s => ?_⟩
  dsimp only
  split
  · exact .refuse _
  · exact .accept (by decide) (State.pending_of_steady (by simp))

theorem ruled_readQueueMark : Instr.Ruled (.readQueueMark p) p [.purser] :=
  ⟨_, fun _ => rfl, fun _ => .accept (by decide) rfl⟩

theorem ruled_setClock (a b c d e f g : Byte) : Instr.Ruled (.setClock p a b c d e f g) p [.purser] := by
  refine ⟨_, fun _ => rfl, fun s => ?_⟩
  dsimp only
  split
  · exact .accept (by decide) State.settlePeriod_pending
  · exact .refuse _

theorem ruled_setTrim (a b : Byte) : Instr.Ruled (.setTrim p a b) p [.purser] := by
  refine ⟨_, fun _ => rfl, fun s => ?_⟩
  dsimp only
  split
  · exact .refuse _
  · exact .accept (clampStatus_code_lt _) rfl

theorem ruled_setParameter (n : Byte) (v : Half) : Instr.Ruled (.setParameter p n v) p [.purser] := by
  refine ⟨_, fun _ => rfl, fun s => ?_⟩
  split
  · exact .refuse _
  · exact .accept (clampStatus_code_lt _) rfl

theorem ruled_readStatus : Instr.Ruled (.readStatus p) p anyRole := ⟨_, fun _ => rfl, fun _ => .accept (by decide) rfl⟩

theorem ruled_readSessionByHandle (h : Half) : Instr.Ruled (.readSessionByHandle p h) p anyRole := by
  refine ⟨_, fun _ => rfl, fun s => ?_⟩
  split
  · exact .refuse _
  · exact .accept (by decide) rfl

theorem ruled_readSessionByIdentity (x : IdentityWord) : Instr.Ruled (.readSessionByIdentity p x) p anyRole := by
  refine ⟨_, fun _ => rfl, fun s => ?_⟩
  split
  · split
    · exact .refuse _
    · exact .accept (by decide) rfl
  · exact .refuse _

theorem ruled_readAccount (a : Byte) : Instr.Ruled (.readAccount p a) p anyRole := ⟨_, fun _ => rfl, fun _ => .accept (by decide) rfl⟩

theorem ruled_readAgreement (a : Byte) : Instr.Ruled (.readAgreement p a) p anyRole := by
  refine ⟨_, fun _ => rfl, fun s => ?_⟩
  dsimp only
  split
  · exact .refuse _
  · exact .accept (by decide) rfl

theorem ruled_readLink (b : Byte) : Instr.Ruled (.readLink p b) p anyRole := by
  refine ⟨_, fun _ => rfl, fun s => ?_⟩
  dsimp only
  split
  · exact .refuse _
  · exact .accept (by decide) rfl

theorem ruled_readZone (b : Byte) : Instr.Ruled (.readZone p b) p anyRole := by
  refine ⟨_, fun _ => rfl, fun s => ?_⟩
  dsimp only
  split
  · exact .refuse _
  · exact .accept (by decide) rfl

theorem ruled_readClock : Instr.Ruled (.readClock p) p anyRole := ⟨_, fun _ => rfl, fun _ => .accept (by decide) rfl⟩

theorem ruled_readEvent : Instr.Ruled (.readEvent p) p anyRole := by
  refine ⟨_, fun _ => rfl, fun s => ?_⟩
  dsimp only
  split
  · exact .accept (by decide) rfl
  · exact .accept (by decide) rfl

theorem ruled_setEventEnables (e : Quad) : Instr.Ruled (.setEventEnables p e) p anyRole := by
  refine ⟨_, fun _ => rfl, fun s => ?_⟩
  split
  · exact .accept (by decide) rfl
  · exact .refuse _

theorem ruled_portReset : Instr.Ruled (.portReset p) p anyRole := ⟨_, fun _ => rfl, fun _ => .accept (by decide) rfl⟩

end Commands

/-- A frame that carries a command of the summary runs the command's rule on the roles the summary lists for its code. -/
theorem ruled_of_frame {i : Instr} {p : Port} {code : Byte} {parameters : List Byte} (frame : framePort i = some p)
    (parts : frameParts i = some (code, parameters)) (known : (parameterCount code.toNat).isSome = true) (formed : i.wellFormed = true) :
    Instr.Ruled i p (summaryRoles code.toNat) := by
  cases i <;> cases frame <;> cases parts
  case attach => exact ruled_attach _ _ _ _
  case release => exact ruled_release _ _ _ _ _
  case keepalive => exact ruled_keepalive _ _
  case usage => exact ruled_usage _ _ _ _ _
  case zoneReport => exact ruled_zoneReport _ _
  case linkReport => exact ruled_linkReport _ _ _ _ _ _
  case swapConfirm => exact ruled_swapConfirm _ _
  case loadZone => exact ruled_loadZone _ _ _ _ _ _
  case loadLink => exact ruled_loadLink _ _ _ _ _ _ _
  case loadPriceRow => exact ruled_loadPriceRow _ _ _ _ _ _ _ _
  case setSurcharges => exact ruled_setSurcharges _ _ _ _ _
  case setDiscounts => exact ruled_setDiscounts _ _ _ _ _ _ _ _ _
  case setOffPeakWindow => exact ruled_setOffPeakWindow _ _ _
  case loadAgreement => exact ruled_loadAgreement _ _ _ _ _ _ _ _
  case accountSet => exact ruled_accountSet _ _ _ _ _ _
  case accountAdjust => exact ruled_accountAdjust _ _ _ _
  case setSessionFlags => exact ruled_setSessionFlags _ _ _
  case clearSessionFlags => exact ruled_clearSessionFlags _ _ _
  case closeSession => exact ruled_closeSession _ _
  case readRecord => exact ruled_readRecord _
  case dropRecord => exact ruled_dropRecord _
  case readQueueMark => exact ruled_readQueueMark _
  case setClock => exact ruled_setClock _ _ _ _ _ _ _ _
  case setTrim => exact ruled_setTrim _ _ _
  case setParameter => exact ruled_setParameter _ _ _
  case readStatus => exact ruled_readStatus _
  case readSessionByHandle => exact ruled_readSessionByHandle _ _
  case readSessionByIdentity => exact ruled_readSessionByIdentity _ _
  case readAccount => exact ruled_readAccount _ _
  case readAgreement => exact ruled_readAgreement _ _
  case readLink => exact ruled_readLink _ _
  case readZone => exact ruled_readZone _ _
  case readClock => exact ruled_readClock _
  case readEvent => exact ruled_readEvent _
  case setEventEnables => exact ruled_setEventEnables _ _
  case portReset => exact ruled_portReset _
  case unknownCommand => simp [Instr.wellFormed, Option.isNone_iff_eq_none] at formed; simp [formed] at known

end Sys2Proof.Machine

/-! The statements over every command: a step runs the front command, every command completes, the ports' checks, refusals, and how
frames read back. -/

namespace Sys2Proof.Machine

/-! ### A step (O1, O2) -/

/-- Settles O1. -/
theorem stepRunsFrontCommand : Obligations.StepRunsFrontCommand := by
  intro s i rest waiting
  simp only [step, waiting]

/-- Settles O2. -/
theorem idleStepPassesOnePeriod : Obligations.IdleStepPassesOnePeriod := by
  intro s idle
  have ticks : step s = .next s.tick := by simp only [step, idle]
  refine ⟨fun quiet => ?_, fun i rest due => ?_⟩
  · rw [ticks, State.tick, quiet]
  · simp only [ticks, State.tick, State.takeDue, due, idle, List.nil_append]

/-! ### Commands and frames -/

/-- A frame carries a command of the summary, or a code that is not in it, or it is truncated. -/
theorem frame_cases {i : Instr} {p : Port} (frame : framePort i = some p) (formed : i.wellFormed = true) :
    (∃ code parameters, frameParts i = some (code, parameters) ∧ (parameterCount code.toNat).isSome = true)
      ∨ (∃ code, i = .unknownCommand p code ∧ parameterCount code.toNat = none) ∨ i = .truncatedFrame p := by
  cases i <;> cases frame
  case unknownCommand code => exact .inr (.inl ⟨code, rfl, Option.isNone_iff_eq_none.mp formed⟩)
  case truncatedFrame => exact .inr (.inr rfl)
  all_goals exact .inl ⟨_, _, rfl, rfl⟩

/-- A frame whose code is not in the command summary (R188). -/
theorem exec_unknownCommand {p : Port} {code : Byte} (unknown : parameterCount code.toNat = none) (s : State) :
    exec (.unknownCommand p code) s = .next (s.command p [] fun t => (t, Reply.bare .ok)) ∧ s.power.supervisor ≠ .running
      ∨ exec (.unknownCommand p code) s = .next (s.withFrame p (.answered .unknown [])) ∧ s.power.supervisor = .running := by
  have meaning : exec (.unknownCommand p code) s = execUnknownCommand p code s := rfl
  rw [meaning]
  unfold execUnknownCommand State.command
  cases supervisor : s.power.supervisor <;> simp [unknown]
  rfl

/-- A truncated frame where a port acts (R187). -/
theorem exec_truncatedFrame {s : State} (on : s.power.supervisor ≠ .off) (p : Port) :
    exec (.truncatedFrame p) s = .next (s.setPort p { s.port p with truncated := true, frame := .idle }) := by
  change execTruncatedFrame p s = _
  simp only [execTruncatedFrame, on, if_false]

theorem State.command_off {s : State} (off : s.power.supervisor = .off) (p : Port) (roles : List Port)
    (rule : State → State × Reply) : s.command p roles rule = s := by
  simp only [State.command, off]

theorem State.command_waits {s : State}
    (waits : s.power.supervisor = .reset ∨ s.power.supervisor = .initializing ∨ s.power.supervisor = .flushed) (p : Port)
    (roles : List Port) (rule : State → State × Reply) : s.command p roles rule = s.withFrame p (.answered .state []) := by
  obtain reset | initializing | flushed := waits
  · simp only [State.command, reset]; rfl
  · simp only [State.command, initializing]; rfl
  · simp only [State.command, flushed]; rfl

theorem State.command_unlisted {s : State} (running : s.power.supervisor = .running) {p : Port} {roles : List Port}
    (unlisted : p ∉ roles) (rule : State → State × Reply) : s.command p roles rule = s.withFrame p (.answered .role []) := by
  simp only [State.command, running, if_neg unlisted]
  rfl

/-- What a command frame leads to: nothing in OFF; elsewhere the frame with its status and response, over the state its rule gives
when it is taken and over the state as it was when it is refused. -/
theorem State.command_cases {s : State} {p : Port} {roles : List Port} {answers : Status → Prop} {rule : State → State × Reply}
    (rules : s.Rules answers (rule s)) (on : s.power.supervisor ≠ .off) :
    ∃ t st response, s.command p roles rule = t.withFrame p (.answered st response) ∧ t.pending = s.pending
      ∧ (16 ≤ st.code → t = s ∧ (response = [] ∨ answers st)) := by
  by_cases running : s.power.supervisor = .running
  · by_cases listed : p ∈ roles
    · exact ⟨_, _, _, State.command_eq running listed rule, rules.pending, rules.refusal⟩
    · exact ⟨s, _, _, State.command_unlisted running listed rule, rfl, fun _ => ⟨rfl, .inl rfl⟩⟩
  · have waits : s.power.supervisor = .reset ∨ s.power.supervisor = .initializing ∨ s.power.supervisor = .flushed := by
      cases supervisor : s.power.supervisor <;> simp_all
    exact ⟨s, _, _, State.command_waits waits p roles rule, rfl, fun _ => ⟨rfl, .inl rfl⟩⟩

/-- A frame of a command outside OFF is answered; a refusal leaves the state as it was. -/
theorem exec_answers {i : Instr} {p : Port} {code : Byte} {parameters : List Byte} {s : State} (formed : i.wellFormed = true)
    (frame : framePort i = some p) (parts : frameParts i = some (code, parameters)) (on : s.power.supervisor ≠ .off) :
    ∃ t st response, exec i s = .next (t.withFrame p (.answered st response)) ∧ t.pending = s.pending
      ∧ (16 ≤ st.code → t = s ∧ (response = [] ∨ Instr.informs i st)) := by
  obtain ⟨code', parameters', parts', known⟩ | ⟨code', rfl, unknown⟩ | rfl := frame_cases frame formed
  · obtain ⟨rule, runs, rules⟩ := ruled_of_frame frame parts' known formed
    rw [runs]
    obtain ⟨t, st, response, answered, rest⟩ := State.command_cases (roles := summaryRoles code'.toNat) (p := p) (rules s) on
    exact ⟨t, st, response, congrArg _ answered, rest⟩
  · obtain ⟨answered, -⟩ | ⟨answered, -⟩ := exec_unknownCommand (p := p) unknown s
    · rw [answered]
      obtain ⟨t, st, response, framed, rest⟩ :=
        State.command_cases (roles := []) (p := p) (rule := fun t => (t, Reply.bare .ok))
          (State.Rules.accept (st := .ok) (answers := Instr.informs (.unknownCommand p code')) (by decide) (rfl : s.pending = s.pending))
          on
      exact ⟨t, st, response, congrArg _ framed, rest⟩
    · exact ⟨s, .unknown, [], answered, rfl, fun _ => ⟨rfl, .inl rfl⟩⟩
  · cases parts

/-! ### Every command completes (O3) -/

/-- An event runs to a next state and leaves the queue of commands as it is. -/
theorem exec_event {i : Instr} (event : framePort i = none) (s : State) : ∃ t, exec i s = .next t ∧ t.pending = s.pending := by
  have steady : ∀ {rule : State → State} (tm : Timer), (∀ u, (rule u).steady = u.steady) → (s.onExpiry tm rule).pending = s.pending :=
    fun tm keeps => State.onExpiry_pending tm fun u => State.pending_of_steady (keeps u)
  cases i <;> cases event
  case lapseSweepVisit =>
    exact ⟨_, rfl, State.onExpiry_pending _ fun u =>
      State.pending_of_steady (s := { u with sweep := u.sweep.advance u.params.lapsePeriod }) (by simp)⟩
  case fixTimerExpires => exact ⟨_, rfl, steady _ fun u => by simp⟩
  case candidateQualifies => exact ⟨_, rfl, steady _ fun u => by split <;> simp⟩
  case restoreTimerExpires => exact ⟨_, rfl, steady _ fun u => by split <;> simp⟩
  case rampTimerExpires => exact ⟨_, rfl, steady _ fun u => by split <;> simp⟩
  case graceTimerExpires => exact ⟨_, rfl, steady _ fun u => by split <;> simp⟩
  case wholeSecond =>
    refine ⟨_, rfl, ?_⟩
    split
    · rw [State.takeSecond_pending, State.elapse_pending]
    · rfl
  case bridgeLineFall =>
    refine ⟨_, rfl, ?_⟩
    unfold State.edge
    dsimp only
    split
    · split <;> rfl
    · rfl
  case bridgeLineRise =>
    refine ⟨_, rfl, ?_⟩
    unfold State.edge
    dsimp only
    split
    · rfl
    · split
      · exact (State.pending_of_steady State.endLow_steady).trans rfl
      · rfl
  case lowReaches30Ms => exact ⟨_, rfl, State.onLow_pending _ _ fun _ => rfl⟩
  case longLow => exact ⟨_, rfl, State.onLow_pending _ _ fun _ => rfl⟩
  case stuck => exact ⟨_, rfl, State.onLow_pending _ _ fun _ => State.pending_of_steady State.reachStuck_steady⟩
  case gapTimerExpires => exact ⟨_, rfl, steady _ fun u => by simp⟩
  case recoveryTimerExpires => exact ⟨_, rfl, steady _ fun u => by simp⟩
  case staleTimerExpires => exact ⟨_, rfl, steady _ fun u => by simp⟩
  case linkQualificationExpires => exact ⟨_, rfl, steady _ fun u => by simp⟩
  case faultTimerExpires => exact ⟨_, rfl, steady _ fun u => by simp⟩
  case holdoffTimerExpires => exact ⟨_, rfl, steady _ fun u => by simp⟩
  case swapTimerExpires => exact ⟨_, rfl, steady _ fun u => by simp⟩
  case dwellTimerExpires =>
    exact ⟨_, rfl, State.onExpiry_pending _ fun u =>
      State.pending_of_steady (s := { u with selector := { u.selector with dwellTimer := none } }) (by simp)⟩
  case settleWindowExpires => exact ⟨_, rfl, steady _ fun u => by simp⟩
  case attentionTimerExpires => exact ⟨_, rfl, steady _ fun u => by simp⟩
  case mainPowerRises =>
    refine ⟨_, rfl, ?_⟩
    split
    · split
      · exact State.beginStart_pending _
      · rfl
    all_goals rfl
  case mainPowerFalls =>
    refine ⟨_, rfl, ?_⟩
    split <;> rfl
  case resetLineFalls =>
    refine ⟨_, rfl, ?_⟩
    split <;> rfl
  case resetLineRises =>
    refine ⟨_, rfl, ?_⟩
    split
    · exact State.beginStart_pending _
    · rfl
  case powerFailWarningRises =>
    refine ⟨_, rfl, ?_⟩
    split
    · exact State.flush_pending
    · rfl
  case powerFailWarningFalls =>
    refine ⟨_, rfl, ?_⟩
    split
    · exact State.beginStart_pending _
    · rfl
  case backupDomainLost =>
    refine ⟨_, rfl, ?_⟩
    split <;> rfl
  case initializationEnds =>
    refine ⟨_, rfl, ?_⟩
    split
    · exact State.endInitialization_pending
    · rfl

/-- Settles O3. -/
theorem wellFormedCommandCompletes : Obligations.WellFormedCommandCompletes := by
  intro i s
  refine ⟨fun formed => ?_, fun illFormed => ?_⟩
  · cases frame : framePort i with
    | none => exact exec_event frame s
    | some p =>
      obtain ⟨code, parameters, parts, known⟩ | ⟨code, rfl, unknown⟩ | rfl := frame_cases frame formed
      · by_cases off : s.power.supervisor = .off
        · obtain ⟨rule, runs, -⟩ := ruled_of_frame frame parts known formed
          exact ⟨s, (runs s).trans (congrArg _ (State.command_off off _ _ _)), rfl⟩
        · obtain ⟨t, st, response, answered, kept, -⟩ := exec_answers formed frame parts off
          exact ⟨_, answered, kept⟩
      · obtain ⟨answered, -⟩ | ⟨answered, -⟩ := exec_unknownCommand (p := p) unknown s
        · refine ⟨_, answered, ?_⟩
          unfold State.command
          split <;> rfl
        · exact ⟨_, answered, rfl⟩
      · refine ⟨_, rfl, ?_⟩
        split <;> rfl
  · cases i
    case unknownCommand p code =>
      have known : (parameterCount code.toNat).isSome = true := by
        simpa [Instr.wellFormed, Option.isSome_iff_ne_none] using illFormed
      change execUnknownCommand p code s = _
      simp only [execUnknownCommand, known, if_true]
    all_goals cases illFormed

/-! ### Stopped timers (O4) -/

theorem State.onExpiry_stopped {s : State} {tm : Timer} (stopped : tm = none) (rule : State → State) : s.onExpiry tm rule = s := by
  simp only [State.onExpiry, stopped]

theorem State.onExpiry_of_stops {s : State} (stops : s.mainRuns = false) (tm : Timer) (rule : State → State) :
    s.onExpiry tm rule = s := by
  unfold State.onExpiry
  split
  · rfl
  · simp [stops]

theorem State.onExpiry_runs {s : State} (runs : s.mainRuns = true) {tm : Timer} {r : Nat} (running : tm = some r)
    (rule : State → State) : s.onExpiry tm rule = rule (s.elapse r) := by
  simp only [State.onExpiry, running, runs, if_true]

theorem State.onLow_of_not_ready {s : State} (length : Nat) {ready : Bool} (rule : State → State)
    (waits : s.bridge.lowTimer = none ∨ (s.mainRuns && ready) = false) : s.onLow length ready rule = s := by
  unfold State.onLow
  split
  · rfl
  · next e low =>
    obtain high | unready := waits
    · simp [low] at high
    · simp [unready]

theorem State.onLow_runs {s : State} {length e : Nat} {ready : Bool} (rule : State → State) (low : s.bridge.lowTimer = some e)
    (runs : s.mainRuns = true) (due : ready = true) : s.onLow length ready rule = rule (s.elapse (length - e)) := by
  simp only [State.onLow, low, runs, due, Bool.and_self, if_true]

/-- Settles O4. -/
theorem stoppedTimersDoNothing : Obligations.StoppedTimersDoNothing := by
  intro s
  refine ⟨fun i stops row => ?_, ?_, ?_, ?_, ?_, ?_, ?_, fun waits => ?_, fun waits => ?_, fun waits => ?_, ?_, ?_, fun j => ?_, ?_,
    ?_, ?_, fun p => ?_, fun still => ?_, fun other => ?_⟩
  · have expiry := State.onExpiry_of_stops stops
    have low := fun (l : Nat) (b : Bool) (rule : State → State) => State.onLow_of_not_ready l (ready := b) rule (s := s)
      (.inr (by simp [stops]))
    obtain row | ⟨j, row⟩ | ⟨p, rfl⟩ := row
    · simp only [List.mem_cons, List.not_mem_nil, or_false] at row
      obtain rfl | rfl | rfl | rfl | rfl | rfl | rfl | rfl | rfl | rfl | rfl | rfl | rfl | rfl := row
      case inr.inr.inr.inr.inr.inr.inl => exact congrArg _ (low _ _ _)
      case inr.inr.inr.inr.inr.inr.inr.inl => exact congrArg _ (low _ _ _)
      case inr.inr.inr.inr.inr.inr.inr.inr.inl => exact congrArg _ (low _ _ _)
      all_goals exact congrArg _ (expiry _ _)
    · simp only [List.mem_cons, List.not_mem_nil, or_false] at row
      obtain rfl | rfl | rfl | rfl := row <;> exact congrArg _ (expiry _ _)
    · exact congrArg _ (expiry _ _)
  · exact fun stopped => congrArg _ (State.onExpiry_stopped stopped _)
  · exact fun stopped => congrArg _ (State.onExpiry_stopped stopped _)
  · exact fun stopped => congrArg _ (State.onExpiry_stopped (by simp [stopped]) _)
  · exact fun stopped => congrArg _ (State.onExpiry_stopped stopped _)
  · exact fun stopped => congrArg _ (State.onExpiry_stopped stopped _)
  · exact fun stopped => congrArg _ (State.onExpiry_stopped stopped _)
  · refine congrArg _ (State.onLow_of_not_ready _ _ (waits.imp id fun taken => ?_))
    simp [Bridge.awaitsPulse, taken]
  · refine congrArg _ (State.onLow_of_not_ready _ _ (waits.imp id fun taken => ?_))
    obtain taken | taken := taken <;> simp [Bridge.awaitsLong, taken]
  · refine congrArg _ (State.onLow_of_not_ready _ _ (waits.imp id fun taken => ?_))
    obtain taken | taken := taken <;> simp [Bridge.awaitsStuck, taken]
  · exact fun stopped => congrArg _ (State.onExpiry_stopped stopped _)
  · exact fun stopped => congrArg _ (State.onExpiry_stopped stopped _)
  · exact ⟨fun stopped => congrArg _ (State.onExpiry_stopped stopped _), fun stopped => congrArg _ (State.onExpiry_stopped stopped _),
      fun stopped => congrArg _ (State.onExpiry_stopped stopped _), fun stopped => congrArg _ (State.onExpiry_stopped stopped _)⟩
  · exact fun stopped => congrArg _ (State.onExpiry_stopped (by simp [stopped]) _)
  · exact fun stopped => congrArg _ (State.onExpiry_stopped stopped _)
  · exact fun stopped => congrArg _ (State.onExpiry_stopped stopped _)
  · exact fun stopped => congrArg _ (State.onExpiry_stopped stopped _)
  · exact congrArg _ (if_neg (by simp [still]))
  · exact congrArg _ (if_neg other)

/-! ### The ports' checks, refusals, and frames without a command (O5, O6, O7) -/

/-- Settles O5. -/
theorem portChecksComeFirst : Obligations.PortChecksComeFirst := by
  intro i p code parameters s formed frame parts
  obtain ⟨code', parameters', parts', known⟩ | ⟨code', rfl, unknown⟩ | rfl := frame_cases frame formed
  · obtain ⟨rfl, rfl⟩ : code' = code ∧ parameters' = parameters := by simpa using parts'.symm.trans parts
    obtain ⟨rule, runs, -⟩ := ruled_of_frame frame parts known formed
    rw [runs]
    exact ⟨fun off => congrArg _ (State.command_off off _ _ _), fun waits => congrArg _ (State.command_waits waits _ _ _),
      fun _ unknown => by simp [unknown] at known, fun running _ unlisted => congrArg _ (State.command_unlisted running unlisted _)⟩
  · obtain ⟨rfl, -⟩ : code' = code ∧ parameters = [] := by simpa [frameParts, eq_comm] using parts
    obtain ⟨answered, idle⟩ | ⟨answered, running⟩ := exec_unknownCommand (p := p) unknown s
    · rw [answered]
      exact ⟨fun off => congrArg _ (State.command_off off _ _ _), fun waits => congrArg _ (State.command_waits waits _ _ _),
        fun running => absurd running idle, fun running => absurd running idle⟩
    · exact ⟨by simp [running], by simp [running], fun _ _ => answered, fun _ known => by simp [unknown] at known⟩
  · cases parts

@[simp] theorem State.withFrame_frame (s : State) (p : Port) (f : Frame) : ((s.withFrame p f).port p).frame = f := by
  simp [State.withFrame, State.setPort, State.port]

/-- Settles O6. -/
theorem refusalLeavesStateUnchanged : Obligations.RefusalLeavesStateUnchanged := by
  intro i p s t st response frame on runs answered refused
  cases formed : i.wellFormed with
  | false => rw [(wellFormedCommandCompletes i s).2 formed] at runs; cases runs
  | true =>
    cases parts : frameParts i with
    | none =>
      obtain ⟨_, _, parts', -⟩ | ⟨_, rfl, -⟩ | rfl := frame_cases frame formed
      · simp [parts] at parts'
      · cases parts
      · rw [exec_truncatedFrame on] at runs
        cases runs
        simp [State.setPort, State.port] at answered
    | some part =>
      obtain ⟨t', st', response', runs', -, unchanged⟩ := exec_answers formed frame parts on
      obtain rfl := Host.Outcome.next.inj (runs.symm.trans runs')
      rw [State.withFrame_frame] at answered
      cases answered
      rw [(unchanged refused).1]

/-- Settles O7. -/
theorem framesWithoutCommand : Obligations.FramesWithoutCommand := by
  intro p s
  refine ⟨fun code unknown running => ?_, fun on => exec_truncatedFrame on p, fun off => ?_, fun running => ?_⟩
  · obtain ⟨-, idle⟩ | ⟨answered, -⟩ := exec_unknownCommand (p := p) unknown s
    · exact absurd running idle
    · exact answered
  · change execTruncatedFrame p s = _
    simp only [execTruncatedFrame, off, if_true]
  · change execReadStatus p s = _
    rw [execReadStatus, State.command_eq running (by cases p <;> simp [anyRole])]
    simp [State.statusBytes, beBytes]

end Sys2Proof.Machine

/-! SUPPORT. How a frame reads back: the value of a field's bytes, the parameter bytes of each command, and the settlement of the
statement about frames. -/

namespace Sys2Proof

/-! ### The value of a field (R198) -/

theorem beValue_append (a b : List Byte) : beValue (a ++ b) = beValue a * 256 ^ b.length + beValue b := by
  induction b using List.reverseRecOn with
  | nil => simp [beValue]
  | append_singleton b x ih =>
    have step : ∀ l : List Byte, beValue (l ++ [x]) = 256 * beValue l + x.toNat := fun l => by simp [beValue]
    rw [← List.append_assoc, step, step, ih, List.length_append, List.length_singleton, pow_succ]
    ring

theorem beValue_beBytes (width n : Nat) (small : n < 256 ^ width) : beValue (Machine.beBytes width n) = n := by
  have value : ∀ w m, beValue (Machine.beBytes w m) = m % 256 ^ w := by
    intro w
    induction w with
    | zero => intro m; simp [Machine.beBytes, beValue, Nat.mod_one]
    | succ w ih =>
      intro m
      have cons : Machine.beBytes (w + 1) m = [BitVec.ofNat 8 (m / 256 ^ w)] ++ Machine.beBytes w m := rfl
      have head : beValue [BitVec.ofNat 8 (m / 256 ^ w)] = m / 256 ^ w % 256 := by simp [beValue]
      rw [cons, beValue_append, Laws.beBytes_length, head, ih m, pow_succ, Nat.mod_mul]
      ring
  rw [value, Nat.mod_eq_of_lt small]

/-- A field of `width` bytes reads back from its bytes. -/
theorem beField_beBytes {w : Nat} (width : Nat) (x : BitVec w) (fits : w = 8 * width) : beField w (Machine.beBytes width x.toNat) = x := by
  have small : x.toNat < 256 ^ width := by
    calc x.toNat < 2 ^ w := x.isLt
      _ = 256 ^ width := by rw [fits, pow_mul]; norm_num
  rw [beField, beValue_beBytes _ _ small, BitVec.ofNat_toNat, BitVec.setWidth_eq]

/-- The parameter bytes of a command of the summary spell the command. -/
theorem readCommand_parameters {i : Instr} {p : Port} {code : Byte} {parameters : List Byte} (frame : Machine.framePort i = some p)
    (parts : frameParts i = some (code, parameters)) (known : (parameterCount code.toNat).isSome = true) (formed : i.wellFormed = true) :
    readCommand p code.toNat parameters = some i := by
  have w2 : ∀ x : Half, beField 16 (Machine.beBytes 2 x.toNat) = x := fun x => beField_beBytes 2 x rfl
  have w3 : ∀ x : CodeWord, beField 24 (Machine.beBytes 3 x.toNat) = x := fun x => beField_beBytes 3 x rfl
  have w4 : ∀ x : Quad, beField 32 (Machine.beBytes 4 x.toNat) = x := fun x => beField_beBytes 4 x rfl
  have w6 : ∀ x : Value48, beField 48 (Machine.beBytes 6 x.toNat) = x := fun x => beField_beBytes 6 x rfl
  have w8 : ∀ x : IdentityWord, beField 64 (Machine.beBytes 8 x.toNat) = x := fun x => beField_beBytes 8 x rfl
  simp [Machine.beBytes] at w2 w3 w4 w6 w8
  cases i <;> cases frame <;> cases parts
  case unknownCommand =>
    rw [Instr.wellFormed, Option.isNone_iff_eq_none] at formed
    simp [formed] at known
  all_goals simp [readCommand, Machine.beBytes, w2, w3, w4, w6, w8]

/-- The parameter bytes of a command are as many as the command summary says (11.3). -/
theorem parameters_length {i : Instr} {code : Byte} {parameters : List Byte} (formed : i.wellFormed = true)
    (parts : frameParts i = some (code, parameters)) : parameters.length = (parameterCount code.toNat).getD 0 := by
  cases i
  case unknownCommand => exact Laws.FrameLength.unknownCommand _ _ formed _ _ parts
  all_goals cases parts
  all_goals simp [parameterCount]

/-! ### Reading a frame (R186, R187, R188) -/

theorem readFrame_unknown (p : Port) {code : Byte} (unknown : parameterCount code.toNat = none) (rest : List ClockedByte) :
    readFrame p (⟨false, code⟩ :: rest) = some (.unknownCommand p code) := by
  simp [readFrame, unknown]

/-- A frame whose parameter bytes are complete is read as its command, whatever follows. -/
theorem readFrame_whole (p : Port) {code : Byte} {parameters : List Byte} (extra : List ClockedByte)
    (whole : parameterCount code.toNat = some parameters.length) :
    readFrame p (⟨false, code⟩ :: (parameters.map fun b => ⟨true, b⟩) ++ extra) = readCommand p code.toNat parameters := by
  have taken : ((parameters.map fun b => (⟨true, b⟩ : ClockedByte)) ++ extra).take parameters.length =
      parameters.map fun b => ⟨true, b⟩ := by
    rw [List.take_append_of_le_length (by simp), List.take_of_length_le (by simp)]
  simp [readFrame, whole, taken, Function.comp_def]

/-- A frame that ends before its last parameter byte is truncated. -/
theorem readFrame_short (p : Port) {code : Byte} {n : Nat} (count : parameterCount code.toNat = some n) {rest : List ClockedByte}
    (short : rest.length < n) : readFrame p (⟨false, code⟩ :: rest) = some (.truncatedFrame p) := by
  have few : ¬ min n rest.length = n := by omega
  simp [readFrame, count, few]

theorem readFrame_encode {i : Instr} {p : Port} {bytes : List ClockedByte} (formed : i.wellFormed = true)
    (frame : Machine.framePort i = some p) (spelt : encode i = some bytes) (extra : List ClockedByte) :
    readFrame p (bytes ++ extra) = some i
      ∧ ∀ n, 0 < n → n < bytes.length → readFrame p (bytes.take n) = some (.truncatedFrame p) := by
  obtain ⟨⟨code, parameters⟩, parts, rfl⟩ := Option.map_eq_some_iff.mp spelt
  have count := parameters_length formed parts
  obtain ⟨code', parameters', parts', known⟩ | ⟨code', rfl, unknown⟩ | rfl := Machine.frame_cases frame formed
  · obtain ⟨rfl, rfl⟩ : code' = code ∧ parameters' = parameters := by simpa using parts'.symm.trans parts
    obtain ⟨k, counted⟩ := Option.isSome_iff_exists.mp known
    obtain rfl : parameters'.length = k := by simpa [counted] using count
    refine ⟨(readFrame_whole p extra counted).trans (readCommand_parameters frame parts known formed), fun n positive short => ?_⟩
    obtain ⟨m, rfl⟩ : ∃ m, n = m + 1 := ⟨n - 1, by omega⟩
    rw [List.take_succ_cons]
    refine readFrame_short p counted ?_
    simp only [List.length_cons, List.length_map] at short
    simp only [List.length_take, List.length_map]
    omega
  · obtain ⟨rfl, rfl⟩ : code' = code ∧ parameters = [] := by simpa [frameParts, eq_comm] using parts
    refine ⟨readFrame_unknown p unknown _, fun n positive short => ?_⟩
    simp only [List.map_nil, List.length_singleton] at short
    omega
  · cases parts

end Sys2Proof

namespace Sys2Proof.Machine

theorem State.sends_withFrame (s : State) (p : Port) (f : Frame) (n k : Nat) : (s.withFrame p f).sends p n k = f.sends n k := by
  rw [State.sends, State.withFrame_frame]

/-- Settles O8. -/
theorem frameReadsBack : Obligations.FrameReadsBack := by
  refine ⟨fun i p bytes extra formed frame spelt => readFrame_encode formed frame spelt extra,
    fun i p code parameters n s formed frame parts _ on => ?_, fun p s on => ⟨_, exec_truncatedFrame on p, fun n k => ?_⟩⟩
  · obtain ⟨t, st, response, runs, -, refused⟩ := exec_answers formed frame parts on
    refine ⟨_, st, response, runs, fun k early => ?_, ?_, ?_, fun k inside => ?_, fun k past => ?_, fun high => ?_⟩
    · rw [State.sends_withFrame, Frame.sends_before _ _ early]
    · rw [State.sends_withFrame, Frame.sends_filler]
    · rw [State.sends_withFrame, Frame.sends_status]
    · rw [State.sends_withFrame, Frame.sends_response, List.getElem?_eq_getElem inside, List.getD_eq_getElem _ _ inside]
    · rw [State.sends_withFrame, Frame.sends_response, List.getD_eq_default _ _ past]
    · obtain empty | ⟨⟨q, x, a, b, rfl⟩, closing⟩ | ⟨⟨q, b, rfl⟩, late⟩ := (refused high).2
      · exact .inl empty
      · obtain rfl : q = p := by simpa [framePort] using frame
        exact .inr (.inl ⟨⟨x, a, b, rfl⟩, closing⟩)
      · obtain rfl : q = p := by simpa [framePort] using frame
        exact .inr (.inr ⟨⟨b, rfl⟩, late⟩)
  · simp [State.sends, State.setPort, State.port]

end Sys2Proof.Machine

/-! The reads and the purser's figures: what the read commands answer, and what the figures and the parameters are clamped to. -/

namespace Sys2Proof.Machine

/-! ### Reads (O16) -/

theorem mem_anyRole (p : Port) : p ∈ anyRole := by cases p <;> simp [anyRole]

/-- A command that any port may give, in RUNNING. -/
theorem State.command_any {s : State} (running : s.power.supervisor = .running) (p : Port) (rule : State → State × Reply) :
    s.command p anyRole rule = (rule s).1.withFrame p (.answered (rule s).2.status (rule s).2.response) :=
  State.command_eq running (mem_anyRole p) rule

theorem maskByte_eq (a b c d : Bool) :
    maskBit a 0 ||| maskBit b 1 ||| maskBit c 2 ||| maskBit d 3 =
      (if a then 1 else 0) + (if b then 2 else 0) + (if c then 4 else 0) + (if d then 8 else 0) := by
  revert a b c d
  decide

theorem SessionState.code_byte (x : SessionState) : BitVec.ofNat 8 x.code =
    (match x with | .free => 0 | .active => 1 | .suspended => 2 | .draining => 3 | .closing => 4 : Byte) := by
  cases x <;> rfl

theorem Basis.code_byte (x : Option Basis) : optByte (x.map Basis.code) =
    (match x with | some .roaming => 0 | some .onboard => 1 | none => 255 : Byte) := by
  obtain _ | _ | _ := x <;> rfl

theorem optByte_eq (x : Option Nat) : optByte x = (match x with | some i => BitVec.ofNat 8 i | none => 255 : Byte) := by
  cases x <;> rfl

theorem CloseReason.code_byte (x : Option CloseReason) : BitVec.ofNat 8 ((x.map CloseReason.code).getD 0) =
    (match x with | none => 0 | some .released => 1 | some .lapsed => 2 | some .coverageEnd => 3 | some .purser => 4 : Byte) := by
  obtain _ | _ | _ | _ | _ := x <;> rfl

theorem Period.code_byte (x : Period) : BitVec.ofNat 8 x.code = if x = .offpeak then 1 else 0 := by
  cases x <;> rfl

/-- Settles O16. -/
theorem readsChangeNothing : Obligations.ReadsChangeNothing := by
  intro s p running
  have any := State.command_any running p
  refine ⟨fun handle => ⟨fun past => ?_, fun inside => ?_⟩, fun x => ⟨fun bad => ?_, fun good unheld => ?_, fun h good holds => ?_⟩,
    fun a => ?_, fun i => ⟨fun past => ?_, fun inside => ?_⟩, fun b past => ?_, fun b i slot => ?_, fun b past => ?_,
    fun b inside => ?_, ?_, fun x h place => ?_, fun g => ?_⟩
  · change execReadSessionByHandle p handle s = _
    rw [execReadSessionByHandle, any, handleOf_of_le past] <;> rfl
  · change execReadSessionByHandle p handle s = _
    rw [execReadSessionByHandle, any, handleOf_of_lt inside] <;> rfl
  · change execReadSessionByIdentity p x s = _
    rw [execReadSessionByIdentity, any, bad] <;> rfl
  · change execReadSessionByIdentity p x s = _
    rw [execReadSessionByIdentity, any, good, unheld] <;> rfl
  · change execReadSessionByIdentity p x s = _
    rw [execReadSessionByIdentity, any, good, holds] <;> rfl
  · change execReadAccount p a s = _
    rw [execReadAccount, any]
  · change execReadAgreement p i s = _
    rw [execReadAgreement, any, agreementOf_of_le past] <;> rfl
  · change execReadAgreement p i s = _
    rw [execReadAgreement, any, agreementOf_of_lt inside]
  · change execReadLink p b s = _
    rw [execReadLink, any, slotOf_of_le past] <;> rfl
  · change execReadLink p b s = _
    rw [execReadLink, any, slotOf_of_val slot]
  · change execReadZone p b s = _
    rw [execReadZone, any, zoneOf_of_le past] <;> rfl
  · change execReadZone p b s = _
    rw [execReadZone, any, zoneOf_of_lt inside]
  · change execReadClock p s = _
    rw [execReadClock, any]
    simp [Calendar.bytes, trimBytes]
  · simp [Session.bytes, beBytes, Calendar.bytes, Reasons.byte, Flags.byte, maskByte_eq]
    exact ⟨x.state.code_byte, Basis.code_byte x.basis, optByte_eq x.agreement, CloseReason.code_byte x.closeReason⟩
  · simp [Segment.bytes, Context.bytes, flagByte, Period.code_byte]

end Sys2Proof.Machine

/-! The purser's figures and the parameters: the clamps and what each command writes. -/

namespace Sys2Proof.Machine

theorem clampStatus_of_iff {b : Bool} {c : Prop} [Decidable c] (fits : b = false ↔ c) :
    clampStatus b = if c then .ok else .clamped := by
  cases b with
  | true => rw [if_neg (by simpa using fits)]; rfl
  | false => rw [if_pos (by simpa using fits)]; rfl

theorem clampTo_eq_self_iff {low high n : Nat} (ordered : low ≤ high) : clampTo low high n = n ↔ low ≤ n ∧ n ≤ high := by
  unfold clampTo
  omega

/-- The numbers of the plain parameters with their ranges (R190). -/
def plainRanges : List (Nat × Nat × Nat) :=
  [(3, 5, 120), (4, 0, 300), (5, 0, 600), (6, 1, 64), (7, 30, 600), (8, 1, 60), (9, 1, 30), (10, 1, 600), (11, 5, 120), (12, 0, 600),
    (14, 100, 1000), (15, 2, 60), (16, 0, 10)]

theorem plainRange_of_mem : ∀ r ∈ plainRanges,
    plainRange r.1 = some r.2 ∧ r.1 ≠ 1 ∧ r.1 ≠ 2 ∧ r.1 ≠ 13 ∧ r.2.1 ≤ r.2.2 := by decide

/-- A parameter written at its number is read back there, and at no other number. -/
theorem Params.plain_putPlain (q : Params) {number : Nat} (plain : number ∈ plainRanges.map Prod.fst) (v n : Nat) :
    (q.putPlain number v).plain n = if n = number then v else q.plain n := by
  have numbers : number = 3 ∨ number = 4 ∨ number = 5 ∨ number = 6 ∨ number = 7 ∨ number = 8 ∨ number = 9 ∨ number = 10
      ∨ number = 11 ∨ number = 12 ∨ number = 14 ∨ number = 15 ∨ number = 16 := by simpa [plainRanges] using plain
  obtain rfl | rfl | rfl | rfl | rfl | rfl | rfl | rfl | rfl | rfl | rfl | rfl | rfl := numbers <;>
    (unfold Params.plain Params.putPlain; split <;> simp_all)

/-- The parameters with rules of their own are no plain ones. -/
theorem Params.putPlain_frame (q : Params) (number v : Nat) :
    (q.putPlain number v).permissiveQual = q.permissiveQual ∧ (q.putPlain number v).restrictiveQual = q.restrictiveQual
      ∧ (q.putPlain number v).healthUpper = q.healthUpper ∧ (q.putPlain number v).healthLower = q.healthLower := by
  unfold Params.putPlain
  split <;> exact ⟨rfl, rfl, rfl, rfl⟩

theorem Params.write_unknown (q : Params) {number : Nat} (unknown : number = 0 ∨ 17 ≤ number) (value : Half) :
    q.write number value = none := by
  have range : plainRange number = none := by
    unfold plainRange
    split <;> first | rfl | omega
  simp only [Params.write, range, if_neg (show ¬ number = 1 by omega), if_neg (show ¬ number = 2 by omega),
    if_neg (show ¬ number = 13 by omega)]

theorem Params.write_plain (q : Params) {number low high : Nat} (plain : (number, low, high) ∈ plainRanges) (value : Half) :
    q.write number value =
      some (q.putPlain number (clampTo low high value.toNat), q.plain number, clampTo low high value.toNat != value.toNat) := by
  obtain ⟨range, one, two, thirteen, -⟩ := plainRange_of_mem _ plain
  dsimp only at range one two thirteen
  simp only [Params.write, range, if_neg one, if_neg two, if_neg thirteen]

theorem pair_toNat (upper lower : Byte) : (upper ++ lower).toNat = 256 * upper.toNat + lower.toNat := by
  rw [BitVec.toNat_append, ← Nat.shiftLeft_add_eq_or_of_lt lower.isLt, Nat.shiftLeft_eq]
  ring

/-- The health thresholds come as a pair of bytes (R190). -/
theorem Params.write_thresholds (q : Params) (upper lower : Byte) :
    q.write 13 (upper ++ lower) =
      if min 100 upper.toNat ≤ min 100 lower.toNat then none
      else some ({ q with healthUpper := min 100 upper.toNat, healthLower := min 100 lower.toNat },
        q.healthUpper * 256 + q.healthLower, min 100 upper.toNat != upper.toNat || min 100 lower.toNat != lower.toNat) := by
  have high : (upper ++ lower).toNat / 256 = upper.toNat := by rw [pair_toNat]; omega
  have low : (upper ++ lower).toNat % 256 = lower.toNat := by rw [pair_toNat]; omega
  simp [Params.write, high, low]

/-- Settles O42. -/
theorem purserFiguresClamped : Obligations.PurserFiguresClamped := by
  intro s running
  refine ⟨fun plan cls dp di vp vi mp old => ⟨fun past => ?_, fun planIn clsIn row => ?_⟩, fun a b c d old figures => ?_,
    fun a b c d e f g h old figures => ?_, fun number value past => ?_, fun value => ?_, fun value => ?_,
    fun upper lower value pair => ⟨fun crossed => ?_, fun ordered => ?_⟩, fun number value low high plain => ?_⟩
  · change execLoadPriceRow .purser plan cls dp di vp vi mp s = _
    rw [execLoadPriceRow, State.command_eq running (by simp), if_neg (by omega)]
    rfl
  · change execLoadPriceRow .purser plan cls dp di vp vi mp s = _
    rw [execLoadPriceRow, State.command_eq running (by simp), if_pos (by omega)]
    have status : clampStatus (clampTo 1 1024 di.toNat != di.toNat || clampTo 1 60 vi.toNat != vi.toNat) =
        if 1 ≤ di.toNat ∧ di.toNat ≤ 1024 ∧ 1 ≤ vi.toNat ∧ vi.toNat ≤ 60 then .ok else .clamped :=
      clampStatus_of_iff (by simp [clampTo_eq_self_iff, and_assoc])
    simp only [status]
    rw [← row]
    rfl
  · change execSetSurcharges .purser a b c d s = _
    rw [execSetSurcharges, State.command_eq running (by simp)]
    simp only [figures]
    rw [clampStatus_of_iff (c := a.toNat ≤ 400 ∧ b.toNat ≤ 400 ∧ c.toNat ≤ 400 ∧ d.toNat ≤ 400) (by simp)]
  · change execSetDiscounts .purser a b c d e f g h s = _
    rw [execSetDiscounts, State.command_eq running (by simp)]
    simp only [figures]
    rw [clampStatus_of_iff (c := a.toNat ≤ 100 ∧ b.toNat ≤ 100 ∧ c.toNat ≤ 100 ∧ d.toNat ≤ 100 ∧ e.toNat ≤ 100 ∧ f.toNat ≤ 100
      ∧ g.toNat ≤ 100 ∧ h.toNat ≤ 100) (by simp)]
  · change execSetParameter .purser number value s = _
    have unknown : s.params.write number.toNat value = none :=
      s.params.write_unknown (past.imp (fun zero => by simp [zero]) id) value
    rw [execSetParameter, State.command_eq running (by simp), unknown]
    rfl
  · change execSetParameter .purser 1 value s = _
    rw [execSetParameter, State.command_eq running (by simp)]
    have status : clampStatus (min 60 value.toNat != value.toNat || decide (min 60 value.toNat < s.params.restrictiveQual)) =
        if 60 < value.toNat ∨ value.toNat < s.params.restrictiveQual ∨ 60 < s.params.restrictiveQual then .clamped else .ok := by
      rw [clampStatus_of_iff (c := ¬ (60 < value.toNat ∨ value.toNat < s.params.restrictiveQual ∨ 60 < s.params.restrictiveQual))
        (by simp; omega), ite_not]
    rw [← status]
    rfl
  · change execSetParameter .purser 2 value s = _
    rw [execSetParameter, State.command_eq running (by simp)]
    have status : clampStatus (min (min 10 value.toNat) s.params.permissiveQual != value.toNat) =
        if 10 < value.toNat ∨ s.params.permissiveQual < value.toNat then .clamped else .ok := by
      rw [clampStatus_of_iff (c := ¬ (10 < value.toNat ∨ s.params.permissiveQual < value.toNat)) (by simp; omega), ite_not]
    rw [← status]
    rfl
  · change execSetParameter .purser 13 value s = _
    have refused : s.params.write (13 : Byte).toNat value = none := by
      rw [pair]
      exact (s.params.write_thresholds upper lower).trans (if_pos crossed)
    rw [execSetParameter, State.command_eq running (by simp), refused]
    rfl
  · change execSetParameter .purser 13 value s = _
    have taken := (s.params.write_thresholds upper lower).trans (if_neg (Nat.not_le.mpr ordered))
    rw [execSetParameter, State.command_eq running (by simp), pair, show (13 : Byte).toNat = 13 from rfl, taken]
    dsimp only
    rw [clampStatus_of_iff (c := ¬ (100 < upper.toNat ∨ 100 < lower.toNat)) (by simp), ite_not]
  · change ∃ _, execSetParameter .purser number value s = _ ∧ _
    obtain ⟨-, -, -, -, ordered⟩ := plainRange_of_mem _ plain
    obtain ⟨permissive, restrictive, upper, lower⟩ := s.params.putPlain_frame number.toNat (clampTo low high value.toNat)
    have read := s.params.plain_putPlain (List.mem_map_of_mem (f := Prod.fst) plain) (clampTo low high value.toNat)
    refine ⟨s.params.putPlain number.toNat (clampTo low high value.toNat), ?_, (read _).trans (if_pos rfl),
      fun n differs => (read n).trans (if_neg differs), permissive, restrictive, upper, lower⟩
    rw [execSetParameter, State.command_eq running (by simp), s.params.write_plain plain]
    dsimp only
    rw [clampStatus_of_iff (c := low ≤ value.toNat ∧ value.toNat ≤ high) (by simp [clampTo_eq_self_iff ordered])]

end Sys2Proof.Machine

/-! The ship's clock: the calendar's carries, whole seconds, the commands that set the clock, and the settle window. -/

namespace Sys2Proof.Machine

/-! ### The calendar (R125, O37) -/

theorem Calendar.valid_iff (c : Calendar) : c.valid = true ↔
    c.seconds ≤ 59 ∧ c.minutes ≤ 59 ∧ c.hours ≤ 23 ∧ 1 ≤ c.month ∧ c.month ≤ 12 ∧ c.year ≤ 99 ∧ 1 ≤ c.dayOfWeek ∧ c.dayOfWeek ≤ 7
      ∧ 1 ≤ c.date ∧ c.date ≤ lastDate c.month c.year := by
  simp [Calendar.valid, and_assoc]

theorem lastDate_bounds (month year : Nat) : 28 ≤ lastDate month year ∧ lastDate month year ≤ 31 := by
  unfold lastDate
  split_ifs <;> omega

/-- The last date of January to December, by the month (R125). -/
theorem lastDate_eq {month : Nat} (low : 1 ≤ month) (high : month ≤ 12) (year : Nat) : lastDate month year =
    if month ∈ [1, 3, 5, 7, 8, 10, 12] then 31 else if month ∈ [4, 6, 9, 11] then 30 else if year % 4 = 0 then 29 else 28 := by
  unfold lastDate
  simp only [List.mem_cons, List.not_mem_nil, or_false]
  split_ifs <;> omega

section Advance

variable {c : Calendar}

theorem Calendar.advance_second (inside : c.seconds ≠ 59) : c.advance = { c with seconds := c.seconds + 1 } := if_neg inside

theorem Calendar.advance_minute (last : c.seconds = 59) (inside : c.minutes ≠ 59) :
    c.advance = { c with seconds := 0, minutes := c.minutes + 1 } := by
  rw [Calendar.advance, if_pos last, if_neg inside]

theorem Calendar.advance_hour (last : c.seconds = 59) (lastMinute : c.minutes = 59) (inside : c.hours ≠ 23) :
    c.advance = { c with seconds := 0, minutes := 0, hours := c.hours + 1 } := by
  rw [Calendar.advance, if_pos last, if_pos lastMinute, Calendar.nextHour, if_neg inside]

/-- The next day of the week (R125). -/
theorem nextDay_eq {day : Nat} (low : 1 ≤ day) (high : day ≤ 7) : (if day = 7 then 1 else day + 1) = day % 7 + 1 := by
  split <;> omega

theorem Calendar.advance_date (last : c.seconds = 59) (lastMinute : c.minutes = 59) (lastHour : c.hours = 23)
    (inside : c.date ≠ lastDate c.month c.year) :
    c.advance = ⟨0, 0, 0, c.date + 1, c.month, c.year, if c.dayOfWeek = 7 then 1 else c.dayOfWeek + 1⟩ := by
  rw [Calendar.advance, if_pos last, if_pos lastMinute, Calendar.nextHour, if_pos lastHour, Calendar.nextDate, if_neg inside]

theorem Calendar.advance_month (last : c.seconds = 59) (lastMinute : c.minutes = 59) (lastHour : c.hours = 23)
    (ends : c.date = lastDate c.month c.year) (inside : c.month ≠ 12) :
    c.advance = ⟨0, 0, 0, 1, c.month + 1, c.year, if c.dayOfWeek = 7 then 1 else c.dayOfWeek + 1⟩ := by
  rw [Calendar.advance, if_pos last, if_pos lastMinute, Calendar.nextHour, if_pos lastHour, Calendar.nextDate, if_pos ends,
    Calendar.nextMonth, if_neg inside]

theorem Calendar.advance_year (last : c.seconds = 59) (lastMinute : c.minutes = 59) (lastHour : c.hours = 23)
    (ends : c.date = lastDate c.month c.year) (lastMonth : c.month = 12) :
    c.advance = ⟨0, 0, 0, 1, 1, if c.year = 99 then 0 else c.year + 1, if c.dayOfWeek = 7 then 1 else c.dayOfWeek + 1⟩ := by
  rw [Calendar.advance, if_pos last, if_pos lastMinute, Calendar.nextHour, if_pos lastHour, Calendar.nextDate, if_pos ends,
    Calendar.nextMonth, if_pos lastMonth, Calendar.nextYear]

/-- A date of the calendar is followed by a date of the calendar. -/
theorem Calendar.valid_advance (valid : c.valid = true) : c.advance.valid = true := by
  rw [Calendar.valid_iff] at valid ⊢
  obtain ⟨second, minute, hour, january, december, year, monday, sunday, first, date⟩ := valid
  by_cases last : c.seconds = 59
  · by_cases lastMinute : c.minutes = 59
    · by_cases lastHour : c.hours = 23
      · have day : 1 ≤ (if c.dayOfWeek = 7 then 1 else c.dayOfWeek + 1) ∧ (if c.dayOfWeek = 7 then 1 else c.dayOfWeek + 1) ≤ 7 := by
          split <;> omega
        by_cases ends : c.date = lastDate c.month c.year
        · by_cases lastMonth : c.month = 12
          · have days := (lastDate_bounds 1 (if c.year = 99 then 0 else c.year + 1)).1
            rw [Calendar.advance_year last lastMinute lastHour ends lastMonth]
            dsimp only
            refine ⟨by omega, by omega, by omega, by omega, by omega, ?_, day.1, day.2, le_rfl, by omega⟩
            split <;> omega
          · have days := (lastDate_bounds (c.month + 1) c.year).1
            rw [Calendar.advance_month last lastMinute lastHour ends lastMonth]
            dsimp only
            refine ⟨by omega, by omega, by omega, by omega, by omega, by omega, day.1, day.2, le_rfl, by omega⟩
        · rw [Calendar.advance_date last lastMinute lastHour ends]
          dsimp only
          refine ⟨by omega, by omega, by omega, by omega, by omega, by omega, day.1, day.2, by omega, by omega⟩
      · rw [Calendar.advance_hour last lastMinute lastHour]
        dsimp only
        omega
    · rw [Calendar.advance_minute last lastMinute]
      dsimp only
      omega
  · rw [Calendar.advance_second last]
    dsimp only
    omega

end Advance

/-! ### Whole seconds (R124, R126) -/

theorem State.elapse_clock_of_counts {s : State} (counts : s.clockRuns = true) (n : Nat) : (s.elapse n).clock = s.clock.pass n := by
  have still : ∀ c : Clock, ({ s with clock := c } : State).mainRuns = s.mainRuns := fun _ => rfl
  unfold State.elapse
  simp only [counts, if_true, still]
  split
  · rfl
  · split <;> rfl

/-- The clock at a whole second: the rest of the second has passed. -/
theorem State.elapse_clock_advance {s : State} (counts : s.clockRuns = true) :
    (s.elapse (s.clock.secondLength - s.clock.subSecond)).clock.advance = { s.clock with
      calendar := s.clock.calendar.advance, subSecond := s.clock.subSecond - s.clock.secondLength
      secondLength := secondLengthAt s.clock.calendar.advance.minutes s.clock.calendar.advance.seconds s.clock.trim } := by
  have rest : s.clock.subSecond + (s.clock.secondLength - s.clock.subSecond) - s.clock.secondLength =
      s.clock.subSecond - s.clock.secondLength := by omega
  rw [State.elapse_clock_of_counts counts, Clock.advance]
  simp only [Clock.pass, rest]

theorem exec_wholeSecond {s : State} (counts : s.clockRuns = true) :
    exec .wholeSecond s = .next (s.elapse (s.clock.secondLength - s.clock.subSecond)).takeSecond :=
  congrArg _ (if_pos counts)

theorem Calendar.endsHour_eq (c : Calendar) : c.endsHour = (c.minutes == 59 && c.seconds == 59) := Bool.and_comm _ _

@[simp] theorem State.settlePeriod_coverage (s : State) : s.settlePeriod.coverage = s.coverage := by
  obtain ⟨_, _, _, framed⟩ := s.settlePeriod_frame
  rw [framed]

@[simp] theorem State.settlePeriod_params (s : State) : s.settlePeriod.params = s.params :=
  State.params_of_steady State.settlePeriod_steady

/-- What a whole second leaves, by the parts that run (R61, R131). -/
theorem State.takeSecond_eq (s : State) : s.takeSecond =
    if s.mainRuns then
      (if s.clock.calendar.endsHour then ({ s with clock := s.clock.advance } : State).settlePeriod
        else { s with clock := s.clock.advance }).refillPacing
    else { s with clock := s.clock.advance } := rfl

/-- Settles O37. -/
theorem wholeSecondAdvancesCalendar : Obligations.WholeSecondAdvancesCalendar := by
  refine ⟨fun s u v w edge counts passed edges second settled => ?_, fun c day valid next => ?_⟩
  · have advanced : ({ u with clock := u.clock.advance } : State) = v := by
      rw [second, passed, State.elapse_clock_advance counts, State.elapse_clock_of_counts counts]
      rfl
    have hour : u.clock.calendar.endsHour = edge := by rw [edges, passed, State.elapse_calendar, Calendar.endsHour_eq]
    have runs : u.mainRuns = s.mainRuns := by rw [passed, State.elapse_mainRuns]
    have taken : exec .wholeSecond s = .next (if s.mainRuns then w.refillPacing else v) := by
      rw [exec_wholeSecond counts, ← passed, State.takeSecond_eq, runs, hour, advanced, settled]
    have ramping : s.mainRuns = true → (w.coverage.state = .ramping ↔ s.coverage.state = .ramping) := by
      intro run
      have coverage : w.coverage = u.coverage := by
        rw [settled, second]
        split <;> simp
      rw [coverage, passed, State.elapse_coverage run]
      rfl
    have params : w.params = s.params := by
      rw [settled, second]
      split <;> simp [passed]
    refine ⟨fun stops => ?_, fun run steady => ?_, fun run ramps => ?_⟩
    · rw [taken, stops]
      rfl
    · rw [taken, if_pos run, State.refillPacing, if_neg (mt (ramping run).mp steady)]
    · rw [taken, if_pos run, State.refillPacing, if_pos ((ramping run).mpr ramps), params]
  · obtain ⟨second, minute, hour, january, december, year, monday, sunday, first, date⟩ := c.valid_iff.mp valid
    have day_eq := nextDay_eq monday sunday
    refine ⟨Calendar.valid_advance valid, fun inside => Calendar.advance_second (by omega),
      fun last inside => Calendar.advance_minute last (by omega),
      fun last lastMinute inside => Calendar.advance_hour last lastMinute (by omega), fun last lastMinute lastHour inside => ?_,
      fun last lastMinute lastHour ends inside => ?_, fun last lastMinute lastHour ends lastMonth => ?_,
      lastDate_eq january december _⟩
    · rw [Calendar.advance_date last lastMinute lastHour (by omega), day_eq, next]
    · rw [Calendar.advance_month last lastMinute lastHour ends (by omega), day_eq, next]
    · have nextYear : (if c.year = 99 then 0 else c.year + 1) = (c.year + 1) % 100 := by split <;> omega
      rw [Calendar.advance_year last lastMinute lastHour ends lastMonth, day_eq, next, nextYear]

/-! ### Setting the clock (O38, O39) -/

theorem Clock.periodNow_eq_offpeak (c : Clock) : c.periodNow = .offpeak ↔
    c.windowStart < c.windowEnd ∧ c.windowStart ≤ c.calendar.hours ∧ c.calendar.hours < c.windowEnd
      ∨ c.windowEnd < c.windowStart ∧ (c.windowStart ≤ c.calendar.hours ∨ c.calendar.hours < c.windowEnd) := by
  have hours : c.periodNow = .offpeak ↔ offPeakHour c.windowStart c.windowEnd c.calendar.hours = true := by
    unfold Clock.periodNow
    split <;> simp_all
  rw [hours]
  unfold offPeakHour
  split_ifs <;> simp <;> omega

/-- Settles O38. -/
theorem clockSetAndPeriodSettled : Obligations.ClockSetAndPeriodSettled := by
  refine ⟨fun s c x0 x1 x2 x3 x4 x5 x6 running given => ⟨fun bad => ?_, fun second minute hour january december year monday sunday first
    date => ?_⟩, fun s start stop running => ⟨fun past => ?_, fun startIn stopIn => ?_⟩, Clock.periodNow_eq_offpeak,
    fun s => ⟨fun same => if_pos same, fun differs => if_neg differs⟩⟩
  · have invalid : c.valid = false := by
      rw [Bool.eq_false_iff, ne_eq, Calendar.valid_iff]
      omega
    change execSetClock .purser x0 x1 x2 x3 x4 x5 x6 s = _
    rw [execSetClock, State.command_eq running (by simp), ← given]
    dsimp only
    rw [if_neg (by simp [invalid])]
    rfl
  · have valid : c.valid = true := by
      rw [Calendar.valid_iff]
      omega
    change execSetClock .purser x0 x1 x2 x3 x4 x5 x6 s = _
    rw [execSetClock, State.command_eq running (by simp), ← given]
    dsimp only
    rw [if_pos valid]
    rfl
  · change execSetOffPeakWindow .purser start stop s = _
    rw [execSetOffPeakWindow, State.command_eq running (by simp), if_neg (by omega)]
    rfl
  · change execSetOffPeakWindow .purser start stop s = _
    rw [execSetOffPeakWindow, State.command_eq running (by simp), if_pos (by omega)]
    simp [beBytes]

@[simp] theorem State.settlePeriod_clock (s : State) : s.settlePeriod.clock = s.clock := State.clock_of_steady State.settlePeriod_steady

theorem State.takeSecond_clock (s : State) : s.takeSecond.clock = s.clock.advance := by
  have refill : ∀ t : State, t.refillPacing.clock = t.clock := fun t => by
    unfold State.refillPacing
    split <;> rfl
  rw [State.takeSecond_eq]
  split
  · rw [refill]
    split
    · rw [State.settlePeriod_clock]
    · rfl
  · rfl

/-- Settles O39. -/
theorem setTrimWritesTrim : Obligations.SetTrimWritesTrim := by
  intro s sign magnitude running
  refine ⟨fun bad => ?_, fun good => ?_⟩
  · change execSetTrim .purser sign magnitude s = _
    rw [execSetTrim, State.command_eq running (by simp), boolOf_eq_none_iff.mpr bad]
    rfl
  · refine ⟨_, ?_, rfl, fun v trim counts minute second => ⟨_, exec_wholeSecond counts, ?_⟩⟩
    · change execSetTrim .purser sign magnitude s = _
      rw [execSetTrim, State.command_eq running (by simp), boolOf_of_lt good]
      dsimp only
      rw [clampStatus_of_iff (c := ¬ 127 < magnitude.toNat) (by simp), ite_not]
      simp [trimBytes, flagByte]
    · have bound : (v.clock.trim : Int) ≤ 127 := by
        rw [trim]
        dsimp only
        split <;> omega
      have shortened : ((v.elapse (v.clock.secondLength - v.clock.subSecond)).takeSecond.clock.secondLength : Int) =
          32768 - v.clock.trim := by
        rw [State.takeSecond_clock, State.elapse_clock_advance counts]
        simp only [secondLengthAt, minute, second, and_self, if_true, Config.periodsPerSecond]
        omega
      rw [shortened, trim]

/-! ### The settle window (O43) -/

/-- Settles O43. -/
theorem boundaryStartsSettleWindow : Obligations.BoundaryStartsSettleWindow := by
  refine ⟨fun s cause replace new given => ?_, fun s r c runs timed waits => ?_⟩
  · subst given
    refine ⟨fun same => if_pos same, fun differs open_ => ?_, fun differs closed long => ?_, fun differs closed short => ?_⟩
    · simp only [State.sendComponent, if_neg differs, open_, if_true]
    · simp only [State.sendComponent, if_neg differs, closed, Option.isSome_none, Bool.false_eq_true, if_false, if_neg long]
      rfl
    · simp only [State.sendComponent, if_neg differs, closed, Option.isSome_none, Bool.false_eq_true, if_false, if_pos short]
      rfl
  · refine congrArg _ ((State.onExpiry_runs runs timed _).trans ?_)
    simp [State.settleContext, waits]

end Sys2Proof.Machine

/-! SUPPORT. The carrier and the selector: which slot carries, what a consideration leaves as it was, and the settlement of the
statements about confirms and the selector's timers. -/

namespace Sys2Proof.Machine

/-! ### The first slot in a state -/

theorem mem_allSlots (i : Slot) : i ∈ allSlots := by
  revert i
  decide

section SlotIn

variable {s t : State}

theorem State.slotIn_some {st : LinkState} {i : Slot} (found : s.slotIn st = some i) : (s.link i).state = st := by
  have hit := List.find?_some (p := fun j : Slot => (s.links.get j).state == st) found
  exact beq_iff_eq.mp hit

theorem State.slotIn_eq_none_iff {st : LinkState} : s.slotIn st = none ↔ ∀ i : Slot, (s.link i).state ≠ st := by
  simp [State.slotIn, List.find?_eq_none, mem_allSlots, State.link]

/-- A state that one slot at most is in. -/
theorem State.slotIn_of_unique {st : LinkState} {c : Option Slot} (unique : ∀ i : Slot, (s.link i).state = st ↔ c = some i) :
    s.slotIn st = c := by
  cases found : s.slotIn st with
  | none =>
    cases c with
    | none => rfl
    | some i => exact absurd ((unique i).mpr rfl) (State.slotIn_eq_none_iff.mp found i)
  | some j => exact ((unique j).mp (State.slotIn_some found)).symm

theorem State.carrier_congr (same : ∀ i : Slot, (t.link i).state = .carrying ↔ (s.link i).state = .carrying) :
    t.carrier = s.carrier := by
  unfold State.carrier State.slotIn
  congr 1
  funext i
  rw [Bool.eq_iff_iff, beq_iff_eq, beq_iff_eq]
  exact same i

@[simp] theorem State.raise_carrier (k : EventKind) (d : Nat) : (s.raise k d).carrier = s.carrier := rfl
@[simp] theorem State.raise_eligibleNow (k : EventKind) (d : Nat) (i : Slot) : (s.raise k d).eligibleNow i = s.eligibleNow i := rfl

theorem Slots.get_set {α : Type} (x : Slots α) (i j : Slot) (l : α) : (x.set i l).get j = if j = i then l else x.get j := by
  by_cases same : j = i
  · subst same
    simp
  · rw [if_neg same, Slots.get_set_other _ same]

theorem State.setLink_link (i j : Slot) (l : Link) : (s.setLink i l).link j = if j = i then l else s.link j :=
  Slots.get_set s.links i j l

end SlotIn

/-! ### A consideration (R108 to R111) -/

section Consider

variable {s : State}

/-- A consideration starts a swap onto a link in STANDBY, or does nothing. -/
theorem State.considerSwap_cases (s : State) :
    s.considerSwap = s ∨ ∃ b, s.selector.swap = none ∧ (s.link b).state = .standby ∧ s.considerSwap = s.startSwap b := by
  by_cases inFlight : s.selector.swap.isSome = true
  · exact .inl (Selection.considerSwap_of_swap inFlight)
  · have noSwap : s.selector.swap = none := by simpa using inFlight
    cases best : s.bestStandby with
    | none => exact .inl (Selection.considerSwap_of_bestStandby_none best)
    | some b =>
      have started := Selection.considerSwap_of_bestStandby noSwap best
      split at started
      · exact .inr ⟨b, noSwap, ((Selection.bestStandby_eq_some_iff s b).mp best).1, started⟩
      · exact .inl started

theorem State.startSwap_link (b j : Slot) :
    (s.startSwap b).link j = if j = b then { s.link b with state := .ramping } else s.link j := by
  simp only [State.startSwap, State.raise_link]
  exact State.setLink_link _ _ _

/-- A consideration leaves every link but a candidate it takes from STANDBY as it was. -/
theorem State.considerSwap_link_of_ne {i : Slot} (waits : (s.link i).state ≠ .standby) : s.considerSwap.link i = s.link i := by
  obtain same | ⟨b, -, standby, started⟩ := s.considerSwap_cases
  · rw [same]
  · rw [started, State.startSwap_link, if_neg]
    rintro rfl
    exact waits standby

theorem State.considerSwap_link_eligible (i : Slot) : (s.considerSwap.link i).eligible = (s.link i).eligible := by
  obtain same | ⟨b, -, -, started⟩ := s.considerSwap_cases
  · rw [same]
  · rw [started, State.startSwap_link]
    split
    · next h => rw [h]
    · rfl

theorem State.considerSwap_carrier : s.considerSwap.carrier = s.carrier := by
  obtain same | ⟨b, -, standby, started⟩ := s.considerSwap_cases
  · rw [same]
  · refine State.carrier_congr fun i => ?_
    rw [started, State.startSwap_link]
    split
    · next h => simp [h, standby]
    · rfl

/-- While a carrier is eligible and the dwell timer runs a consideration starts nothing. -/
theorem State.considerSwap_of_dwell {c : Slot} (carries : s.carrier = some c) (eligible : (s.link c).eligible = true)
    (dwells : s.selector.dwellTimer.isSome = true) : s.considerSwap = s := by
  by_cases inFlight : s.selector.swap.isSome = true
  · exact Selection.considerSwap_of_swap inFlight
  · have noSwap : s.selector.swap = none := by simpa using inFlight
    cases best : s.bestStandby with
    | none => exact Selection.considerSwap_of_bestStandby_none best
    | some b =>
      rw [Selection.considerSwap_of_bestStandby noSwap best, if_neg]
      have unforced : s.forced = false := by simp [State.forced, carries, show (s.links.get c).eligible = true from eligible]
      have unwilling : s.voluntary b = false := by
        rw [Bool.eq_false_iff, ne_eq, Selection.voluntary_iff]
        rintro ⟨_, -, -, stopped, -⟩
        simp [stopped] at dwells
      simp [unforced, unwilling]

theorem State.considerSwap_dwellTimer : s.considerSwap.selector.dwellTimer = s.selector.dwellTimer := by
  obtain same | ⟨b, -, -, started⟩ := s.considerSwap_cases
  · rw [same]
  · rw [started]
    rfl

end Consider

/-! ### The selector's timers and a confirm (O34, O35, O36) -/

/-- Settles O35. -/
theorem swapConfirmOtherRefused : Obligations.SwapConfirmOtherRefused := by
  intro s b running
  refine ⟨fun past => ?_, fun i named other => ?_⟩
  · change execSwapConfirm .link b s = _
    rw [execSwapConfirm, State.command_eq running (by simp), slotOf_of_le past]
    rfl
  · have refused : exec (.swapConfirm .link b) s = .next (s.withFrame .link
        (.answered (if s.selector.lateMark = some i then .tooLate else .notRamping) s.swapBytes)) := by
      change execSwapConfirm .link b s = _
      rw [execSwapConfirm, State.command_eq running (by simp), slotOf_of_val named]
      cases swap : s.selector.swap with
      | none => rfl
      | some w =>
        dsimp only
        rw [if_neg (other w swap)]
    exact ⟨fun late => by rw [refused, if_pos late]; rfl, fun early => by rw [refused, if_neg early]; rfl⟩

/-- The swap whose timer expires is the one that was in flight, with its time run out. -/
theorem State.elapse_swap {s : State} (runs : s.mainRuns = true) (n : Nat) :
    (s.elapse n).selector.swap = s.selector.swap.map fun w => { w with timer := w.timer - n } := by
  rw [State.elapse_selector runs]
  rfl

/-- Settles O36. -/
theorem swapAndDwellTimers : Obligations.SwapAndDwellTimers := by
  intro s u r runs passed
  refine ⟨fun w flies times => ?_, fun dwells => ?_⟩
  · refine congrArg _ ((State.onExpiry_runs (r := r) runs (by simp [flies, times]) _).trans ?_)
    have inFlight : u.selector.swap = some { w with timer := w.timer - r } := by rw [passed, State.elapse_swap runs, flies]; rfl
    have params : u.params = s.params := by rw [passed, State.elapse_params]
    rw [← passed, ← params, State.abandonLate, inFlight]
    rfl
  · exact congrArg _ ((State.onExpiry_runs runs dwells _).trans (by rw [← passed]))

/-- The state once the candidate carries and the old carrier stands by, before the rating engine is told (R116, steps 1 to 6). -/
def State.swapped (s : State) (w : Swap) : State :=
  { s with
    links := (match w.oldCarrier with
      | some o => s.links.set o (s.link o).retire
      | none => s.links).set w.candidate ((s.link w.candidate).enterCarrying s.params.faultQual)
    selector := ⟨none, some (seconds s.params.swapDwell), s.selector.lateMark⟩ }

section Complete

variable {s : State} {w : Swap}

theorem State.swapped_link (w : Swap) (j : Slot) : (s.swapped w).link j =
    if j = w.candidate then (s.link j).enterCarrying s.params.faultQual
    else if w.oldCarrier = some j then (s.link j).retire else s.link j := by
  change Slots.get (Slots.set _ _ _) j = _
  rw [Slots.get_set]
  by_cases candidate : j = w.candidate
  · rw [if_pos candidate, if_pos candidate, candidate]
  · rw [if_neg candidate, if_neg candidate]
    cases old : w.oldCarrier with
    | none => simp [State.link]
    | some o =>
      dsimp only
      rw [Slots.get_set]
      by_cases same : j = o
      · subst same
        simp
      · rw [if_neg same, if_neg (by simpa [eq_comm] using same)]
        rfl

theorem State.completeSwap_eq (differ : w.oldCarrier ≠ some w.candidate) : s.completeSwap w =
    (fun t : State => if t.params.swapDwell = 0
        then ({ t with selector := { t.selector with dwellTimer := none } } : State).considerSwap else t)
      ((((s.swapped w).raise .swapDone w.candidate.val).sendCostClass (s.linkConfig.get w.candidate).costClass).considerSwap) := by
  cases old : w.oldCarrier with
  | none =>
    simp only [State.completeSwap, State.swapped, old]
    rfl
  | some o =>
    have other : w.candidate ≠ o := fun same => differ (by rw [old, same])
    have candidate : (State.setLink { s with selector := { s.selector with swap := none } } o (s.link o).retire).link w.candidate =
        s.link w.candidate := State.setLink_link_other _ other _
    simp only [State.completeSwap, State.swapped, old]
    rw [show (State.link { s with selector := { s.selector with swap := none } } o) = s.link o from rfl, candidate]
    rfl

/-- What a lawful selector gives a confirm: the candidate, in RAMPING, is eligible with its fault timer stopped, and is no carrier. -/
theorem State.LinkLaw.candidate (law : s.LinkLaw) (flies : s.selector.swap = some w) :
    (s.link w.candidate).state = .ramping ∧ (s.link w.candidate).eligible = true ∧ (s.link w.candidate).faultTimer = none
      ∧ w.oldCarrier = s.carrier ∧ s.carrier ≠ some w.candidate := by
  obtain ⟨slots, candidate, carrier, old⟩ := law
  have ramps : (s.link w.candidate).state = .ramping := (candidate _).mpr (by rw [flies]; rfl)
  obtain ⟨-, -, fault, -, -, eligible, -⟩ := slots w.candidate
  refine ⟨ramps, eligible ramps, ?_, old w flies, fun carries => ?_⟩
  · have stopped : ¬ (s.link w.candidate).faultTimer.isSome = true := by simp [fault, ramps]
    simpa using stopped
  · have both := (carrier _).mpr carries
    simp [ramps] at both

/-- After a completion the candidate is the carrier, and nothing else is. -/
theorem State.swapped_carrier (law : s.LinkLaw) (flies : s.selector.swap = some w) : (s.swapped w).carrier = some w.candidate := by
  obtain ⟨-, -, -, old, apart⟩ := law.candidate flies
  obtain ⟨-, -, carrier, -⟩ := law
  refine State.slotIn_of_unique fun i => ?_
  rw [State.swapped_link]
  by_cases candidate : i = w.candidate
  · simp [candidate, Link.enterCarrying]
  · rw [if_neg candidate]
    by_cases carried : w.oldCarrier = some i
    · rw [if_pos carried, Link.retire]
      split <;> simp [Ne.symm candidate]
    · rw [if_neg carried, carrier i, ← old]
      simp [carried, Ne.symm candidate]

end Complete

@[simp] theorem State.sendCostClass_link (s : State) (k : Nat) (i : Slot) : (s.sendCostClass k).link i = s.link i := by
  obtain ⟨_, _, framed⟩ := s.sendComponent_frame .costClass fun c => { c with costClass := k }
  rw [State.sendCostClass, framed]
  rfl

@[simp] theorem State.sendCostClass_carrier (s : State) (k : Nat) : (s.sendCostClass k).carrier = s.carrier := by
  obtain ⟨_, _, framed⟩ := s.sendComponent_frame .costClass fun c => { c with costClass := k }
  rw [State.sendCostClass, framed]
  rfl

@[simp] theorem State.sendCostClass_selector (s : State) (k : Nat) : (s.sendCostClass k).selector = s.selector := by
  obtain ⟨_, _, framed⟩ := s.sendComponent_frame .costClass fun c => { c with costClass := k }
  rw [State.sendCostClass, framed]

theorem slotByte_some {b : Byte} {i : Slot} (named : b.toNat = i.val) : slotByte (some i) = b :=
  BitVec.eq_of_toNat_eq (by simp [slotByte, optByte, ← named])

/-- Settles O34. -/
theorem swapConfirmCompletes : Obligations.SwapConfirmCompletes := by
  intro s b w links t law running flies named linked sent
  obtain ⟨ramps, eligible, unfaulted, old, apart⟩ := law.candidate flies
  have differ : w.oldCarrier ≠ some w.candidate := by rwa [old]
  have told : t = ((s.swapped w).raise .swapDone w.candidate.val).sendCostClass (s.linkConfig.get w.candidate).costClass := by
    rw [sent, linked, State.swapped]
    simp only [Link.enterCarrying, unfaulted, Link.retire, Bool.and_eq_true]
    rfl
  have carrier : t.carrier = some w.candidate := by simp [told, State.swapped_carrier law flies]
  have carrying : (t.link w.candidate).eligible = true := by
    simp [told, State.swapped_link, Link.enterCarrying, eligible]
  have params : t.params = s.params := by
    rw [told]
    exact State.params_of_steady (s := s) ((State.sendCostClass_steady _).trans rfl)
  have considered : t.considerSwap = t :=
    State.considerSwap_of_dwell carrier carrying (by simp [told, State.swapped])
  have completed : s.completeSwap w =
      if s.params.swapDwell = 0 then ({ t with selector := { t.selector with dwellTimer := none } } : State).considerSwap else t := by
    rw [State.completeSwap_eq differ, ← told, considered, ← params]
  have confirmed : exec (.swapConfirm .link b) s = .next ((s.completeSwap w).withFrame .link (.answered .ok (s.completeSwap w).swapBytes)) := by
    change execSwapConfirm .link b s = _
    rw [execSwapConfirm, State.command_eq running (by simp), slotOf_of_val named]
    dsimp only
    rw [flies]
    dsimp only
    rw [if_pos rfl]
  refine ⟨fun long => ?_, fun short => ⟨_, rfl, ?_⟩⟩
  · have idle : t.selector.swap = none := by simp [told, State.swapped]
    rw [confirmed, completed, if_neg long, State.swapBytes, carrier, idle, slotByte_some named]
    rfl
  · have kept : (({ t with selector := { t.selector with dwellTimer := none } } : State).considerSwap).carrier = some w.candidate :=
      State.considerSwap_carrier.trans carrier
    rw [confirmed, completed, if_pos short, State.swapBytes, kept, slotByte_some named] <;> rfl

end Sys2Proof.Machine

/-! SUPPORT. The link table's law, apart from the eligible flags: what each rule of the link states and of the selector keeps. -/

namespace Sys2Proof.Machine

/-! ### Runs of occurrences between two states -/

/-- The router of `t` is that of `s` after some occurrences. -/
def State.Tells (s t : State) : Prop := ∃ l, t.router = s.router.occurs l

section Tells

variable {s t u : State} {k : EventKind}

theorem State.Tells.refl (s : State) : s.Tells s := ⟨[], rfl⟩
theorem State.Tells.of_eq (same : t.router = s.router) : s.Tells t := ⟨[], same⟩
theorem State.Tells.trans : s.Tells t → t.Tells u → s.Tells u := by
  rintro ⟨l, first⟩ ⟨m, second⟩
  exact ⟨l ++ m, by rw [second, first, Router.occurs_append]⟩
theorem State.Tells.raise (told : s.Tells t) (k : EventKind) (d : Nat) : s.Tells (t.raise k d) :=
  told.trans ⟨[(k, d)], rfl⟩

/-- What is latched stays latched while further occurrences follow. -/
theorem State.Latched.tells (latched : s.Latched t k) : t.Tells u → s.Latched u k := by
  rintro ⟨l, run⟩ p on
  rw [State.port, run]
  exact Router.occurs_holds (latched p on)

/-- An occurrence is latched. -/
theorem State.Tells.latched (told : s.Tells t) (k : EventKind) (d : Nat) : s.Latched (t.raise k d) k := by
  obtain ⟨l, run⟩ := told
  have router : (t.raise k d).router = s.router.occurs (l ++ [(k, d)]) := by
    rw [Router.occurs_append, ← run]
    rfl
  exact State.latched_of_occurs router (d := d) (by simp)

theorem State.considerSwap_tells (s : State) : s.Tells s.considerSwap := by
  obtain same | ⟨b, -, -, started⟩ := s.considerSwap_cases
  · exact .of_eq (by rw [same])
  · rw [started]
    exact .raise (t := State.setLink _ _ _) (.of_eq rfl) .swapBegin _

end Tells

/-! ### One link (R86, R92, R95 to R100) -/

/-- What holds of one link whatever the eligible flag is judged from. -/
structure Link.Sound (l : Link) (loaded : Bool) : Prop where
  qual : l.qualTimer.isSome = true ↔ l.state = .qualifying
  hold : l.holdoffTimer.isSome = true ↔ l.state = .holdoff
  fault : l.faultTimer.isSome = true ↔ l.state = .carrying ∧ l.healthy = false
  down : l.state = .down → l.staleTimer = none ∧ l.healthy = false ∧ l.stale = false ∧ l.fresh = false ∧ l.smoothed = 0
  ready : l.state = .qualifying ∨ l.state = .standby → l.healthy = true ∧ l.eligible = true
  ramping : l.state = .ramping → l.eligible = true
  absent : l.absent = true → l.state = .holdoff
  unloaded : loaded = false → l.state = .down ∧ l.raw = 0 ∨ l.state = .holdoff
  smoothed : l.smoothed ≤ 100
  raw : l.raw ≤ 100
  quality : l.quality ≤ 100
  loss : l.loss ≤ 1000

section Sound

variable {l : Link} {loaded : Bool}

/-- HOLDOFF asks nothing of a link but that its figures lie in range. -/
theorem Link.enterHoldoff_sound (smoothed : l.smoothed ≤ 100) (raw : l.raw ≤ 100) (quality : l.quality ≤ 100) (loss : l.loss ≤ 1000)
    (holdoff : Nat) (absent : Bool) : (l.enterHoldoff holdoff absent).Sound loaded := by
  constructor <;> simp_all [Link.enterHoldoff]

theorem Link.Sound.enterHoldoff (sound : l.Sound loaded) (holdoff : Nat) (absent : Bool) :
    (l.enterHoldoff holdoff absent).Sound loaded :=
  Link.enterHoldoff_sound sound.smoothed sound.raw sound.quality sound.loss holdoff absent

theorem Link.Sound.enterDown (sound : l.Sound loaded)
    (leaves : l.state = .down ∨ l.state = .idle ∨ l.state = .qualifying ∨ l.state = .standby) : l.enterDown.Sound loaded := by
  obtain ⟨_, _, _, _, _, _, _, _, _, _, _, _⟩ := sound
  obtain state | state | state | state := leaves <;> constructor <;> simp_all [Link.enterDown]

theorem Link.Sound.retire (sound : l.Sound loaded) (carries : l.state = .carrying) : l.retire.Sound loaded := by
  obtain ⟨_, _, _, _, _, _, _, _, _, _, _, _⟩ := sound
  cases healthy : l.healthy <;> cases eligible : l.eligible <;> constructor <;> simp_all [Link.retire]

theorem Link.Sound.enterCarrying (sound : l.Sound loaded) (ramps : l.state = .ramping) (faultQual : Nat) :
    (l.enterCarrying faultQual).Sound loaded := by
  obtain ⟨_, _, _, _, _, _, _, _, _, _, _, _⟩ := sound
  constructor <;> simp_all [Link.enterCarrying]

theorem Link.Sound.judge (sound : l.Sound loaded) (now : Bool) (linkQual : Nat) : (l.judge now linkQual).Sound loaded := by
  unfold Link.judge
  obtain ⟨_, _, _, _, _, _, _, _, _, _, _, _⟩ := sound
  split
  · constructor <;> assumption
  · dsimp only
    split <;> rename_i state
    · split <;> constructor <;> simp_all [Link.enterQualifying]
    · split <;> constructor <;> simp_all [Link.enterIdle]
    · split <;> constructor <;> simp_all [Link.enterIdle]
    · split <;> constructor <;> simp_all
    · constructor <;> simp_all

theorem Link.judge_eligible (l : Link) (now : Bool) (linkQual : Nat) : (l.judge now linkQual).eligible = now := by
  unfold Link.judge
  split
  · assumption
  · dsimp only
    split
    · split <;> rfl
    · split <;> rfl
    · split <;> rfl
    · split <;> rfl
    · rfl

/-- Only a candidate that loses its eligible flag leaves RAMPING at a judgement, and no link enters it. -/
theorem Link.judge_ramping (l : Link) (now : Bool) (linkQual : Nat) :
    (l.judge now linkQual).state = .ramping ↔ l.state = .ramping ∧ ¬ (l.eligible = true ∧ now = false) := by
  unfold Link.judge
  split
  · next same => cases now <;> simp_all
  · dsimp only
    split <;> rename_i state
    · split <;> simp [state, Link.enterQualifying]
    · split <;> simp [state, Link.enterIdle]
    · split <;> simp [state, Link.enterIdle]
    · cases now <;> simp_all
    · exact ⟨fun ramps => (state ramps).elim, fun ramps => (state ramps.1).elim⟩

theorem Link.judge_carrying (l : Link) (now : Bool) (linkQual : Nat) :
    (l.judge now linkQual).state = .carrying ↔ l.state = .carrying := by
  unfold Link.judge
  split
  · rfl
  · dsimp only
    split <;> rename_i state
    · split <;> simp [state, Link.enterQualifying]
    · split <;> simp [state, Link.enterIdle]
    · split <;> simp [state, Link.enterIdle]
    · split <;> simp [state]
    · rfl

end Sound

/-! ### The link table (R104, R115) -/

/-- The six links and the swap in flight, with the slot that carries. -/
structure LinkTable (link : Slot → Link) (loaded : Slot → Bool) (swap : Option Swap) (carrier : Option Slot) : Prop where
  sound : ∀ i, (link i).Sound (loaded i)
  ramps : ∀ i, (link i).state = .ramping ↔ swap.map Swap.candidate = some i
  carries : ∀ i, (link i).state = .carrying ↔ carrier = some i
  old : ∀ w ∈ swap, w.oldCarrier = carrier

/-- The link table of a state. -/
abbrev State.Linked (s : State) (c : Option Slot) : Prop :=
  LinkTable s.link (fun i => (s.linkConfig.get i).loaded) s.selector.swap c

/-- Every eligible flag is as R93 judges it. -/
def State.Judged (s : State) : Prop := ∀ i : Slot, (s.link i).eligible = s.eligibleNow i

section Table

variable {s : State} {c : Option Slot}

theorem State.Linked.carrier_eq (table : s.Linked c) : s.carrier = c := State.slotIn_of_unique table.carries

theorem State.linkLaw_iff : s.LinkLaw ↔ s.Linked s.carrier ∧ (s.mainRuns = true ∨ s.power.supervisor = .initializing → s.Judged) := by
  constructor
  · rintro ⟨slots, candidate, carrier, old⟩
    refine ⟨⟨fun i => ?_, candidate, carrier, old⟩, fun runs i => ?_⟩
    · obtain ⟨h1, h2, h3, h4, h5, h6, h7, h8, h9, h10, h11, h12, -⟩ := slots i
      exact ⟨h1, h2, h3, h4, h5, h6, h7, h8, h9, h10, h11, h12⟩
    · obtain ⟨-, -, -, -, -, -, -, -, -, -, -, -, judged⟩ := slots i
      exact judged runs
  · rintro ⟨⟨sound, ramps, carries, old⟩, judged⟩
    refine ⟨fun i => ?_, ramps, carries, old⟩
    obtain ⟨h1, h2, h3, h4, h5, h6, h7, h8, h9, h10, h11, h12⟩ := sound i
    exact ⟨h1, h2, h3, h4, h5, h6, h7, h8, h9, h10, h11, h12, fun runs => judged runs i⟩

theorem State.LinkLaw.of_table (table : s.Linked c) (judged : s.Judged) : s.LinkLaw :=
  State.linkLaw_iff.mpr ⟨by rwa [table.carrier_eq], fun _ => judged⟩

theorem State.LinkLaw.table (law : s.LinkLaw) : s.Linked s.carrier := (State.linkLaw_iff.mp law).1

theorem State.LinkLaw.judged (law : s.LinkLaw) (runs : s.mainRuns = true) : s.Judged := (State.linkLaw_iff.mp law).2 (.inl runs)

theorem State.Judged.of_same {t : State} (judged : s.Judged) (same : ∀ i, (t.link i).eligible = (s.link i).eligible)
    (config : t.linkConfig = s.linkConfig) (zone : t.coverage.zone = s.coverage.zone)
    (standing : t.bridge.standing.harbor = s.bridge.standing.harbor) : t.Judged := by
  intro i
  rw [same, judged i, State.eligibleNow, State.eligibleNow, config, zone, standing]

/-! ### What the selector's rules keep -/

/-- A consideration keeps the link table and its carrier. -/
theorem State.Linked.considerSwap (table : s.Linked c) : s.considerSwap.Linked c := by
  obtain same | ⟨b, noSwap, standby, started⟩ := s.considerSwap_cases
  · rwa [same]
  · have carrier := table.carrier_eq
    obtain ⟨sound, ramps, carries, old⟩ := table
    have nobody : ∀ i, (s.link i).state ≠ .ramping := fun i => by simp [ramps i, noSwap]
    have link := fun j => State.startSwap_link (s := s) b j
    have standsBy := sound b
    rw [started]
    refine ⟨fun i => ?_, fun i => ?_, fun i => ?_, fun w flies => ?_⟩
    · rw [link]
      split
      · next here =>
        subst here
        obtain ⟨_, _, _, _, ready, _, _, _, _, _, _, _⟩ := standsBy
        obtain ⟨healthy, eligible⟩ := ready (.inr standby)
        have config : (s.startSwap i).linkConfig = s.linkConfig := rfl
        constructor <;> simp_all
      · exact sound i
    · rw [link]
      have swap : (s.startSwap b).selector.swap.map Swap.candidate = some b := rfl
      rw [swap]
      split
      · next here => simp [here]
      · next elsewhere => simp [nobody i, Ne.symm elsewhere]
    · rw [link]
      split
      · next here =>
        subst here
        have idle := carries i
        simp_all
      · exact carries i
    · cases flies
      exact carrier

/-- A link rewritten outside RAMPING and CARRYING, or within its state, keeps the table. -/
theorem State.Linked.setLink (table : s.Linked c) {i : Slot} {l : Link} (sound : l.Sound (s.linkConfig.get i).loaded)
    (ramps : l.state = .ramping ↔ (s.link i).state = .ramping) (carries : l.state = .carrying ↔ (s.link i).state = .carrying) :
    (s.setLink i l).Linked c := by
  refine ⟨fun j => ?_, fun j => ?_, fun j => ?_, table.old⟩
  · rw [State.setLink_link]
    split
    · next here => subst here; exact sound
    · exact table.sound j
  · rw [State.setLink_link]
    split
    · next here => subst here; exact ramps.trans (table.ramps j)
    · exact table.ramps j
  · rw [State.setLink_link]
    split
    · next here => subst here; exact carries.trans (table.carries j)
    · exact table.carries j

/-- A candidate that leaves RAMPING for a state outside CARRYING, its swap gone. -/
theorem LinkTable.abandon {link : Slot → Link} {loaded : Slot → Bool} {w : Swap} (table : LinkTable link loaded (some w) c) {l : Link}
    (sound : l.Sound (loaded w.candidate)) (stops : l.state ≠ .ramping) (idles : l.state ≠ .carrying) :
    LinkTable (fun j => if j = w.candidate then l else link j) loaded none c := by
  have candidate : (link w.candidate).state = .ramping := (table.ramps _).mpr rfl
  refine ⟨fun j => ?_, fun j => ?_, fun j => ?_, by simp⟩
  · split
    · next here => subst here; exact sound
    · exact table.sound j
  · split
    · simp [stops]
    · next elsewhere => simp [table.ramps j, Ne.symm elsewhere]
  · split
    · next here =>
      have apart := table.carries j
      subst here
      simp [candidate] at apart
      simp [idles, apart]
    · exact table.carries j

/-- The carrier that leaves CARRYING for a state outside RAMPING, absent from the swap in flight. -/
theorem LinkTable.fault {link : Slot → Link} {loaded : Slot → Bool} {swap swap' : Option Swap} {i : Slot}
    (table : LinkTable link loaded swap (some i)) {l : Link} (sound : l.Sound (loaded i)) (stops : l.state ≠ .ramping)
    (idles : l.state ≠ .carrying) (candidates : swap'.map Swap.candidate = swap.map Swap.candidate)
    (absent : ∀ w ∈ swap', w.oldCarrier = none) : LinkTable (fun j => if j = i then l else link j) loaded swap' none := by
  have carrying : (link i).state = .carrying := (table.carries _).mpr rfl
  refine ⟨fun j => ?_, fun j => ?_, fun j => ?_, absent⟩
  · split
    · next here => subst here; exact sound
    · exact table.sound j
  · rw [candidates]
    split
    · next here =>
      have apart := table.ramps j
      subst here
      simp only [carrying, reduceCtorEq, false_iff] at apart
      simp [stops, apart]
    · exact table.ramps j
  · split
    · simp [idles]
    · next elsewhere => simp [table.carries j, Ne.symm elsewhere]

/-- The swap completes: the candidate carries, the old carrier does not (R116). -/
theorem State.Linked.swapped {w : Swap} (table : s.Linked s.carrier) (flies : s.selector.swap = some w) :
    (s.swapped w).Linked (some w.candidate) := by
  have candidate : (s.link w.candidate).state = .ramping := (table.ramps _).mpr (by rw [flies]; rfl)
  have old : w.oldCarrier = s.carrier := table.old w flies
  refine ⟨fun j => ?_, fun j => ?_, fun j => ?_, by simp [State.swapped]⟩
  · rw [State.swapped_link]
    split
    · next here =>
      subst here
      exact (table.sound _).enterCarrying candidate _
    · split
      · next carried => exact (table.sound j).retire ((table.carries j).mpr (by rw [← old, carried]))
      · exact table.sound j
  · rw [State.swapped_link]
    have none_flies : (s.swapped w).selector.swap = none := rfl
    rw [none_flies]
    split
    · simp [Link.enterCarrying]
    · next elsewhere =>
      split
      · simp only [Link.retire]
        split <;> simp
      · simp [table.ramps j, flies, Ne.symm elsewhere]
  · rw [State.swapped_link]
    split
    · next here => simp [Link.enterCarrying, here]
    · next elsewhere =>
      split
      · simp only [Link.retire]
        split <;> simp [Ne.symm elsewhere]
      · next uncarried => simp [table.carries j, ← old, uncarried, Ne.symm elsewhere]

end Table

end Sys2Proof.Machine

/-! SUPPORT. The link rules, one by one: what each keeps of the link table, the carrier and the eligible flags, and that each only
raises events. -/

namespace Sys2Proof.Machine

section Rules

variable {s : State} {c : Option Slot}

/-! ### Faults and abandoned swaps (R99, R113, R118, R119, R121) -/

theorem State.dropSwap_eq (s : State) (i : Slot) : s.dropSwap i =
    (({ s with selector := { s.selector with swap := none } } : State).raise .swapAbandoned i.val).considerSwap := rfl

theorem State.dropSwap_tells (s : State) (i : Slot) : s.Tells (s.dropSwap i) :=
  (State.Tells.raise (t := { s with selector := { s.selector with swap := none } }) (.of_eq rfl) _ _).trans
    (State.considerSwap_tells _)

theorem State.dropSwap_latched (s : State) (i : Slot) : s.Latched (s.dropSwap i) .swapAbandoned :=
  (State.Tells.latched (t := { s with selector := { s.selector with swap := none } }) (.of_eq rfl) _ _).tells
    (State.considerSwap_tells _)

theorem State.dropSwap_link {i j : Slot} (waits : (s.link j).state ≠ .standby) : (s.dropSwap i).link j = s.link j :=
  State.considerSwap_link_of_ne
    (s := ({ s with selector := { s.selector with swap := none } } : State).raise .swapAbandoned i.val) waits

theorem State.dropSwap_link_eligible (i j : Slot) : ((s.dropSwap i).link j).eligible = (s.link j).eligible :=
  State.considerSwap_link_eligible _

/-- A swap that a consideration starts is onto a link in STANDBY, and from the carrier. -/
theorem State.considerSwap_swap {w : Swap} (flies : s.considerSwap.selector.swap = some w) :
    s.selector.swap = some w ∨ (s.link w.candidate).state = .standby ∧ w.oldCarrier = s.carrier := by
  obtain same | ⟨b, -, standby, started⟩ := s.considerSwap_cases
  · rw [same] at flies
    exact .inl flies
  · rw [started] at flies
    cases flies
    exact .inr ⟨standby, rfl⟩

theorem State.dropSwap_swap {i : Slot} {w : Swap} (flies : (s.dropSwap i).selector.swap = some w) :
    (s.link w.candidate).state = .standby ∧ w.oldCarrier = s.carrier := by
  obtain before | started := State.considerSwap_swap flies
  · cases before
  · exact started

/-- A link that leaves RAMPING with its swap dropped. -/
theorem State.Linked.dropSwap {w : Swap} (table : s.Linked c) (flies : s.selector.swap = some w) {l : Link}
    (sound : l.Sound (s.linkConfig.get w.candidate).loaded) (stops : l.state ≠ .ramping) (idles : l.state ≠ .carrying)
    (late : Option Slot) :
    (({ s.setLink w.candidate l with selector := { s.selector with lateMark := late } } : State).dropSwap w.candidate).Linked c := by
  have left := LinkTable.abandon (c := c) (w := w) (by rw [← flies]; exact table) sound stops idles
  refine State.Linked.considerSwap (s := (_ : State).raise _ _) ?_
  refine ⟨fun j => ?_, fun j => ?_, fun j => ?_, by simp⟩
  · exact (congrArg (Link.Sound · _) (State.setLink_link _ _ _)).mpr (left.sound j)
  · exact (Iff.of_eq (congrArg (fun x : Link => x.state = .ramping) (State.setLink_link _ _ _))).trans (left.ramps j)
  · exact (Iff.of_eq (congrArg (fun x : Link => x.state = .carrying) (State.setLink_link _ _ _))).trans (left.carries j)

theorem State.Linked.abandonLate (table : s.Linked c) : s.abandonLate.Linked c := by
  unfold State.abandonLate
  split
  · exact table
  · next w flies =>
    exact table.dropSwap flies ((table.sound _).enterHoldoff _ _) (by simp [Link.enterHoldoff]) (by simp [Link.enterHoldoff]) _

theorem State.abandonLate_eligible (j : Slot) : (s.abandonLate.link j).eligible = (s.link j).eligible := by
  unfold State.abandonLate
  split
  · rfl
  · refine (State.dropSwap_link_eligible _ _).trans ?_
    change ((State.setLink _ _ _).link j).eligible = _
    rw [State.setLink_link]
    split
    · next here => rw [here]; rfl
    · rfl

theorem State.abandonLate_tells (s : State) : s.Tells s.abandonLate := by
  unfold State.abandonLate
  split
  · exact .refl s
  · exact (State.Tells.of_eq rfl).trans (State.dropSwap_tells _ _)

/-- The carrier's part in a swap in flight, cleared at its fault (R115). -/
def State.withoutOld (s : State) (i : Slot) : State :=
  match s.selector.swap with
  | some w => if w.oldCarrier = some i then { s with selector := { s.selector with swap := some { w with oldCarrier := none } } } else s
  | none => s

theorem State.carrierFaulted_eq (s : State) (i : Slot) : s.carrierFaulted i = ((s.withoutOld i).raise .shoreDark i.val).considerSwap := rfl

theorem State.withoutOld_frame (s : State) (i : Slot) :
    ∃ w, s.withoutOld i = { s with selector := { s.selector with swap := w } } ∧ w.map Swap.candidate = s.selector.swap.map Swap.candidate
      ∧ (∀ x ∈ w, x.oldCarrier ≠ some i)
      ∧ ((∀ x ∈ s.selector.swap, x.oldCarrier = some i) → ∀ x ∈ w, x.oldCarrier = none) := by
  unfold State.withoutOld
  split
  · next w flies =>
    split
    · exact ⟨some { w with oldCarrier := none }, rfl, by simp [flies], by simp, by simp⟩
    · next differs => exact ⟨s.selector.swap, rfl, rfl, by simp [flies, differs], fun all => absurd (all w flies) differs⟩
  · next still => exact ⟨s.selector.swap, rfl, rfl, by simp [still], by simp [still]⟩

theorem State.withoutOld_tells (s : State) (i : Slot) : s.Tells (s.withoutOld i) := by
  obtain ⟨w, framed, -⟩ := s.withoutOld_frame i
  rw [framed]
  exact .of_eq rfl

/-- A link rewritten as a faulted carrier: E10, and the selector is told (R99). -/
def State.faultWith (s : State) (i : Slot) (l : Link) : State := ((s.setLink i l).raise .linkFault i.val).carrierFaulted i

theorem State.faultLink_eq (s : State) (i : Slot) (absent : Bool) :
    s.faultLink i absent = s.faultWith i ((s.link i).enterHoldoff s.params.holdoff absent) := rfl

section Fault

variable {i : Slot} {l : Link}

theorem State.faultWith_eq (s : State) (i : Slot) (l : Link) : s.faultWith i l =
    ((((s.setLink i l).raise .linkFault i.val).withoutOld i).raise .shoreDark i.val).considerSwap := rfl

theorem State.faultWith_tells (s : State) (i : Slot) (l : Link) : s.Tells (s.faultWith i l) :=
  (((State.Tells.of_eq (t := s.setLink i l) rfl).raise .linkFault i.val).trans
    (State.withoutOld_tells _ i)).raise .shoreDark i.val |>.trans (State.considerSwap_tells _)

/-- What a fault leaves of the links, of the swap in flight, and of the events. -/
theorem State.faultWith_spec (s : State) (held : l.state = .holdoff) :
    (s.faultWith i l).link i = l
      ∧ (∀ j, j ≠ i → ((s.faultWith i l).link j).eligible = (s.link j).eligible)
      ∧ (∀ w, (s.faultWith i l).selector.swap = some w → w.oldCarrier ≠ some i)
      ∧ s.Latched (s.faultWith i l) .linkFault ∧ s.Latched (s.faultWith i l) .shoreDark := by
  have link := fun j => State.setLink_link (s := s) i j l
  have setTells : s.Tells (s.setLink i l) := .of_eq rfl
  obtain ⟨w, framed, -, gone, -⟩ := ((s.setLink i l).raise .linkFault i.val).withoutOld_frame i
  have fault := s.faultWith_eq i l
  have tells := State.withoutOld_tells ((s.setLink i l).raise .linkFault i.val) i
  rw [framed] at fault tells
  have here : (s.setLink i l).link i = l := (link i).trans (if_pos rfl)
  refine ⟨?_, fun j elsewhere => ?_, fun w' flies => ?_, ?_, ?_⟩
  · rw [fault, State.considerSwap_link_of_ne]
    · exact here
    · have state : ((s.setLink i l).link i).state = .holdoff := by rw [here, held]
      exact ne_of_eq_of_ne state (by decide)
  · rw [fault, State.considerSwap_link_eligible]
    exact congrArg Link.eligible ((link j).trans (if_neg elsewhere))
  · rw [fault] at flies
    obtain before | ⟨-, old⟩ := State.considerSwap_swap flies
    · exact gone w' before
    · rw [old]
      intro carries
      have state : ((s.setLink i l).link i).state = .carrying := State.slotIn_some carries
      rw [here, held] at state
      cases state
  · rw [fault]
    exact ((setTells.latched .linkFault i.val).tells (tells.raise .shoreDark i.val)).tells (State.considerSwap_tells _)
  · rw [fault]
    exact (((setTells.raise .linkFault i.val).trans tells).latched .shoreDark i.val).tells (State.considerSwap_tells _)

/-- The carrier's fault leaves no carrier. -/
theorem State.Linked.faultWith (table : s.Linked c) (carries : (s.link i).state = .carrying)
    (sound : l.Sound (s.linkConfig.get i).loaded) (held : l.state = .holdoff) : (s.faultWith i l).Linked none := by
  obtain rfl := (table.carries i).mp carries
  obtain ⟨w, framed, candidates, -, absents⟩ := ((s.setLink i l).raise .linkFault i.val).withoutOld_frame i
  have left := LinkTable.fault (swap' := w) table sound (by simp [held]) (by simp [held]) candidates (absents table.old)
  rw [State.faultWith_eq, framed]
  refine State.Linked.considerSwap (s := (_ : State).raise _ _) ?_
  refine ⟨fun j => ?_, fun j => ?_, fun j => ?_, left.old⟩
  · exact (congrArg (Link.Sound · _) (State.setLink_link _ _ _)).mpr (left.sound j)
  · exact (Iff.of_eq (congrArg (fun x : Link => x.state = .ramping) (State.setLink_link _ _ _))).trans (left.ramps j)
  · exact (Iff.of_eq (congrArg (fun x : Link => x.state = .carrying) (State.setLink_link _ _ _))).trans (left.carries j)

end Fault

/-! ### Judging the eligible flags (R94) -/

/-- Some slots judged, before the selector is told. -/
def State.judgedLinks (s : State) (slots : List Slot) : State :=
  slots.foldl (fun t i => t.setLink i ((t.link i).judge (t.eligibleNow i) t.params.linkQual)) s

theorem State.judgedLinks_frame (s : State) (slots : List Slot) : ∃ l, s.judgedLinks slots = { s with links := l } := by
  induction slots generalizing s with
  | nil => exact ⟨s.links, rfl⟩
  | cons i rest ih =>
    obtain ⟨l, judged⟩ := ih (s.setLink i ((s.link i).judge (s.eligibleNow i) s.params.linkQual))
    exact ⟨l, judged⟩

theorem State.judgedLinks_link {slots : List Slot} (once : slots.Nodup) (j : Slot) : (s.judgedLinks slots).link j =
    if j ∈ slots then (s.link j).judge (s.eligibleNow j) s.params.linkQual else s.link j := by
  induction slots generalizing s with
  | nil => rfl
  | cons i rest ih =>
    obtain ⟨apart, once⟩ := List.nodup_cons.mp once
    have step := ih (s := s.setLink i ((s.link i).judge (s.eligibleNow i) s.params.linkQual)) once
    change ((s.setLink i _).judgedLinks rest).link j = _
    rw [step, State.setLink_link]
    by_cases here : j = i
    · subst here
      simp [apart]
    · simp only [here, if_false, List.mem_cons, false_or]
      rfl

/-- A slot that is eligible loses its eligible flag at a judgement of some slots. -/
def State.loses (s : State) (slots : List Slot) (i : Slot) : Bool := (s.link i).eligible && !((s.judgedLinks slots).link i).eligible

/-- The candidate's loss abandons the swap (R114). -/
def State.tellCandidate (s : State) (slots : List Slot) : State :=
  match s.selector.swap with
  | some w => if s.loses slots w.candidate then (s.judgedLinks slots).dropSwap w.candidate else s.judgedLinks slots
  | none => s.judgedLinks slots

theorem State.judgeLinks_eq (s : State) (slots : List Slot) : s.judgeLinks slots =
    match s.carrier with
    | some c => if s.loses slots c then (s.tellCandidate slots).considerSwap else s.tellCandidate slots
    | none => s.tellCandidate slots := rfl

/-- After a judgement of some slots every slot is told of its own flag, and the selector has at most considered. -/
theorem State.judgeLinks_cases (s : State) (slots : List Slot) :
    s.judgeLinks slots = s.tellCandidate slots ∨ s.judgeLinks slots = (s.tellCandidate slots).considerSwap := by
  rw [State.judgeLinks_eq]
  split
  · split
    · exact .inr rfl
    · exact .inl rfl
  · exact .inl rfl

theorem State.judgedLinks_tells (s : State) (slots : List Slot) : s.Tells (s.judgedLinks slots) := by
  obtain ⟨l, framed⟩ := s.judgedLinks_frame slots
  rw [framed]
  exact .of_eq rfl

theorem State.tellCandidate_tells (s : State) (slots : List Slot) : s.Tells (s.tellCandidate slots) := by
  unfold State.tellCandidate
  split
  · split
    · exact (s.judgedLinks_tells slots).trans (State.dropSwap_tells _ _)
    · exact s.judgedLinks_tells slots
  · exact s.judgedLinks_tells slots

theorem State.judgeLinks_tells (s : State) (slots : List Slot) : s.Tells (s.judgeLinks slots) := by
  obtain told | told := s.judgeLinks_cases slots
  · rw [told]
    exact s.tellCandidate_tells slots
  · rw [told]
    exact (s.tellCandidate_tells slots).trans (State.considerSwap_tells _)

theorem State.judgeLinks_eligible {slots : List Slot} (once : slots.Nodup) (j : Slot) :
    ((s.judgeLinks slots).link j).eligible = if j ∈ slots then s.eligibleNow j else (s.link j).eligible := by
  have judged : ((s.judgedLinks slots).link j).eligible = if j ∈ slots then s.eligibleNow j else (s.link j).eligible := by
    rw [State.judgedLinks_link once]
    split
    · exact Link.judge_eligible _ _ _
    · rfl
  have told : ((s.tellCandidate slots).link j).eligible = ((s.judgedLinks slots).link j).eligible := by
    unfold State.tellCandidate
    split
    · split
      · exact State.dropSwap_link_eligible _ _
      · rfl
    · rfl
  obtain same | considered := s.judgeLinks_cases slots
  · rw [same, told, judged]
  · rw [considered, State.considerSwap_link_eligible, told, judged]

/-- A judgement keeps the link table and its carrier: a candidate that loses its eligible flag leaves RAMPING and its swap is gone. -/
theorem State.Linked.judgeLinks {slots : List Slot} (table : s.Linked c) (once : slots.Nodup) : (s.judgeLinks slots).Linked c := by
  have link := State.judgedLinks_link (s := s) once
  obtain ⟨l, framed⟩ := s.judgedLinks_frame slots
  have swap : (s.judgedLinks slots).selector = s.selector := by rw [framed]
  have config : (s.judgedLinks slots).linkConfig = s.linkConfig := by rw [framed]
  have sound : ∀ i, ((s.judgedLinks slots).link i).Sound ((s.judgedLinks slots).linkConfig.get i).loaded := fun i => by
    rw [link, config]
    split
    · exact (table.sound i).judge _ _
    · exact table.sound i
  have carries : ∀ i, ((s.judgedLinks slots).link i).state = .carrying ↔ c = some i := fun i => by
    rw [link, ← table.carries i]
    split
    · exact Link.judge_carrying _ _ _
    · rfl
  have ramps : ∀ i, ((s.judgedLinks slots).link i).state = .ramping ↔ (s.link i).state = .ramping ∧ s.loses slots i = false := fun i => by
    rw [State.loses, link]
    split
    · rw [Link.judge_ramping, Link.judge_eligible]
      simp
    · simp
  have told : (s.tellCandidate slots).Linked c := by
    unfold State.tellCandidate
    cases flies : s.selector.swap with
    | none =>
      refine ⟨sound, fun i => ?_, carries, by simp [swap, flies]⟩
      rw [ramps, swap, table.ramps, flies]
      simp
    | some w =>
      have ramping : ∀ i, (s.link i).state = .ramping ↔ w.candidate = i := fun i => by rw [table.ramps, flies]; simp
      dsimp only
      split
      · next lost =>
        refine State.Linked.considerSwap (s := (_ : State).raise _ _) ⟨sound, fun i => ?_, carries, by simp⟩
        refine (ramps i).trans ?_
        rw [ramping]
        constructor
        · rintro ⟨rfl, kept⟩
          simp [lost] at kept
        · simp
      · next kept =>
        refine ⟨sound, fun i => ?_, carries, by rw [swap]; exact table.old⟩
        rw [ramps, ramping, swap, flies]
        constructor
        · rintro ⟨rfl, -⟩
          rfl
        · intro candidate
          obtain rfl : w.candidate = i := by simpa using candidate
          exact ⟨rfl, by simpa using kept⟩
  obtain same | considered := s.judgeLinks_cases slots
  · rwa [same]
  · rw [considered]
    exact told.considerSwap

theorem State.Linked.judgeLinks_law (table : s.Linked c) : (s.judgeLinks allSlots).LinkLaw := by
  refine .of_table (table.judgeLinks (by decide)) fun i => ?_
  rw [State.judgeLinks_eligible (by decide), if_pos (mem_allSlots i)]
  obtain ⟨_, _, _, framed⟩ := s.judgeLinks_frame allSlots
  rw [framed]
  rfl

end Rules

end Sys2Proof.Machine

/-! PROOF. Link reports (5.2 to 5.6). -/

namespace Sys2Proof.Machine

/-! ### A report and one link -/

/-- The raw figure of a report has the range of R88. -/
theorem rawFigure_le (quality loss latency : Nat) : rawFigure quality loss latency ≤ 100 := min_le_left _ _

theorem smoothFigure_le {fresh : Bool} {smoothed raw : Nat} (old : smoothed ≤ 100) (now : raw ≤ 100) : smoothFigure fresh smoothed raw ≤ 100 := by
  unfold smoothFigure
  split <;> omega

/-- A link with a report's fields and raw figure stored (R87, stage 1). -/
def Link.reported (l : Link) (present : Bool) (quality loss latency : Nat) : Link :=
  { l with present := present, quality := quality, loss := loss, latency := latency, raw := rawFigure quality loss latency }

/-- A link that a report feeds with its smoothed figure and its healthy flag (R87, stages 2 to 4). -/
def Link.figured (l : Link) (par : Params) (present : Bool) (quality loss latency : Nat) : Link :=
  let figure := smoothFigure (l.state == .down || l.fresh) l.smoothed (rawFigure quality loss latency)
  { l.reported present quality loss latency with
    state := if l.state = .down then .idle else l.state
    smoothed := figure, fresh := false, stale := false, staleTimer := some (seconds par.staleTime)
    healthy := judgeHealthy par.healthUpper par.healthLower (l.state != .down && l.healthy) figure }

/-- What stages 5 and 6 of a report make of a link that neither abandons the swap nor faults. -/
def Link.acted (l : Link) (par : Params) (wasHealthy present hard : Bool) : Link :=
  match l.state with
  | .down => l
  | .idle =>
    if !present then l.enterDown
    else if !hard && l.healthy && l.eligible then l.enterQualifying par.linkQual
    else l
  | .qualifying => if !present then l.enterDown else if hard || !l.healthy then l.enterIdle else l
  | .standby => if !present then l.enterDown else if hard || !l.healthy then l.enterIdle else l
  | .ramping => l
  | .carrying =>
    if l.healthy then { l with faultTimer := none }
    else if wasHealthy then { l with faultTimer := some (seconds par.faultQual) }
    else l
  | .holdoff => if !present then { l with absent := true } else l

section Report

variable {l : Link} {par : Params} {present : Bool} {quality loss latency : Nat}

theorem Link.applyReport_absent (down : l.state = .down) (absent : present = false) :
    l.applyReport par present quality loss latency = l.reported present quality loss latency := by
  simp [Link.applyReport, Link.reported, down, absent]

theorem Link.applyReport_holdoff (held : l.state = .holdoff) :
    l.applyReport par present quality loss latency =
      { l.reported present quality loss latency with staleTimer := some (seconds par.staleTime), stale := false } := by
  simp [Link.applyReport, Link.reported, held]

theorem Link.applyReport_figured (reports : l.state ≠ .holdoff) (fed : l.state = .down → present = true) :
    l.applyReport par present quality loss latency = l.figured par present quality loss latency := by
  by_cases down : l.state = .down
  · simp [Link.applyReport, Link.figured, Link.reported, down, fed down]
  · have notDown : (l.state == LinkState.down) = false ∧ (l.state != LinkState.down) = true := by simp [down]
    simp [Link.applyReport, Link.figured, Link.reported, down, reports, notDown]

theorem Link.applyReport_eligible : (l.applyReport par present quality loss latency).eligible = l.eligible := by
  by_cases held : l.state = .holdoff
  · exact (congrArg Link.eligible (Link.applyReport_holdoff held)).trans rfl
  · by_cases absent : l.state = .down ∧ present = false
    · exact (congrArg Link.eligible (Link.applyReport_absent absent.1 absent.2)).trans rfl
    · exact (congrArg Link.eligible (Link.applyReport_figured held (by simpa using absent))).trans rfl

theorem Link.acted_eligible (wasHealthy hard : Bool) : (l.acted par wasHealthy present hard).eligible = l.eligible := by
  unfold Link.acted
  split
  case h_1 | h_5 => rfl
  case h_2 | h_6 => split <;> [rfl; (split <;> rfl)]
  case h_3 | h_4 => split <;> [rfl; (split <;> rfl)]
  case h_7 => split <;> rfl

/-- A link that a report has fed and whose state has not acted on it: its fault timer still goes by the healthy flag `was`. -/
structure Link.Fed (l : Link) (was : Bool) : Prop where
  qual : l.qualTimer.isSome = true ↔ l.state = .qualifying
  hold : l.holdoffTimer = none
  fault : l.faultTimer.isSome = true ↔ l.state = .carrying ∧ was = false
  reports : l.state ≠ .down ∧ l.state ≠ .holdoff
  ready : l.state = .qualifying ∨ l.state = .standby ∨ l.state = .ramping → l.eligible = true
  absent : l.absent = false
  figures : l.smoothed ≤ 100 ∧ l.raw ≤ 100 ∧ l.quality ≤ 100 ∧ l.loss ≤ 1000

theorem Link.Sound.figured (sound : l.Sound true) (reports : l.state ≠ .holdoff) (small : quality ≤ 100) (lost : loss ≤ 1000) :
    (l.figured par present quality loss latency).Fed l.healthy := by
  have raw := rawFigure_le quality loss latency
  have figure := smoothFigure_le (fresh := l.state == .down || l.fresh) sound.smoothed raw
  obtain ⟨_, _, _, _, _, _, _, _, _, _, _, _⟩ := sound
  cases state : l.state <;> constructor <;> simp_all [Link.figured, Link.reported]

/-- What the state of a fed link does leaves the link in order (R96 to R99). -/
theorem Link.Fed.acted {was : Bool} (fed : l.Fed was) (hard : Bool) : (l.acted par was present hard).Sound true := by
  obtain ⟨qual, hold, fault, reports, ready, absent, smoothed, raw, quality, loss⟩ := fed
  unfold Link.acted
  split <;> rename_i state
  · exact absurd state reports.1
  · split
    · constructor <;> simp_all [Link.enterDown]
    · split <;> constructor <;> simp_all [Link.enterQualifying]
  · split
    · constructor <;> simp_all [Link.enterDown]
    · split <;> constructor <;> simp_all [Link.enterIdle]
  · split
    · constructor <;> simp_all [Link.enterDown]
    · split <;> constructor <;> simp_all [Link.enterIdle]
  · constructor <;> simp_all
  · split
    · constructor <;> simp_all
    · cases was <;> constructor <;> simp_all
  · exact absurd state reports.2

/-- A report leaves its link in order, its fault timer as R99 asks. -/
theorem Link.Sound.acted (sound : l.Sound true) (small : quality ≤ 100) (lost : loss ≤ 1000) (hard : Bool) :
    ((l.applyReport par present quality loss latency).acted par l.healthy present hard).Sound true := by
  have raw := rawFigure_le quality loss latency
  by_cases held : l.state = .holdoff
  · obtain ⟨_, _, _, _, _, _, _, _, _, _, _, _⟩ := sound
    rw [Link.applyReport_holdoff held]
    cases present <;> constructor <;> simp_all [Link.acted, Link.reported]
  by_cases absent : l.state = .down ∧ present = false
  · obtain ⟨_, _, _, _, _, _, _, _, _, _, _, _⟩ := sound
    rw [Link.applyReport_absent absent.1 absent.2]
    constructor <;> simp_all [Link.acted, Link.reported]
  · rw [Link.applyReport_figured held (by simpa using absent)]
    exact (sound.figured held small lost).acted hard

/-- The figures of a report lie in their ranges (R86, R88, R89). -/
theorem Link.Sound.applyReport_range (sound : l.Sound true) (small : quality ≤ 100) (lost : loss ≤ 1000) :
    (l.applyReport par present quality loss latency).smoothed ≤ 100 ∧ (l.applyReport par present quality loss latency).raw ≤ 100
      ∧ (l.applyReport par present quality loss latency).quality ≤ 100
      ∧ (l.applyReport par present quality loss latency).loss ≤ 1000 := by
  have raw := rawFigure_le quality loss latency
  by_cases held : l.state = .holdoff
  · rw [Link.applyReport_holdoff held]
    exact ⟨sound.smoothed, raw, small, lost⟩
  by_cases absent : l.state = .down ∧ present = false
  · rw [Link.applyReport_absent absent.1 absent.2]
    exact ⟨sound.smoothed, raw, small, lost⟩
  · rw [Link.applyReport_figured held (by simpa using absent)]
    exact ⟨smoothFigure_le sound.smoothed raw, raw, small, lost⟩

/-- No report brings a link into RAMPING or CARRYING, and only a failure takes one out. -/
theorem Link.acted_engaged (hard was : Bool) (x : LinkState) (engaged : x = .ramping ∨ x = .carrying) :
    ((l.applyReport par present quality loss latency).acted par was present hard).state = x ↔ l.state = x := by
  by_cases held : l.state = .holdoff
  · rw [Link.applyReport_holdoff held]
    obtain rfl | rfl := engaged <;> cases present <;> simp [Link.acted, Link.reported, held]
  by_cases absent : l.state = .down ∧ present = false
  · rw [Link.applyReport_absent absent.1 absent.2]
    obtain rfl | rfl := engaged <;> simp [Link.acted, Link.reported, absent.1]
  rw [Link.applyReport_figured held (by simpa using absent)]
  cases state : l.state with
  | down | idle =>
    obtain rfl | rfl := engaged <;> cases present <;>
      simp [Link.acted, Link.figured, state, Link.enterDown, Link.enterQualifying, apply_ite Link.state, ite_eq_iff]
  | qualifying | standby =>
    obtain rfl | rfl := engaged <;> cases present <;>
      simp [Link.acted, Link.figured, state, Link.enterDown, Link.enterIdle, apply_ite Link.state, ite_eq_iff]
  | ramping => obtain rfl | rfl := engaged <;> simp [Link.acted, Link.figured, state]
  | carrying => obtain rfl | rfl := engaged <;> simp [Link.acted, Link.figured, state, apply_ite Link.state]
  | holdoff => exact absurd state held

theorem Link.applyReport_engaged (x : LinkState) (engaged : x = .ramping ∨ x = .carrying) :
    (l.applyReport par present quality loss latency).state = x ↔ l.state = x := by
  by_cases held : l.state = .holdoff
  · exact (Iff.of_eq (congrArg (fun m : Link => m.state = x) (Link.applyReport_holdoff held))).trans Iff.rfl
  by_cases absent : l.state = .down ∧ present = false
  · exact (Iff.of_eq (congrArg (fun m : Link => m.state = x) (Link.applyReport_absent absent.1 absent.2))).trans Iff.rfl
  · rw [Link.applyReport_figured held (by simpa using absent)]
    obtain rfl | rfl := engaged <;> cases state : l.state <;> simp [Link.figured, state]

theorem Link.storeUnloaded_same : (l.storeUnloaded par present quality loss latency).state = l.state
    ∧ (l.storeUnloaded par present quality loss latency).eligible = l.eligible := by
  unfold Link.storeUnloaded
  dsimp only
  split <;> exact ⟨rfl, rfl⟩

/-- A report for an unloaded slot leaves its link in order. -/
theorem Link.Sound.storeUnloaded (sound : l.Sound false) (small : quality ≤ 100) (lost : loss ≤ 1000) :
    (l.storeUnloaded par present quality loss latency).Sound false := by
  obtain ⟨_, _, _, _, _, _, _, _, _, _, _, _⟩ := sound
  unfold Link.storeUnloaded
  dsimp only
  split <;> constructor <;> simp_all

end Report

/-! ### A report and the link table -/

section Table

variable {s : State} {i : Slot} {present : Bool} {quality loss latency : Nat}

theorem Slots.set_set {α : Type} (x : Slots α) (i : Slot) (a b : α) : (x.set i a).set i b = x.set i b := by
  fin_cases i <;> rfl

theorem State.setLink_setLink (s : State) (i : Slot) (a b : Link) : (s.setLink i a).setLink i b = s.setLink i b := by
  simp [State.setLink, Slots.set_set]

/-- The link that a report leaves before its state acts on it. -/
abbrev State.fed (s : State) (i : Slot) (present : Bool) (quality loss latency : Nat) : Link :=
  (s.link i).applyReport s.params present quality loss latency

/-- A report for a loaded slot abandons the swap, faults the carrier, or changes its own link alone. -/
theorem State.takeReport_eq (loaded : (s.linkConfig.get i).loaded = true) :
    s.takeReport i present quality loss latency =
      let l := s.fed i present quality loss latency
      let hard := hardFailure s.params.hardLossLimit present loss
      if l.state = .ramping ∧ hard = true then (s.setLink i (l.enterHoldoff s.params.holdoff (!present))).dropSwap i
      else if l.state = .carrying ∧ hard = true then s.faultWith i (l.enterHoldoff s.params.holdoff (!present))
      else s.setLink i (l.acted s.params (s.link i).healthy present hard) := by
  have link : (s.setLink i (s.fed i present quality loss latency)).link i = s.fed i present quality loss latency :=
    (State.setLink_link i i _).trans (if_pos rfl)
  have params : (s.setLink i (s.fed i present quality loss latency)).params = s.params := rfl
  have self : ∀ m : Link, (s.setLink i (s.fed i present quality loss latency)).setLink i m = s.setLink i m := s.setLink_setLink i _
  unfold State.takeReport
  rw [if_pos loaded]
  generalize hardFailure s.params.hardLossLimit present loss = hard
  change State.actOnReport (s.setLink i (s.fed i present quality loss latency)) i _ _ _ = _
  unfold State.actOnReport Link.acted State.abandonFailed
  simp only [State.faultLink_eq, State.faultWith, link, params, self]
  cases state : (s.fed i present quality loss latency).state <;> simp [apply_ite (s.setLink i)]

theorem State.takeReport_unloaded (unloaded : (s.linkConfig.get i).loaded = false) :
    s.takeReport i present quality loss latency = s.setLink i ((s.link i).storeUnloaded s.params present quality loss latency) := by
  simp [State.takeReport, unloaded]

/-- A candidate that enters HOLDOFF is left there by the consideration that follows. -/
theorem State.abandoned_link (s : State) (i : Slot) (l : Link) (absent : Bool) :
    ((s.setLink i (l.enterHoldoff s.params.holdoff absent)).dropSwap i).link i = l.enterHoldoff s.params.holdoff absent := by
  have link : (s.setLink i (l.enterHoldoff s.params.holdoff absent)).link i = l.enterHoldoff s.params.holdoff absent :=
    (State.setLink_link i i _).trans (if_pos rfl)
  rw [State.dropSwap_link, link]
  rw [link]
  simp [Link.enterHoldoff]

/-- A report keeps the link table; the carrier is the one before, or none after its fault. -/
theorem State.Linked.takeReport {c : Option Slot} (table : s.Linked c) (small : quality ≤ 100) (lost : loss ≤ 1000) :
    ∃ c', (s.takeReport i present quality loss latency).Linked c' := by
  have sound : (s.link i).Sound (s.linkConfig.get i).loaded := table.sound i
  cases loaded : (s.linkConfig.get i).loaded with
  | false =>
    rw [State.takeReport_unloaded loaded]
    refine ⟨c, table.setLink ?_ ?_ ?_⟩
    · rw [loaded] at sound ⊢
      exact sound.storeUnloaded small lost
    · rw [Link.storeUnloaded_same.1]
    · rw [Link.storeUnloaded_same.1]
  | true =>
    rw [loaded] at sound
    have failed : ((s.fed i present quality loss latency).enterHoldoff s.params.holdoff (!present)).Sound (s.linkConfig.get i).loaded := by
      obtain ⟨h1, h2, h3, h4⟩ := sound.applyReport_range (par := s.params) (present := present) (latency := latency) small lost
      exact Link.enterHoldoff_sound h1 h2 h3 h4 _ _
    have state (x : LinkState) (engaged : x = .ramping ∨ x = .carrying) :
        (s.fed i present quality loss latency).state = x ↔ (s.link i).state = x := Link.applyReport_engaged x engaged
    rw [State.takeReport_eq loaded]
    dsimp only
    split
    · next ramps =>
      obtain ⟨w, flies, rfl⟩ := Option.map_eq_some_iff.mp ((table.ramps i).mp ((state _ (.inl rfl)).mp ramps.1))
      exact ⟨c, table.dropSwap flies failed (by simp [Link.enterHoldoff]) (by simp [Link.enterHoldoff]) s.selector.lateMark⟩
    · split
      · next carries => exact ⟨none, table.faultWith ((state _ (.inr rfl)).mp carries.1) failed rfl⟩
      · exact ⟨c, table.setLink (by rw [loaded]; exact sound.acted small lost _)
          (Link.acted_engaged _ _ _ (.inl rfl)) (Link.acted_engaged _ _ _ (.inr rfl))⟩

theorem State.takeReport_eligible (j : Slot) :
    ((s.takeReport i present quality loss latency).link j).eligible = (s.link j).eligible := by
  have kept (l : Link) (same : l.eligible = (s.link i).eligible) : ((s.setLink i l).link j).eligible = (s.link j).eligible := by
    rw [State.setLink_link]
    split
    · next here => rw [here, same]
    · rfl
  have fed : (s.fed i present quality loss latency).eligible = (s.link i).eligible := Link.applyReport_eligible
  cases loaded : (s.linkConfig.get i).loaded with
  | false =>
    rw [State.takeReport_unloaded loaded]
    exact kept _ (Link.storeUnloaded_same.2)
  | true =>
    rw [State.takeReport_eq loaded]
    dsimp only
    split
    · rw [State.dropSwap_link_eligible]
      exact kept _ fed
    · split
      · by_cases here : j = i
        · rw [here, (s.faultWith_spec rfl).1]
          exact fed
        · exact (s.faultWith_spec rfl).2.1 j here
      · exact kept _ ((Link.acted_eligible _ _).trans fed)

theorem State.takeReport_tells : s.Tells (s.takeReport i present quality loss latency) := by
  cases loaded : (s.linkConfig.get i).loaded with
  | false =>
    rw [State.takeReport_unloaded loaded]
    exact .of_eq rfl
  | true =>
    rw [State.takeReport_eq loaded]
    dsimp only
    split
    · exact (s.setLink i _).dropSwap_tells i
    · split
      · exact s.faultWith_tells i _
      · exact .of_eq rfl

end Table

/-! ### The command -/

theorem beBytes_one (n : Nat) : beBytes 1 n = [BitVec.ofNat 8 n] := by simp [beBytes]

theorem exec_linkReport_badParam {s : State} (running : s.power.supervisor = .running) {b present quality : Byte} {loss latency : Half}
    (bad : 6 ≤ b.toNat ∨ 2 ≤ present.toNat) :
    exec (.linkReport .link b present quality loss latency) s = .next (s.withFrame .link (.answered .badParam [])) := by
  change execLinkReport .link b present quality loss latency s = _
  rw [execLinkReport, State.command_eq running (by simp)]
  obtain slot | here := bad
  · simp only [slotOf_of_le slot]
    rfl
  · simp only [boolOf_eq_none_iff.mpr here]
    cases slotOf b <;> rfl

theorem exec_linkReport {s : State} (running : s.power.supervisor = .running) {b present quality : Byte} {loss latency : Half}
    {i : Slot} (slot : b.toNat = i.val) (here : present.toNat < 2) {t : State}
    (taken : s.takeReport i (present == 1) (min 100 quality.toNat) (min 1000 loss.toNat) latency.toNat = t) :
    exec (.linkReport .link b present quality loss latency) s = .next (t.withFrame .link (.answered
      (if 100 < quality.toNat ∨ 1000 < loss.toNat then .clamped else .ok)
      [BitVec.ofNat 8 (t.link i).state.code, BitVec.ofNat 8 (t.link i).smoothed, flagByte (t.link i).healthy,
        flagByte (t.link i).eligible])) := by
  change execLinkReport .link b present quality loss latency s = _
  rw [execLinkReport, State.command_eq running (by simp), slotOf_of_val slot, boolOf_of_lt here]
  dsimp only
  rw [taken, clampStatus_of_iff (c := ¬ (100 < quality.toNat ∨ 1000 < loss.toNat)) (by simp), ite_not, beBytes_one, beBytes_one]
  rfl

/-- A present byte of a report, as the flag it carries. -/
theorem present_iff {b : Byte} (small : b.toNat < 2) : (b == 0) = !(b == 1) ∧ (b = 0 ↔ (b == 1) = false) ∧ (b = 1 ↔ (b == 1) = true) := by
  obtain rfl | rfl := byte_of_lt_two small <;> decide

/-- Settles O29: a report changes its own link by the stages of R87, unless it fails the candidate or the carrier. -/
theorem linkReportActs : Obligations.LinkReportActs := by
  intro s b present quality loss latency i l base fed q n raw sm healthy hard running
  refine ⟨exec_linkReport_badParam running, fun slot small link qual lost rawIs hardIs smIs healthyIs baseIs fedIs => ?_⟩
  obtain ⟨zero, absent, here⟩ := present_iff small
  rw [zero] at hardIs
  have hardFails : hardFailure s.params.hardLossLimit (present == 1) n = hard := hardIs.symm
  simp only [absent, here, zero]
  have report := exec_linkReport (quality := quality) (loss := loss) (latency := latency)
    (t := s.takeReport i (present == 1) q n latency.toNat) running slot small (by rw [qual, lost])
  generalize (present == 1) = isHere at *
  obtain ⟨k, m, o, frame⟩ := s.takeReport_frame i isHere q n latency.toNat
  have fields : l.reported isHere q n latency.toNat = { base with raw := raw } := by rw [baseIs, rawIs]; rfl
  have figures : l.figured s.params isHere q n latency.toNat =
      { fed with state := if l.state = .down then .idle else l.state } := by
    have figure : smoothFigure (l.state == .down || l.fresh) l.smoothed (rawFigure q n latency.toNat) = sm := by
      rw [smIs, rawIs]
      simp [smoothFigure, rawFigure]
    have judged : judgeHealthy s.params.healthUpper s.params.healthLower (l.state != .down && l.healthy) sm = healthy := healthyIs.symm
    rw [Link.figured, fields, figure]
    dsimp only
    rw [judged, fedIs]
    rfl
  refine ⟨_, report, by rw [frame], fun unloaded => ?_, fun loaded => ?_⟩
  · rw [State.takeReport_unloaded unloaded, link, baseIs]
    refine ⟨fun reports => ?_, fun held => ?_⟩
    · rw [Link.storeUnloaded, if_neg reports]
    · rw [Link.storeUnloaded, if_pos held]
      rfl
  · have took := State.takeReport_eq (s := s) (present := isHere) (quality := q) (loss := n) (latency := latency.toNat) loaded
    rw [State.fed, link] at took
    dsimp only at took
    rw [hardFails] at took
    have baseSame : base.state = l.state ∧ base.absent = l.absent := by rw [baseIs]; exact ⟨rfl, rfl⟩
    have figured : l.state ≠ .holdoff → (l.state = .down → isHere = true) → l.applyReport s.params isHere q n latency.toNat = _ :=
      fun reports fed => (Link.applyReport_figured reports fed).trans figures
    refine ⟨fun down gone => ?_, fun held => ?_, fun stands shows => ?_, fun stands shows => ?_, fun stands gone => ?_, fun ramps soft => ?_,
      fun carries soft => ?_, fun stands fails => ?_, fun ramps fails => ?_, fun carries fails => ?_⟩
    · rw [took, Link.applyReport_absent down gone, fields]
      simp [Link.acted, baseSame, down]
    · rw [took, Link.applyReport_holdoff held, fields]
      cases isHere <;> simp [Link.acted, baseSame, held, seconds]
    · have given := figured (by rcases stands with h | h <;> simp [h]) (fun _ => shows)
      rw [took, given, fedIs]
      obtain stands | stands := stands <;> cases hard <;> cases healthy <;> cases ready : l.eligible <;>
        simp [Link.acted, Link.enterQualifying, stands, shows, ready, seconds, baseIs]
    · have given := figured (by rcases stands with h | h <;> simp [h]) (fun _ => shows)
      rw [took, given, fedIs]
      obtain stands | stands := stands <;> cases hard <;> cases healthy <;> simp [Link.acted, Link.enterIdle, stands, shows, baseIs]
    · have given := figured (by rcases stands with h | h | h <;> simp [h]) (by rcases stands with h | h | h <;> simp [h])
      rw [took, given, fedIs]
      obtain stands | stands | stands := stands <;> simp [Link.acted, Link.enterDown, stands, gone, baseIs]
    · rw [took, figured (by simp [ramps]) (by simp [ramps]), fedIs]
      simp [Link.acted, ramps, soft, baseIs]
    · rw [took, figured (by simp [carries]) (by simp [carries]), fedIs]
      cases healthy <;> cases before : l.healthy <;> simp [Link.acted, carries, soft, before, seconds, baseIs]
    · have given := figured (by rcases stands with h | h <;> simp [h]) (by rcases stands with h | h <;> simp [h])
      have left : (l.applyReport s.params isHere q n latency.toNat).enterHoldoff s.params.holdoff (!isHere) = { fed with
          state := .holdoff, holdoffTimer := some (s.params.holdoff * Config.periodsPerSecond), healthy := false,
          qualTimer := none, faultTimer := none, absent := !isHere } := by rw [given]; rfl
      rw [← left]
      obtain ramps | carries := stands
      · rw [took, if_pos ⟨by simp [given, ramps], fails⟩]
        exact State.abandoned_link s i _ _
      · rw [took, if_neg (by simp [given, carries]), if_pos ⟨by simp [given, carries], fails⟩]
        exact (s.faultWith_spec rfl).1
    · rw [took, if_pos ⟨by simp [figured, ramps], fails⟩]
      refine ⟨(s.setLink i _).dropSwap_latched i, fun w flies same => ?_⟩
      have waits := (State.dropSwap_swap flies).1
      rw [same, State.setLink_link, if_pos rfl] at waits
      cases waits
    · rw [took, if_neg (by simp [figured, carries]), if_pos ⟨by simp [figured, carries], fails⟩]
      obtain ⟨-, -, gone, fault, dark⟩ := s.faultWith_spec (i := i)
        (l := (l.applyReport s.params isHere q n latency.toNat).enterHoldoff s.params.holdoff (!isHere)) rfl
      exact ⟨fault, dark, gone⟩

end Sys2Proof.Machine

/-! PROOF. The configuration of a slot (5.1), and the timers of a link (5.6). -/

namespace Sys2Proof.Machine

/-! ### A judgement of one link -/

/-- A judgement of a link that neither ramps nor carries (R94, R96 to R98). -/
theorem Link.Sound.judge_rests {l : Link} {loaded : Bool} (sound : l.Sound loaded) (stops : l.state ≠ .ramping) (idles : l.state ≠ .carrying)
    (now : Bool) (linkQual : Nat) : l.judge now linkQual = { l with
      eligible := now
      state := if l.state = .idle ∧ l.eligible = false ∧ now = true ∧ l.healthy = true then .qualifying
        else if (l.state = .qualifying ∨ l.state = .standby) ∧ now = false then .idle else l.state
      qualTimer := if l.state = .idle ∧ l.eligible = false ∧ now = true ∧ l.healthy = true then some (seconds linkQual)
        else if (l.state = .qualifying ∨ l.state = .standby) ∧ now = false then none else l.qualTimer } := by
  have ready := sound.ready
  obtain ⟨state, _, _, _, _, _, _, _, healthy, _, eligible, _, _, _, _, _⟩ := l
  cases state <;> cases eligible <;> cases now <;> cases healthy <;>
    simp_all [Link.judge, Link.enterQualifying, Link.enterIdle]

/-- A candidate or a carrier that is judged eligible changes in its flag alone. -/
theorem Link.Sound.judge_gain {l : Link} {loaded : Bool} (sound : l.Sound loaded) (engaged : l.state = .ramping ∨ l.state = .carrying)
    (linkQual : Nat) : l.judge true linkQual = { l with eligible := true } := by
  have ramping := sound.ramping
  obtain ⟨state, _, _, _, _, _, _, _, _, _, eligible, _, _, _, _, _⟩ := l
  obtain rfl | rfl : state = _ ∨ state = _ := engaged <;> cases eligible <;> simp_all [Link.judge]

section Load

variable {s : State} {i : Slot}

/-! ### A judgement of one slot -/

theorem State.judgedLinks_one (s : State) (i : Slot) :
    s.judgedLinks [i] = s.setLink i ((s.link i).judge (s.eligibleNow i) s.params.linkQual) := rfl

/-- The slots a judgement does not visit lose nothing. -/
theorem State.loses_one_of_ne {j : Slot} (elsewhere : j ≠ i) : s.loses [i] j = false := by
  rw [State.loses, State.judgedLinks_link (by simp), if_neg (by simpa using elsewhere)]
  simp

theorem State.loses_one : s.loses [i] i = ((s.link i).eligible && !s.eligibleNow i) := by
  rw [State.loses, State.judgedLinks_link (by simp), if_pos (by simp), Link.judge_eligible]

/-- The selector is told only of the candidate and of the carrier (R94, R114). -/
theorem State.judgeLinks_one_of_untold (candidate : ∀ w ∈ s.selector.swap, s.loses [i] w.candidate = false)
    (carrier : ∀ c ∈ s.carrier, s.loses [i] c = false) : s.judgeLinks [i] = s.judgedLinks [i] := by
  have told : s.tellCandidate [i] = s.judgedLinks [i] := by
    unfold State.tellCandidate
    split
    · next w flies => rw [if_neg (by simp [candidate w flies])]
    · rfl
  rw [State.judgeLinks_eq, told]
  split
  · next c carries => rw [if_neg (by simp [carrier c carries])]
  · rfl

theorem State.judgeLinks_one_of_gain (now : s.eligibleNow i = true) : s.judgeLinks [i] = s.judgedLinks [i] := by
  have none_lost : ∀ j, s.loses [i] j = false := fun j => by
    by_cases here : j = i
    · rw [here, State.loses_one, now]
      simp
    · exact State.loses_one_of_ne here
  exact State.judgeLinks_one_of_untold (fun w _ => none_lost _) (fun c _ => none_lost c)

theorem State.Linked.judgeLinks_idle {c : Option Slot} (table : s.Linked c) (stops : (s.link i).state ≠ .ramping) (idles : (s.link i).state ≠ .carrying) :
    s.judgeLinks [i] = s.judgedLinks [i] := by
  refine State.judgeLinks_one_of_untold (fun w flies => State.loses_one_of_ne ?_) (fun d carries => State.loses_one_of_ne ?_)
  · rintro rfl
    exact stops ((table.ramps _).mpr (by rw [flies]; rfl))
  · rintro rfl
    exact idles (State.slotIn_some carries)

/-- The candidate's loss of its eligible flag returns it to IDLE and drops the swap; the carrier is another slot (R114). -/
theorem State.Linked.judgeLinks_candidate {c : Option Slot} (table : s.Linked c) (ramps : (s.link i).state = .ramping) (lost : s.eligibleNow i = false) :
    s.judgeLinks [i] = (s.setLink i { s.link i with eligible := false, state := .idle }).dropSwap i := by
  obtain ⟨w, flies, rfl⟩ := Option.map_eq_some_iff.mp ((table.ramps i).mp ramps)
  have eligible := (table.sound w.candidate).ramping ramps
  have judged : (s.link w.candidate).judge (s.eligibleNow w.candidate) s.params.linkQual =
      { s.link w.candidate with eligible := false, state := .idle } := by
    simp [Link.judge, ramps, eligible, lost]
  have told : s.tellCandidate [w.candidate] = (s.judgedLinks [w.candidate]).dropSwap w.candidate := by
    rw [State.tellCandidate, flies]
    dsimp only
    rw [if_pos (by rw [State.loses_one, eligible, lost]; rfl)]
  have carrier : ∀ d ∈ s.carrier, s.loses [w.candidate] d = false := fun d carries => State.loses_one_of_ne (by
    rintro rfl
    have := State.slotIn_some carries
    rw [ramps] at this
    cases this)
  rw [← judged, ← State.judgedLinks_one, ← told, State.judgeLinks_eq]
  split
  · next d carries => rw [if_neg (by simp [carrier d carries])]
  · rfl

/-! ### Loading a slot -/

/-- A load that carries the present configuration judges a flag that is as it was judged. -/
theorem State.LinkLaw.loadLink_eq (law : s.LinkLaw) (runs : s.mainRuns = true) (c : LinkConfig) :
    s.loadLink i c = ({ s with linkConfig := s.linkConfig.set i c } : State).judgeLinks [i] := by
  unfold State.loadLink
  split
  · next same =>
    rw [← same, Selection.Slots.set_get_self]
    exact (Selection.judgeLinks_of_eligible_eq (Selection.eligible_eq_eligibleNow law runs i)).symm
  · rfl

theorem State.linked_config {c : Option Slot} (table : s.Linked c) (config : LinkConfig) (loaded : config.loaded = true) :
    ({ s with linkConfig := s.linkConfig.set i config } : State).Linked c := by
  refine ⟨fun j => ?_, table.ramps, table.carries, table.old⟩
  change (s.link j).Sound ((s.linkConfig.set i config).get j).loaded
  rw [Slots.get_set]
  split
  · next here =>
    subst here
    rw [loaded]
    obtain ⟨h1, h2, h3, h4, h5, h6, h7, -, h9, h10, h11, h12⟩ := table.sound j
    exact ⟨h1, h2, h3, h4, h5, h6, h7, by simp, h9, h10, h11, h12⟩
  · exact table.sound j

end Load

/-! ### The command -/

section Command

variable {s : State} {i : Slot} {b loaded kind cost rank : Byte} {zones : Half}

theorem exec_loadLink_badParam (running : s.power.supervisor = .running)
    (bad : 6 ≤ b.toNat ∨ 2 ≤ loaded.toNat ∨ loaded = 1 ∧ (3 ≤ kind.toNat ∨ 4 ≤ cost.toNat ∨ rank = 0 ∨ 16 ≤ rank.toNat)) :
    exec (.loadLink .purser b loaded kind cost rank zones) s = .next (s.withFrame .purser (.answered .badParam [])) := by
  change execLoadLink .purser b loaded kind cost rank zones s = _
  rw [execLoadLink, State.command_eq running (by simp)]
  obtain slot | flag | ⟨rfl, bad⟩ := bad
  · simp only [slotOf_of_le slot]
    rfl
  · simp only [boolOf_eq_none_iff.mpr flag]
    cases slotOf b <;> rfl
  · cases slotOf b with
    | none => rfl
    | some i =>
      simp only [boolOf_one]
      cases shape : linkKindOf kind with
      | none => rfl
      | some k =>
        have small : ¬ 3 ≤ kind.toNat := by
          intro big
          rw [linkKindOf_eq_none_iff.mpr (by omega)] at shape
          cases shape
        dsimp only
        rw [if_neg]
        · rfl
        · obtain big | big | rfl | big := bad
          · exact absurd big small
          · omega
          · simp
          · omega

theorem exec_unloadLink (running : s.power.supervisor = .running) (slot : b.toNat = i.val) :
    exec (.loadLink .purser b 0 kind cost rank zones) s =
      if (s.link i).engaged then .next (s.withFrame .purser (.answered .busy []))
      else .next ((s.unloadLink i).withFrame .purser (.answered .ok [])) := by
  change execLoadLink .purser b 0 kind cost rank zones s = _
  rw [execLoadLink, State.command_eq running (by simp), slotOf_of_val slot]
  simp only [boolOf_zero]
  split <;> rfl

theorem exec_loadLink_busy (running : s.power.supervisor = .running) (slot : b.toNat = i.val) {k : LinkKind}
    (shape : linkKindOf kind = some k) (class_ : cost.toNat ≤ 3) (low : 1 ≤ rank.toNat) (high : rank.toNat ≤ 15)
    (busy : (s.linkConfig.get i).loaded = true ∧ (s.link i).engaged = true
      ∧ ((s.linkConfig.get i).kind ≠ k ∨ (s.linkConfig.get i).costClass ≠ cost.toNat)) :
    exec (.loadLink .purser b 1 kind cost rank zones) s = .next (s.withFrame .purser (.answered .busy [])) := by
  change execLoadLink .purser b 1 kind cost rank zones s = _
  rw [execLoadLink, State.command_eq running (by simp), slotOf_of_val slot]
  simp only [boolOf_one, shape]
  rw [if_pos ⟨class_, low, high⟩, if_pos (by simpa [and_assoc] using busy)]
  rfl

end Command

/-- Settles O30: a load in range writes the configuration and judges the one eligible flag; the selector is told of nothing but
the candidate's loss and the carrier's. -/
theorem loadLinkJudges : Obligations.LoadLinkJudges := by
  intro s b loaded kind cost rank zones i l running
  refine ⟨exec_loadLink_badParam running, fun slot link => ⟨?_, ?_, ?_, ?_⟩⟩
  · rintro rfl engaged
    rw [exec_unloadLink running slot, if_pos (by obtain h | h := engaged <;> simp [Link.engaged, link, h])]
  · rintro rfl rests
    rw [exec_unloadLink running slot, if_neg (by obtain h | h | h | h := rests <;> simp [Link.engaged, link, h])]
    obtain h | h | h | h := rests <;> simp [State.unloadLink, link, h, Link.enterDown]
  · rintro rfl held
    rw [exec_unloadLink running slot, if_neg (by simp [Link.engaged, link, held])]
    simp [State.unloadLink, link, held]
  · rintro k e rfl shape class_ low high judged law
    have runs := State.mainRuns_of_running running
    have table := law.table
    set t := ({ s with linkConfig := s.linkConfig.set i ⟨true, k, cost.toNat, rank.toNat, zones⟩ } : State) with tIs
    have load := law.loadLink_eq (i := i) runs ⟨true, k, cost.toNat, rank.toNat, zones⟩
    have now : t.eligibleNow i = e := by
      rw [judged, State.eligibleNow, tIs]
      simp
    have tLink : t.link i = l := link
    have ok := fun free => Selection.exec_loadLink_ok (zones := zones) running slot shape class_ low high free
    simp only [link] at ok
    rw [load] at ok
    have tTable : t.Linked s.carrier := State.linked_config table _ rfl
    refine ⟨fun engaged differs => ?_, fun stops idles => ?_, fun engaged sameKind sameClass => ?_⟩
    · have isLoaded := Selection.loaded_of_state law (i := i) (by rw [link]; rcases engaged with h | h <;> simp [h])
        (by rw [link]; rcases engaged with h | h <;> simp [h])
      exact exec_loadLink_busy running slot shape class_ low high
        ⟨isLoaded, by rw [link]; rcases engaged with h | h <;> simp [Link.engaged, h], differs⟩
    · rw [ok (.inl (by simp [Link.engaged, stops, idles])), tTable.judgeLinks_idle (by rwa [tLink]) (by rwa [tLink]),
        State.judgedLinks_one, tLink, now]
      rw [(link ▸ table.sound i : l.Sound _).judge_rests stops idles]
      rfl
    · obtain ⟨selector, links, router, frame⟩ := t.judgeLinks_frame [i]
      have gained : e = true → (t.judgeLinks [i]).link i = { l with eligible := true }
          ∧ (t.judgeLinks [i]).selector.swap = s.selector.swap := by
        rintro rfl
        rw [State.judgeLinks_one_of_gain now, State.judgedLinks_one, State.setLink_link, if_pos rfl, tLink, now]
        exact ⟨(link ▸ table.sound i : l.Sound _).judge_gain engaged _, rfl⟩
      refine ⟨_, ok (.inr ⟨sameKind.symm, sameClass.symm⟩), ?_, ?_, ?_, gained, fun carries => ?_, fun ramps lost => ?_⟩
      · rw [frame]
      · rw [frame]
      · rw [State.judgeLinks_eligible (by simp), if_pos (by simp), now]
      · have carrier := (tTable.carries i).mp (by rw [tLink, carries])
        exact ((tTable.judgeLinks (by simp)).carries i).mpr carrier
      · rw [tTable.judgeLinks_candidate (by rw [tLink, ramps]) (now.trans lost)]
        have left : (t.setLink i { t.link i with eligible := false, state := .idle }).link i = _ :=
          (State.setLink_link i i _).trans (if_pos rfl)
        refine ⟨?_, (t.setLink i _).dropSwap_latched i, fun w flies same => ?_⟩
        · rw [State.dropSwap_link (by rw [left]; simp), left]
        · have waits := (State.dropSwap_swap flies).1
          rw [same, left] at waits
          cases waits

/-! ### The timers of a link -/

section Timers

variable {s : State} {i : Slot} {l : Link} {c : Option Slot}

/-- The link that a report has been too long in coming for (R92). -/
def Link.gone (l : Link) (faultQual : Nat) : Link := { l with
  smoothed := 0, healthy := false, stale := true, fresh := false, staleTimer := none
  state := if l.state = .qualifying ∨ l.state = .standby then .idle else l.state
  qualTimer := if l.state = .qualifying ∨ l.state = .standby then none else l.qualTimer
  faultTimer := if l.state = .carrying ∧ l.healthy = true then some (seconds faultQual) else l.faultTimer }

theorem State.staleLink_eq (s : State) (i : Slot) :
    s.staleLink i = (s.setLink i ((s.link i).gone s.params.faultQual)).raise .linkStale i.val := by
  unfold State.staleLink
  generalize s.link i = l
  obtain ⟨state, _, _, _, _, _, _, _, healthy, _, _, _, _, _, _, _⟩ := l
  cases state <;> cases healthy <;> simp [Link.gone, Link.enterIdle]

theorem Link.Sound.gone {loaded : Bool} (sound : l.Sound loaded) (faultQual : Nat) (notDown : l.state ≠ .down) :
    (l.gone faultQual).Sound loaded := by
  obtain ⟨_, _, _, _, _, _, _, _, _, _, _, _⟩ := sound
  cases state : l.state <;> cases health : l.healthy <;> constructor <;> simp_all [Link.gone]

/-- The enables of a port do not change while time passes. -/
theorem State.Latched.of_elapse {t : State} {n : Nat} {k : EventKind} (runs : s.mainRuns = true) (latched : (s.elapse n).Latched t k) :
    s.Latched t k := by
  intro p on
  refine latched p ?_
  rw [State.elapse_port runs]
  exact on

/-! ### What the other rules of a link keep -/

theorem State.Linked.staleLink (table : s.Linked c) (reports : (s.link i).state ≠ .down) : (s.staleLink i).Linked c := by
  rw [State.staleLink_eq]
  refine State.Linked.setLink table ((table.sound i).gone s.params.faultQual reports) ?_ ?_ <;>
    · simp only [Link.gone, ite_eq_iff]
      rcases (s.link i).state <;> simp

theorem State.Linked.qualifyLink (table : s.Linked c) : (s.qualifyLink i).Linked c := by
  unfold State.qualifyLink
  dsimp only
  have sound := table.sound i
  obtain ⟨_, _, _, _, _, _, _, _, _, _, _, _⟩ := sound
  split
  · next state => exact State.Linked.considerSwap (table.setLink (by constructor <;> simp_all) (by simp [state]) (by simp [state]))
  · exact table.setLink (by constructor <;> simp_all) Iff.rfl Iff.rfl

theorem State.Linked.faultTimerLink (table : s.Linked c) (expires : (s.link i).faultTimer.isSome = true) :
    (s.faultTimerLink i).Linked none := by
  have carries := ((table.sound i).fault.mp expires).1
  unfold State.faultTimerLink
  rw [if_pos carries, State.faultLink_eq]
  exact table.faultWith carries ((table.sound i).enterHoldoff _ _) rfl

theorem State.Linked.endHoldoff (table : s.Linked c) (expires : (s.link i).holdoffTimer.isSome = true) :
    (s.endHoldoff i).Linked c := by
  have held := (table.sound i).hold.mp expires
  obtain ⟨_, _, _, _, _, _, _, _, _, _, _, _⟩ := table.sound i
  unfold State.endHoldoff
  dsimp only
  rw [if_pos held]
  split
  · exact table.setLink (by constructor <;> simp_all [Link.enterDown]) (by simp [Link.enterDown, held]) (by simp [Link.enterDown, held])
  · exact table.setLink (by constructor <;> simp_all) (by simp [held]) (by simp [held])

/-- A slot outside RAMPING and CARRYING is unloaded (R85, R86). -/
theorem State.Linked.unloadLink (table : s.Linked c) (stops : (s.link i).state ≠ .ramping) (idles : (s.link i).state ≠ .carrying) :
    (s.unloadLink i).Linked c := by
  have moved : ({ s with linkConfig := s.linkConfig.set i LinkConfig.unloaded } : State).link i = s.link i := rfl
  have link (j : Slot) : (s.unloadLink i).link j = if j = i then (s.unloadLink i).link i else s.link j := by
    unfold State.unloadLink
    dsimp only
    rw [State.setLink_link, State.setLink_link, if_pos rfl]
    rfl
  have config (j : Slot) : ((s.unloadLink i).linkConfig.get j).loaded = if j = i then false else (s.linkConfig.get j).loaded := by
    change ((s.linkConfig.set i LinkConfig.unloaded).get j).loaded = _
    rw [Slots.get_set]
    split <;> rfl
  have own : ((s.unloadLink i).link i).Sound false ∧ ((s.unloadLink i).link i).state ≠ .ramping
      ∧ ((s.unloadLink i).link i).state ≠ .carrying := by
    obtain ⟨_, _, _, _, _, _, _, _, _, _, _, _⟩ := table.sound i
    unfold State.unloadLink
    dsimp only
    rw [State.setLink_link, if_pos rfl]
    cases state : (s.link i).state <;> refine ⟨?_, ?_, ?_⟩ <;> (try constructor) <;> simp_all [Link.enterDown]
  refine ⟨fun j => ?_, fun j => ?_, fun j => ?_, table.old⟩
  · rw [link, config]
    split
    · exact own.1
    · exact table.sound j
  · rw [link]
    split
    · next here =>
      subst here
      exact ⟨fun ramps => absurd ramps own.2.1, fun flies => absurd ((table.ramps j).mpr flies) stops⟩
    · exact table.ramps j
  · rw [link]
    split
    · next here =>
      subst here
      exact ⟨fun carries => absurd carries own.2.2, fun flies => absurd ((table.carries j).mpr flies) idles⟩
    · exact table.carries j

theorem State.unloadLink_judged (judged : s.Judged) : (s.unloadLink i).Judged := by
  intro j
  change ((s.unloadLink i).link j).eligible = eligibleFor ((s.linkConfig.set i LinkConfig.unloaded).get j) _ _
  unfold State.unloadLink
  dsimp only
  rw [State.setLink_link, Slots.get_set]
  split
  · rfl
  · exact judged j

/-- The eligible flags stay as they are judged by these rules. -/
theorem State.setLink_eligible {l : Link} (same : l.eligible = (s.link i).eligible) (j : Slot) :
    ((s.setLink i l).link j).eligible = (s.link j).eligible := by
  rw [State.setLink_link]
  split
  · next here => rw [here, same]
  · rfl

theorem State.staleLink_eligible (j : Slot) : ((s.staleLink i).link j).eligible = (s.link j).eligible := by
  rw [State.staleLink_eq]
  exact State.setLink_eligible (l := (s.link i).gone s.params.faultQual) rfl j

theorem State.qualifyLink_eligible (j : Slot) : ((s.qualifyLink i).link j).eligible = (s.link j).eligible := by
  unfold State.qualifyLink
  dsimp only
  split
  · rw [State.considerSwap_link_eligible]
    exact State.setLink_eligible (l := { s.link i with state := .standby, qualTimer := none }) rfl j
  · exact State.setLink_eligible (l := { s.link i with qualTimer := none }) rfl j

theorem State.faultTimerLink_eligible (j : Slot) : ((s.faultTimerLink i).link j).eligible = (s.link j).eligible := by
  unfold State.faultTimerLink
  split
  · rw [State.faultLink_eq]
    by_cases here : j = i
    · rw [here, (s.faultWith_spec rfl).1]
      rfl
    · exact (s.faultWith_spec rfl).2.1 j here
  · exact State.setLink_eligible (l := { s.link i with faultTimer := none }) rfl j

theorem State.endHoldoff_eligible (j : Slot) : ((s.endHoldoff i).link j).eligible = (s.link j).eligible := by
  unfold State.endHoldoff
  dsimp only
  split
  · split <;> exact State.setLink_eligible (by rfl) j
  · exact State.setLink_eligible (by rfl) j

theorem State.staleLink_tells : s.Tells (s.staleLink i) := by
  rw [State.staleLink_eq]
  exact .raise (t := s.setLink _ _) (.of_eq rfl) _ _

theorem State.qualifyLink_tells : s.Tells (s.qualifyLink i) := by
  unfold State.qualifyLink
  dsimp only
  split
  · exact (State.Tells.of_eq (t := s.setLink _ _) rfl).trans (State.considerSwap_tells _)
  · exact .of_eq rfl

theorem State.faultTimerLink_tells : s.Tells (s.faultTimerLink i) := by
  unfold State.faultTimerLink
  split
  · rw [State.faultLink_eq]
    exact s.faultWith_tells i _
  · exact .of_eq rfl

theorem State.endHoldoff_tells : s.Tells (s.endHoldoff i) := by
  unfold State.endHoldoff
  dsimp only
  split
  · split <;> exact .of_eq rfl
  · exact .of_eq rfl

/-- Settles O31: each timer of a link changes that link alone, and the selector is told of an entry into STANDBY and of a fault. -/
theorem linkTimersAct : Obligations.LinkTimersAct := by
  intro s u i r l runs passed link
  have params : u.params = s.params := by rw [passed, State.elapse_params]
  have config : u.linkConfig = s.linkConfig := by rw [passed, State.elapse_linkConfig]
  refine ⟨fun stale => ?_, fun qualifies state => ?_, fun faults state => ?_, fun holds state => ⟨fun down => ?_, fun here loaded => ?_⟩⟩
  · refine congrArg _ ((State.onExpiry_runs runs stale _).trans ?_)
    rw [← passed, State.staleLink_eq, link, params]
    rfl
  · refine congrArg _ ((State.onExpiry_runs runs qualifies _).trans ?_)
    rw [← passed, State.qualifyLink, link, if_pos state]
  · have same : u.faultLink i false = u.faultWith i (l.enterHoldoff s.params.holdoff false) := by
      rw [State.faultLink_eq, link, params]
    have ends : exec (.faultTimerExpires i) s = .next (u.faultWith i (l.enterHoldoff s.params.holdoff false)) := by
      refine congrArg _ ((State.onExpiry_runs runs faults _).trans ?_)
      rw [← passed, State.faultTimerLink, link, if_pos state, same]
    obtain ⟨held, -, gone, fault, dark⟩ := u.faultWith_spec (i := i) (l := l.enterHoldoff s.params.holdoff false) rfl
    obtain ⟨selector, links, router, frame⟩ := u.faultLink_frame i false
    refine ⟨_, ends, held, .of_elapse (n := r) runs (by rw [← passed]; exact fault),
      .of_elapse (n := r) runs (by rw [← passed]; exact dark), gone, ?_⟩
    rw [← same, frame]
  · refine congrArg _ ((State.onExpiry_runs runs holds _).trans ?_)
    rw [← passed, State.endHoldoff]
    dsimp only
    rw [link, if_pos state, if_pos (by simpa [config] using down)]
    rfl
  · refine congrArg _ ((State.onExpiry_runs runs holds _).trans ?_)
    rw [← passed, State.endHoldoff]
    dsimp only
    rw [link, if_pos state, if_neg (by simp [config, here, loaded])]

end Timers

end Sys2Proof.Machine

/-! PROOF. The commands that name a session by handle (1.5, 1.7, 1.9), and the lapse sweep. -/

namespace Sys2Proof.Machine

/-! ### A command on a served session (R3) -/

section Served

variable {s : State} {handle : Half} {rule : Nat → State × Reply}

theorem State.onServed_of_le (past : Config.sessionCount ≤ handle.toNat) : s.onServed handle rule = (s, Reply.bare .badParam) := by
  rw [State.onServed, handleOf_of_le past]

theorem State.onServed_of_free (inside : handle.toNat < Config.sessionCount) (free : (s.session handle.toNat).state = .free) :
    s.onServed handle rule = (s, Reply.bare .notFound) := by
  rw [State.onServed, handleOf_of_lt inside]
  dsimp only
  rw [free]

theorem State.onServed_of_closing (inside : handle.toNat < Config.sessionCount) (closing : (s.session handle.toNat).state = .closing) :
    s.onServed handle rule = (s, Reply.bare .closing) := by
  rw [State.onServed, handleOf_of_lt inside]
  dsimp only
  rw [closing]

theorem State.onServed_of_served (inside : handle.toNat < Config.sessionCount) (served : (s.session handle.toNat).served = true) :
    s.onServed handle rule = rule handle.toNat := by
  rw [State.onServed, handleOf_of_lt inside]
  dsimp only
  obtain state | state | state := Session.served_iff.mp served <;> rw [state]

end Served

/-- A command that is a rule over the served session its handle names. -/
def Serves (i : Instr) (p : Port) (handle : Half) (rule : State → Nat → State × Reply) : Prop :=
  ∀ s, exec i s = .next (s.command p [p] fun s => s.onServed handle (rule s))

section Serves

variable {i : Instr} {p : Port} {handle : Half} {rule : State → Nat → State × Reply} {s : State}

theorem Serves.exec (serves : Serves i p handle rule) (running : s.power.supervisor = .running)
    (inside : handle.toNat < Config.sessionCount) (served : (s.session handle.toNat).served = true) :
    Machine.exec i s = .next ((rule s handle.toNat).1.withFrame p
      (.answered (rule s handle.toNat).2.status (rule s handle.toNat).2.response)) := by
  rw [serves s, State.command_eq running (by simp), State.onServed_of_served inside served]

theorem Serves.refuses (serves : Serves i p handle rule) (running : s.power.supervisor = .running) :
    (Config.sessionCount ≤ handle.toNat → Machine.exec i s = .next (s.withFrame p (.answered .badParam [])))
      ∧ (handle.toNat < Config.sessionCount → (s.session handle.toNat).state = .free →
          Machine.exec i s = .next (s.withFrame p (.answered .notFound [])))
      ∧ (handle.toNat < Config.sessionCount → (s.session handle.toNat).state = .closing →
          Machine.exec i s = .next (s.withFrame p (.answered .closing []))) := by
  refine ⟨fun past => ?_, fun inside free => ?_, fun inside closing => ?_⟩ <;> rw [serves s, State.command_eq running (by simp)]
  · rw [State.onServed_of_le past]
    rfl
  · rw [State.onServed_of_free inside free]
    rfl
  · rw [State.onServed_of_closing inside closing]
    rfl

end Serves

section Commands

variable (handle data voice : Half) (messages mask : Byte)

theorem serves_keepalive : Serves (Instr.keepalive .cell handle) .cell handle fun s h => (s.refresh h, Reply.bare .ok) := fun _ => rfl

theorem serves_usage : Serves (Instr.usage .cell handle data voice messages) .cell handle fun s h =>
    let r := s.reportUsage h data voice messages
    let x := r.1.state.session h
    (r.1.state, ⟨r.2, beBytes 4 r.1.charge ++ beBytes 4 r.1.taken ++ beBytes 4 r.1.shortfall ++ beBytes 2 x.dataResidue
      ++ beBytes 1 x.voiceResidue ++ beBytes 1 x.state.code ++ [x.reasons.byte]⟩) := fun _ => rfl

theorem serves_release : Serves (Instr.release .cell handle data voice messages) .cell handle fun s h =>
    let r := s.reportUsage h data voice messages
    let t := ((r.1.state.roundData h).roundVoice h).closeServed h .released
    (t, ⟨r.2, t.leftBytes h⟩) := fun _ => rfl

theorem serves_closeSession : Serves (Instr.closeSession .purser handle) .purser handle fun s h =>
    (s.closeServed h .purser, ⟨.ok, (s.closeServed h .purser).leftBytes h⟩) := fun _ => rfl

variable {mask}

theorem serves_setSessionFlags (small : mask.toNat < 16) : Serves (Instr.setSessionFlags .purser handle mask) .purser handle fun s h =>
    (s.setFlags h (Flags.ofMask mask), ⟨.ok, [((s.setFlags h (Flags.ofMask mask)).session h).flags.byte]⟩) := by
  intro s
  change execSetSessionFlags .purser handle mask s = _
  simp only [execSetSessionFlags, State.onFlags, if_pos small]

theorem serves_clearSessionFlags (small : mask.toNat < 16) : Serves (Instr.clearSessionFlags .purser handle mask) .purser handle fun s h =>
    (s.clearFlags h (Flags.ofMask mask), ⟨.ok, [((s.clearFlags h (Flags.ofMask mask)).session h).flags.byte]⟩) := by
  intro s
  change execClearSessionFlags .purser handle mask s = _
  simp only [execClearSessionFlags, State.onFlags, if_pos small]

end Commands

/-- Settles O11. -/
theorem sessionCommandsRefuse : Obligations.SessionCommandsRefuse := by
  intro s handle data voice messages mask i p running
  refine ⟨fun big => ⟨?_, ?_⟩, fun small listed => ?_⟩
  · change execSetSessionFlags .purser handle mask s = _
    rw [execSetSessionFlags, State.command_eq running (by simp), State.onFlags, if_neg (by omega)]
    rfl
  · change execClearSessionFlags .purser handle mask s = _
    rw [execClearSessionFlags, State.command_eq running (by simp), State.onFlags, if_neg (by omega)]
    rfl
  · simp only [List.mem_cons, Prod.mk.injEq, List.not_mem_nil, or_false] at listed
    obtain ⟨rfl, rfl⟩ | ⟨rfl, rfl⟩ | ⟨rfl, rfl⟩ | ⟨rfl, rfl⟩ | ⟨rfl, rfl⟩ | ⟨rfl, rfl⟩ := listed
    · exact (serves_keepalive handle).refuses running
    · exact (serves_release handle data voice messages).refuses running
    · exact (serves_usage handle data voice messages).refuses running
    · exact (serves_closeSession handle).refuses running
    · exact (serves_setSessionFlags handle small).refuses running
    · exact (serves_clearSessionFlags handle small).refuses running

/-! ### The flag commands (R22, R23) -/

theorem eraseKey_insertKey {α : Type} (k : Nat) (v : α) (l : List (Nat × α)) : eraseKey k (insertKey k v l) = eraseKey k l := by
  induction l with
  | nil => simp [insertKey, eraseKey]
  | cons e rest ih =>
    obtain ⟨j, w⟩ := e
    unfold insertKey
    split
    · simp [eraseKey]
    · split
      · next same => simp [eraseKey, same]
      · simp only [eraseKey, List.filter_cons] at ih ⊢
        rw [ih]

/-- Of two writes to one record the second stands. -/
theorem Table.set_set {α : Type} [DecidableEq α] (t : Table α) (cold : α) (k : Nat) (v w : α) :
    (t.set cold k v).set cold k w = t.set cold k w := by
  have erased : eraseKey k (t.set cold k v).entries = eraseKey k t.entries := by
    unfold Table.set
    split
    · simp [eraseKey]
    · change eraseKey k (insertKey k v (eraseKey k t.entries)) = _
      rw [eraseKey_insertKey]
      simp [eraseKey]
  rw [Table.set, erased]
  rfl

theorem State.setSession_setSession (s : State) (h : Nat) (x y : Session) : (s.setSession h x).setSession h y = s.setSession h y := by
  simp [State.setSession, Table.set_set]

section Flags

variable {s : State} {h : Nat} {x : Session} {m : Flags}

/-- The flags of the mask join the set; HOLD newly set brings its reason (R22, R4). -/
theorem State.setFlags_eq (own : s.session h = x) : s.setFlags h m =
    if m.hold = true ∧ x.flags.hold = false then
      (s.setSession h { x with flags := x.flags.union m }).changeReasons Reasons.onlyHold Reasons.none h
    else s.setSession h { x with flags := x.flags.union m } := by
  rw [State.setFlags, own]
  simp

theorem State.clearFlags_eq (own : s.session h = x) : s.clearFlags h m =
    if m.hold = true ∧ x.flags.hold = true then
      (s.setSession h { x with flags := x.flags.without m }).changeReasons Reasons.none Reasons.onlyHold h
    else s.setSession h { x with flags := x.flags.without m } := by
  rw [State.clearFlags, own]
  simp

theorem Reasons.change_addHold (r : Reasons) : r.change Reasons.onlyHold Reasons.none = { r with hold := true } := by
  simp [Reasons.change, Reasons.onlyHold, Reasons.none]

theorem Reasons.change_removeHold (r : Reasons) : r.change Reasons.none Reasons.onlyHold = { r with hold := false } := by
  simp [Reasons.change, Reasons.onlyHold, Reasons.none]

/-- HOLD joins the reasons of a session with the other flags it was given: E14 where it suspends it. -/
theorem State.holds_eq (y : Session) (served : y.served = true) :
    (s.setSession h y).changeReasons Reasons.onlyHold Reasons.none h =
      if y.state = .active then
        (s.setSession h { y with reasons := { y.reasons with hold := true }, state := .suspended }).raise .sessionSuspended h
      else s.setSession h { y with reasons := { y.reasons with hold := true } } := by
  have full : Reasons.isEmpty { y.reasons with hold := true } = false := by simp [Reasons.isEmpty]
  rw [State.changeReasons, State.setSession_session_same]
  simp only [Reasons.change_addHold, full, State.setSession_setSession]
  obtain state | state | state := Session.served_iff.mp served <;> simp [state]

/-- HOLD leaves them: E15 where that resumes the session. -/
theorem State.unholds_eq (y : Session) (served : y.served = true) (settled : y.state = .active → y.reasons = Reasons.none) :
    (s.setSession h y).changeReasons Reasons.none Reasons.onlyHold h =
      if y.state = .suspended ∧ { y.reasons with hold := false } = Reasons.none then
        (s.setSession h { y with reasons := Reasons.none, state := .active }).raise .sessionResumed h
      else s.setSession h { y with reasons := { y.reasons with hold := false } } := by
  have emptied : Reasons.isEmpty { y.reasons with hold := false } = true ↔ { y.reasons with hold := false } = Reasons.none :=
    Reasons.isEmpty_iff
  rw [State.changeReasons, State.setSession_session_same]
  simp only [Reasons.change_removeHold, State.setSession_setSession]
  by_cases none_left : { y.reasons with hold := false } = Reasons.none
  · rw [emptied.mpr none_left, none_left]
    obtain state | state | state := Session.served_iff.mp served <;> simp [state]
  · have some_left : Reasons.isEmpty { y.reasons with hold := false } = false := by
      rw [Bool.eq_false_iff]
      exact fun none_left' => none_left (emptied.mp none_left')
    rw [some_left]
    obtain state | state | state := Session.served_iff.mp served
    · rw [settled state] at none_left
      exact absurd rfl none_left
    · simp [state, none_left]
    · simp [state]

end Flags

/-- Settles O14. -/
theorem sessionFlagsMoveHold : Obligations.SessionFlagsMoveHold := by
  intro s handle mask h x running small named inside own served settled
  subst named
  have set := (serves_setSessionFlags handle small).exec running inside (by rw [own, served])
  have clear := (serves_clearSessionFlags handle small).exec running inside (by rw [own, served])
  rw [State.setFlags_eq own] at set
  rw [State.clearFlags_eq own] at clear
  refine ⟨fun kept => ?_, fun hold unheld => ⟨fun state => ?_, fun state => ?_⟩, fun kept => ?_, fun hold held => ⟨fun state left => ?_, fun kept => ?_⟩⟩
  · rw [set, if_neg (by obtain no | no := kept <;> simp [no]), State.setSession_session_same]
  · rw [set, if_pos ⟨hold, unheld⟩, State.holds_eq _ (by exact served), if_pos (by exact state)]
    dsimp only
    rw [State.raise_session, State.setSession_session_same]
  · rw [set, if_pos ⟨hold, unheld⟩, State.holds_eq _ (by exact served), if_neg (by exact state), State.setSession_session_same]
  · rw [clear, if_neg (by obtain no | no := kept <;> simp [no]), State.setSession_session_same]
  · rw [clear, if_pos ⟨hold, held⟩, State.unholds_eq _ (by exact served) (by exact settled), if_pos (by exact ⟨state, left⟩)]
    dsimp only
    rw [State.raise_session, State.setSession_session_same]
  · rw [clear, if_pos ⟨hold, held⟩, State.unholds_eq _ (by exact served) (by exact settled),
      if_neg (by obtain no | no := kept <;> simp [no]), State.setSession_session_same]

/-- Settles O15. -/
theorem lapseCountKeptAndSwept : Obligations.LapseCountKeptAndSwept := by
  refine ⟨fun s handle running inside served => (serves_keepalive handle).exec running inside served,
    fun s r h l u runs due visited period next => ?_⟩
  have visits : exec .lapseSweepVisit s = .next (u.visit h) := by
    refine congrArg _ ((State.onExpiry_runs runs due _).trans ?_)
    have pace : seconds l / (4 * Config.sessionCount) = 8 * l := by
      simp only [seconds, Config.periodsPerSecond, Config.sessionCount]
      omega
    have swept : (s.elapse r).sweep.advance (s.elapse r).params.lapsePeriod = ⟨(h + 1) % 1024, l, some (8 * l)⟩ := by
      rw [State.elapse_sweep runs, State.elapse_params, ← pace, period, ← visited]
      rfl
    have position : (s.elapse r).sweep.position = h := by rw [State.elapse_sweep runs, ← visited]
    rw [swept, position, next]
  have own : u.session h = s.session h := by rw [next]; simp [State.session]
  rw [visits, State.visit, own]
  refine ⟨fun unserved => ?_, fun served below => ?_, fun served full => ?_⟩
  · simp [unserved]
  · simp [served, below]
  · simp [served, Nat.not_lt.mpr full]

end Sys2Proof.Machine

/-! SUPPORT. The laws of the session table, its agreements and its accounts (1, 2), said record by record: what an operation on the
records has to show of the records it writes. -/

namespace Sys2Proof.Machine

/-! ### One record -/

/-- A session record as the table may hold it. -/
def Session.Ok (x : Session) : Prop := x = Session.free ∨ x.Lawful

/-- An agreement record as the table may hold it (R28). -/
structure Agreement.Ok (g : Agreement) : Prop where
  account : g.account < Config.accountCount
  plan : g.plan ≤ 7
  code : g.state ≠ .empty → codeValid g.codeLength g.code = true

/-- An account record as the table may hold it (R36). -/
structure Account.Ok (c : Account) : Prop where
  value : c.value ≤ Config.maxValue
  threshold : c.threshold ≤ Config.maxValue
  plan : c.plan ≤ 7
  other : c.kind ≠ .prepaid → c.threshold = 0 ∧ c.plan = 0
  closed : c.kind = .closed → c.value = 0

theorem Agreement.emptied_ok : Agreement.emptied.Ok := ⟨by decide, by decide, by decide⟩
theorem Account.closed_ok : Account.closed.Ok := ⟨by decide, by decide, by decide, fun _ => ⟨rfl, rfl⟩, fun _ => rfl⟩

/-- `y` may take the place of `x` in the table: the same party, and no other place in the owed-record list. -/
structure Session.Follows (x y : Session) : Prop where
  identity : y.identity = x.identity
  agreement : y.agreement = x.agreement
  account : y.account = x.account
  free : y.state = .free ↔ x.state = .free
  closing : y.state = .closing ↔ x.state = .closing
  ok : x.Ok → y.Ok

section Record

variable {x y z : Session}

theorem Session.Follows.refl (x : Session) : x.Follows x := ⟨rfl, rfl, rfl, Iff.rfl, Iff.rfl, id⟩

theorem Session.Follows.trans (first : x.Follows y) (second : y.Follows z) : x.Follows z :=
  ⟨second.identity.trans first.identity, second.agreement.trans first.agreement, second.account.trans first.account,
    second.free.trans first.free, second.closing.trans first.closing, second.ok ∘ first.ok⟩

theorem Session.Ok.lawful (ok : x.Ok) (notFree : x.state ≠ .free) : x.Lawful := by
  obtain rfl | lawful := ok
  · exact absurd rfl notFree
  · exact lawful

theorem Session.Ok.eq_free (ok : x.Ok) (free : x.state = .free) : x = Session.free := by
  obtain same | ⟨notFree, -⟩ := ok
  · exact same
  · exact absurd free notFree

theorem Session.Follows.notFree (follows : x.Follows y) : y.notFree = x.notFree := by
  rw [Bool.eq_iff_iff, Session.notFree_iff, Session.notFree_iff, ne_eq, follows.free]

theorem Session.Follows.served (follows : x.Follows y) : y.served = x.served := by
  rw [← Bool.not_inj_iff, Bool.eq_iff_iff]
  simp [Session.served_eq_false_iff, follows.free, follows.closing]

end Record

/-! ### The table (1, 2) -/

/-- The session table, the agreements and the accounts in order: the laws of their forms, sessions, counts and parties. -/
structure State.Books (s : State) : Prop where
  sessions : s.sessions.wf Session.free Config.sessionCount = true
  agreements : s.agreements.wf Agreement.emptied Config.agreementCount = true
  accounts : s.accounts.wf Account.closed Config.accountCount = true
  ok : ∀ h, (s.session h).Ok
  named : ∀ h, (s.session h).account < Config.accountCount ∧ ∀ i ∈ (s.session h).agreement, i < Config.agreementCount
  agreementOk : ∀ i, (s.agreement i).Ok
  accountOk : ∀ a, (s.account a).Ok
  identity : ∀ h k, (s.session h).state ≠ .free → (s.session k).state ≠ .free → (s.session h).identity = (s.session k).identity → h = k
  owedOnce : s.owed.Nodup
  owes : ∀ h, h ∈ s.owed ↔ (s.session h).state = .closing
  agreementCount : ∀ i < Config.agreementCount,
    (s.agreement i).count = (List.range Config.sessionCount).countP fun h => (s.session h).agreement == some i
  accountCount : ∀ a < Config.accountCount,
    (s.account a).count = (List.range Config.sessionCount).countP fun h => (s.session h).notFree && (s.session h).account == a
  settles : ∀ i, (s.agreement i).state ≠ .empty → (s.account (s.agreement i).account).kind = .settlement
  codes : ∀ i j, (s.agreement i).state ≠ .empty → (s.agreement j).state ≠ .empty →
    (s.agreement i).codeLength = (s.agreement j).codeLength → (s.agreement i).code = (s.agreement j).code → i = j
  roams : ∀ h, ∀ i ∈ (s.session h).agreement, (s.agreement i).state ≠ .empty ∧ (s.agreement i).account = (s.session h).account
  pays : ∀ h, (s.session h).state ≠ .free → (s.session h).agreement = none → (s.account (s.session h).account).kind = .prepaid

/-- The rest of what the purser loads: zones, tariff figures and link configuration (R47, R48, R84, R142 to R145). -/
structure State.Figures (s : State) : Prop where
  zones : s.zones.wf ZoneRecord.unloaded Config.zoneCount = true
  rows : s.tariff.rows.wf PriceRow.cold 64 = true
  row : ∀ e ∈ s.tariff.rows.entries, e.2.dataPrice ≤ 65535 ∧ 1 ≤ e.2.dataIncrement ∧ e.2.dataIncrement ≤ 1024
    ∧ e.2.voicePrice ≤ 65535 ∧ 1 ≤ e.2.voiceIncrement ∧ e.2.voiceIncrement ≤ 60 ∧ e.2.messagePrice ≤ 65535
  surcharge : ∀ c ∈ [0, 1, 2, 3], s.tariff.surcharges.get c ≤ 400
  discount : ∀ p ∈ [0, 1, 2, 3, 4, 5, 6, 7], s.tariff.discounts.get p ≤ 100
  zone : ∀ e ∈ s.zones.entries, e.2.loaded = true ∧ e.2.grace ≤ Config.maxGrace ∧ e.2.tariffClass ≤ 7
  link : ∀ i : Slot, (s.linkConfig.get i = LinkConfig.unloaded ∨ (s.linkConfig.get i).loaded = true
    ∧ 1 ≤ (s.linkConfig.get i).rank ∧ (s.linkConfig.get i).rank ≤ 15) ∧ (s.linkConfig.get i).costClass ≤ 3

/-- The laws of the tables, their figures, the sessions, the counts and the parties, record by record. -/
theorem State.books_iff {s : State} : s.TablesLaw ∧ s.LoadedLaw ∧ s.SessionLaw ∧ s.CountLaw ∧ s.PartyLaw ↔ s.Books ∧ s.Figures := by
  constructor
  · rintro ⟨⟨sessions, agreements, accounts, zones, rows, named, settlers⟩, ⟨row, surcharge, discount, zone, link, agreementOk, accountOk⟩,
      ⟨lawful, identity, once, owed, closing⟩, ⟨agreementCount, accountCount⟩, settles, codes, parties⟩
    rw [Table.forall_entries sessions] at named lawful closing parties
    rw [Table.forall_entries agreements] at settlers agreementOk settles
    rw [Table.forall_entries accounts] at accountOk
    rw [Table.nodup_map_iff sessions (fun x => x.identity)] at identity
    rw [Table.nodup_map_filter_iff agreements (fun e => e.2.state != .empty) (fun e => (e.2.codeLength, e.2.code))] at codes
    have free_or := fun h => (em (s.session h = Session.free)).imp_right fun warm => lawful h warm
    have listed : ∀ {h}, (s.session h).state ≠ .free → s.session h ≠ Session.free := fun notFree free => notFree (by rw [free]; rfl)
    have empty : ∀ {i}, (s.agreement i).state ≠ .empty → s.agreement i ≠ Agreement.emptied := fun loaded cold => loaded (by rw [cold]; rfl)
    have isOk := fun i => (em (s.agreement i = Agreement.emptied)).elim (fun cold => cold ▸ Agreement.emptied_ok)
      fun warm => (⟨settlers i warm, (agreementOk i warm).1, (agreementOk i warm).2⟩ : (s.agreement i).Ok)
    refine ⟨⟨sessions, agreements, accounts, free_or, fun h => ?_, isOk, fun a => ?_,
      fun h k hFree kFree same => identity h k (listed hFree) (listed kFree) same, once, fun h => ⟨owed h, fun state => ?_⟩,
      fun i inside => ?_, fun a inside => ?_, fun i loaded => settles i (empty loaded) loaded, fun i j iLoaded jLoaded length code => ?_,
      fun h i under => ?_, fun h notFree => (parties h (listed notFree)).2⟩, ⟨zones, rows, row, surcharge, discount, zone, link⟩⟩
    · obtain free | warm := free_or h
      · rw [free]
        exact ⟨by decide, by simp [Session.free]⟩
      · exact named h (listed warm.1)
    · obtain cold | warm := em (s.account a = Account.closed)
      · rw [cold]
        exact Account.closed_ok
      · obtain ⟨value, threshold, plan, other, closed⟩ := accountOk a warm
        exact ⟨value, threshold, plan, other, closed⟩
    · exact closing h (listed (by rw [state]; simp)) state
    · rw [agreementCount i inside, Table.count_eq sessions rfl]
      rfl
    · rw [accountCount a inside, Table.count_eq sessions rfl]
      rfl
    · exact codes i j (empty iLoaded) (empty jLoaded) (bne_iff_ne.mpr iLoaded) (bne_iff_ne.mpr jLoaded) (Prod.ext length code)
    · obtain free | warm := free_or h
      · rw [free] at under
        cases under
      · exact (parties h (listed warm.1)).1 i under
  · rintro ⟨books, figures⟩
    have sessions := books.sessions
    have agreements := books.agreements
    have warm : ∀ {h}, s.session h ≠ Session.free → (s.session h).state ≠ .free := fun listed free =>
      listed ((books.ok _).eq_free free)
    refine ⟨⟨sessions, agreements, books.accounts, figures.zones, figures.rows, ?_, ?_⟩,
      ⟨figures.row, figures.surcharge, figures.discount, figures.zone, figures.link, ?_, ?_⟩,
      ⟨?_, ?_, books.owedOnce, fun h => (books.owes h).mp, ?_⟩, ⟨fun i inside => ?_, fun a inside => ?_⟩, ?_, ?_, ?_⟩
    · exact (Table.forall_entries sessions).mpr fun h _ => books.named h
    · exact (Table.forall_entries agreements).mpr fun i _ => (books.agreementOk i).account
    · exact (Table.forall_entries agreements).mpr fun i _ => ⟨(books.agreementOk i).plan, (books.agreementOk i).code⟩
    · refine (Table.forall_entries books.accounts).mpr fun a _ => ?_
      obtain ⟨value, threshold, plan, other, closed⟩ := books.accountOk a
      exact ⟨value, threshold, plan, other, closed⟩
    · exact (Table.forall_entries sessions).mpr fun h listed => (books.ok h).lawful (warm listed)
    · exact (Table.nodup_map_iff sessions (fun x => x.identity)).mpr fun h k hListed kListed same =>
        books.identity h k (warm hListed) (warm kListed) same
    · exact (Table.forall_entries sessions).mpr fun h _ state => (books.owes h).mpr state
    · rw [books.agreementCount i inside, Table.count_eq sessions rfl]
      rfl
    · rw [books.accountCount a inside, Table.count_eq sessions rfl]
      rfl
    · exact (Table.forall_entries agreements).mpr fun i _ => books.settles i
    · refine (Table.nodup_map_filter_iff agreements (fun e => e.2.state != .empty) (fun e => (e.2.codeLength, e.2.code))).mpr
        fun i j _ _ iLoaded jLoaded same => ?_
      rw [Prod.mk.injEq] at same
      exact books.codes i j (bne_iff_ne.mp iLoaded) (bne_iff_ne.mp jLoaded) same.1 same.2
    · exact (Table.forall_entries sessions).mpr fun h listed => ⟨books.roams h, books.pays h (warm listed)⟩

end Sys2Proof.Machine

/-! SUPPORT. Records written, counted and closed (1.6, 2.1, 2.5, 9.3): what each operation makes of the session table, the counts, the
queue and the owed-record list, and that it keeps them in order. -/

namespace Sys2Proof.Machine

/-! ### The queue (R166, R170, R171) -/

/-- The occurrences of an append: E19 on an empty queue, E20 when the occupancy reaches 511. -/
def Queue.appendTold (q : Queue) : List (EventKind × Nat) :=
  (if q.records.length = 0 then [(.recordReady, 0)] else [])
    ++ if q.records.length + 1 = Config.ordinaryLimit then [(.queueFull, 0)] else []

theorem State.appendRecord_eq (s : State) (r : ChargeRecord) : s.appendRecord r = { s with
    queue := ⟨s.queue.records ++ [r], max s.queue.mark (s.queue.records.length + 1)⟩
    router := s.router.occurs s.queue.appendTold } := by
  unfold State.appendRecord Queue.appendTold
  dsimp only
  split <;> split <;> simp [State.raise, Router.occur_eq_occurs, ← Router.occurs_append]

section Append

variable {s t : State}

@[simp] theorem State.appendRecord_records (s : State) (r : ChargeRecord) : (s.appendRecord r).queue.records = s.queue.records ++ [r] := by
  rw [State.appendRecord_eq]
@[simp] theorem State.appendRecord_mark (s : State) (r : ChargeRecord) :
    (s.appendRecord r).queue.mark = max s.queue.mark (s.queue.records.length + 1) := by rw [State.appendRecord_eq]
@[simp] theorem State.appendRecord_session (s : State) (r : ChargeRecord) (h : Nat) : (s.appendRecord r).session h = s.session h := by
  rw [State.appendRecord_eq] <;> rfl
@[simp] theorem State.appendRecord_account (s : State) (r : ChargeRecord) (a : Nat) : (s.appendRecord r).account a = s.account a := by
  rw [State.appendRecord_eq] <;> rfl
@[simp] theorem State.appendRecord_agreement (s : State) (r : ChargeRecord) (i : Nat) : (s.appendRecord r).agreement i = s.agreement i := by
  rw [State.appendRecord_eq] <;> rfl

theorem State.queueHasRoom_iff : s.queueHasRoom = true ↔ s.queue.records.length < Config.ordinaryLimit := by
  simp [State.queueHasRoom]

/-- An append where an ordinary record has room keeps the queue's bounds. -/
theorem State.QueueLaw.append (law : s.QueueLaw) (room : s.queue.records.length < Config.ordinaryLimit) (r : ChargeRecord)
    (owed : t.owed = s.owed) (queue : t.queue = (s.appendRecord r).queue) : t.QueueLaw := by
  obtain ⟨mark, most, _, owes⟩ := law
  have limit : Config.ordinaryLimit = 511 := rfl
  have nobody : s.owed = [] := by
    by_contra owing
    exact absurd (owes owing) (by omega)
  unfold State.QueueLaw
  rw [queue, owed, nobody, State.appendRecord_records, State.appendRecord_mark, List.length_append, List.length_singleton]
  refine ⟨?_, ?_, ?_, ?_⟩
  · omega
  · omega
  · omega
  · simp

end Append

/-! ### The counts (R28, R37) -/

section Counts

variable {s : State} {x : Session} {f : Nat → Nat}

@[simp] theorem State.account_setAgreement (s : State) (i : Nat) (g : Agreement) (a : Nat) :
    (s.setAgreement i g).account a = s.account a := rfl
@[simp] theorem State.agreement_setAccount (s : State) (a : Nat) (c : Account) (i : Nat) :
    (s.setAccount a c).agreement i = s.agreement i := rfl

theorem State.countSession_account (s : State) (x : Session) (f : Nat → Nat) (a : Nat) :
    (s.countSession x f).account a = if a = x.account then { s.account a with count := f (s.account a).count } else s.account a := by
  unfold State.countSession
  dsimp only
  split <;>
    · simp only [State.account_setAgreement, State.setAccount_account]
      split
      · next here => rw [here]
      · rfl

theorem State.countSession_agreement (s : State) (x : Session) (f : Nat → Nat) (i : Nat) :
    (s.countSession x f).agreement i =
      if x.agreement = some i then { s.agreement i with count := f (s.agreement i).count } else s.agreement i := by
  unfold State.countSession
  dsimp only
  split
  · next j under =>
    simp only [State.setAgreement_agreement, State.agreement_setAccount, under, Option.some.injEq]
    by_cases here : i = j
    · simp [here]
    · simp [here, Ne.symm here]
  · next no => simp [no]

theorem State.countSession_wf (accounts : s.accounts.wf Account.closed Config.accountCount = true)
    (agreements : s.agreements.wf Agreement.emptied Config.agreementCount = true)
    (named : x.account < Config.accountCount ∧ ∀ i ∈ x.agreement, i < Config.agreementCount) :
    (s.countSession x f).accounts.wf Account.closed Config.accountCount = true
      ∧ (s.countSession x f).agreements.wf Agreement.emptied Config.agreementCount = true := by
  unfold State.countSession
  dsimp only
  split
  · next i under => exact ⟨Table.wf_set accounts named.1 _, Table.wf_set agreements (named.2 i under) _⟩
  · exact ⟨Table.wf_set accounts named.1 _, agreements⟩

theorem State.becomeFree_session (s : State) (h k : Nat) : (s.becomeFree h).session k = if k = h then Session.free else s.session k := by
  obtain ⟨g, a, framed⟩ := State.countSession_frame s (s.session h) fun n => n - 1
  rw [State.becomeFree, State.setSession_session, framed]
  rfl

theorem State.becomeFree_account (s : State) (h a : Nat) : (s.becomeFree h).account a = { s.account a with
    count := (s.account a).count - if a = (s.session h).account then 1 else 0 } := by
  change (s.countSession (s.session h) fun n => n - 1).account a = _
  rw [State.countSession_account]
  split <;> rfl

theorem State.becomeFree_agreement (s : State) (h i : Nat) : (s.becomeFree h).agreement i = { s.agreement i with
    count := (s.agreement i).count - if (s.session h).agreement = some i then 1 else 0 } := by
  change (s.countSession (s.session h) fun n => n - 1).agreement i = _
  rw [State.countSession_agreement]
  split <;> rfl

end Counts

/-! ### What keeps the books in order -/

section Books

variable {s t : State}

/-- Records that follow those they replace, with no account's count or kind and no agreement changed. -/
theorem State.Books.follow (books : s.Books) (sessions : t.sessions.wf Session.free Config.sessionCount = true)
    (follows : ∀ h, (s.session h).Follows (t.session h)) (owed : t.owed = s.owed) (agreements : t.agreements = s.agreements)
    (accounts : t.accounts.wf Account.closed Config.accountCount = true)
    (account : ∀ a, (t.account a).Ok ∧ (t.account a).count = (s.account a).count ∧ (t.account a).kind = (s.account a).kind) :
    t.Books := by
  have agreement : t.agreement = s.agreement := by
    funext i
    simp [State.agreement, agreements]
  have free := fun h => (follows h).free
  refine ⟨sessions, agreements ▸ books.agreements, accounts, fun h => (follows h).ok (books.ok h), fun h => ?_,
    agreement ▸ books.agreementOk, fun a => (account a).1, fun h k hFree kFree same => ?_, owed ▸ books.owedOnce, fun h => ?_,
    fun i inside => ?_, fun a inside => ?_, ?_, agreement ▸ books.codes, fun h i under => ?_, fun h notFree alone => ?_⟩
  · rw [(follows h).account, (follows h).agreement]
    exact books.named h
  · rw [(follows h).identity, (follows k).identity] at same
    exact books.identity h k (by rwa [ne_eq, ← free]) (by rwa [ne_eq, ← free]) same
  · rw [owed, books.owes, (follows h).closing]
  · rw [agreement, books.agreementCount i inside]
    simp only [(follows _).agreement]
  · rw [(account a).2.1, books.accountCount a inside]
    simp only [(follows _).account, (follows _).notFree]
  · rw [agreement]
    intro i loaded
    rw [(account _).2.2]
    exact books.settles i loaded
  · rw [(follows h).agreement] at under
    rw [agreement, (follows h).account]
    exact books.roams h i under
  · rw [(follows h).agreement] at alone
    rw [(follows h).account, (account _).2.2]
    exact books.pays h (by rwa [ne_eq, ← free]) alone

/-- The books are those of the tables and the owed-record list alone. -/
theorem State.Books.congr (books : s.Books) (sessions : t.sessions = s.sessions) (owed : t.owed = s.owed)
    (agreements : t.agreements = s.agreements) (accounts : t.accounts = s.accounts) : t.Books := by
  refine books.follow (sessions ▸ books.sessions) (fun h => ?_) owed agreements (accounts ▸ books.accounts) fun a => ?_
  · rw [show t.session h = s.session h by simp [State.session, sessions]]
    exact .refl _
  · rw [show t.account a = s.account a by simp [State.account, accounts]]
    exact ⟨books.accountOk a, rfl, rfl⟩

/-- A rewriting by records that follow those they replace. -/
theorem State.Books.rewrite {new : Nat → Session} {l : List (EventKind × Nat)} (books : s.Books) (written : s.Rewrites t new l)
    (follows : ∀ h, (s.session h).Follows (new h)) : t.Books := by
  refine books.follow (written.canonical books.sessions) (fun h => ?_) (by rw [written.frame]) written.agreements
    (written.accounts ▸ books.accounts) fun a => ?_
  · rw [written.session]
    exact follows h
  · rw [show t.account a = s.account a by simp [State.account, written.accounts]]
    exact ⟨books.accountOk a, rfl, rfl⟩

theorem State.Books.setSession {h : Nat} {y : Session} (books : s.Books) (notFree : (s.session h).state ≠ .free)
    (follows : (s.session h).Follows y) : (s.setSession h y).Books := by
  refine books.rewrite (State.rewrites_setSession y (Session.notFree_iff.mpr notFree)) fun k => ?_
  split
  · next here => rwa [here]
  · exact .refl _

theorem State.Books.inside {h : Nat} (books : s.Books) (notFree : (s.session h).state ≠ .free) : h < Config.sessionCount :=
  Table.lt_of_get_ne books.sessions fun free => notFree (by rw [State.session, free]; rfl)

theorem State.Books.not_owed {h : Nat} (books : s.Books) (served : (s.session h).served = true) : h ∉ s.owed := by
  rw [books.owes]
  obtain state | state | state := Session.served_iff.mp served <;> simp [state]

/-- A record that is cleared, its counts lowered, and its place in the owed-record list given up. -/
theorem State.Books.freed {h : Nat} (books : s.Books) (notFree : (s.session h).state ≠ .free)
    (session : ∀ k, t.session k = if k = h then Session.free else s.session k)
    (account : ∀ a, t.account a = { s.account a with count := (s.account a).count - if a = (s.session h).account then 1 else 0 })
    (agreement : ∀ i, t.agreement i = { s.agreement i with
      count := (s.agreement i).count - if (s.session h).agreement = some i then 1 else 0 })
    (owed : t.owed = s.owed.erase h) (sessionsWf : t.sessions.wf Session.free Config.sessionCount = true)
    (agreementsWf : t.agreements.wf Agreement.emptied Config.agreementCount = true)
    (accountsWf : t.accounts.wf Account.closed Config.accountCount = true) : t.Books := by
  have inside := books.inside notFree
  have counted (p : Session → Bool) (free : p Session.free = false) :
      ((List.range Config.sessionCount).countP fun k => p (t.session k)) =
        ((List.range Config.sessionCount).countP fun k => p (s.session k)) - if p (s.session h) = true then 1 else 0 := by
    have moved := countP_update (List.nodup_range (n := Config.sessionCount)) (List.mem_range.mpr inside)
      (p := fun k => p (t.session k)) (q := fun k => p (s.session k))
      fun k other => by rw [session, if_neg other]
    simp only [session, if_true, free] at moved ⊢
    simp only [Bool.false_eq_true, if_false] at moved
    omega
  refine ⟨sessionsWf, agreementsWf, accountsWf, fun k => ?_, fun k => ?_, fun i => ?_, fun a => ?_,
    fun j k jFree kFree same => ?_, owed ▸ books.owedOnce.erase h, fun k => ?_, fun i small => ?_, fun a small => ?_,
    fun i loaded => ?_, fun i j iLoaded jLoaded length code => ?_, fun k i under => ?_, fun k kFree alone => ?_⟩
  · rw [session]
    split
    · exact .inl rfl
    · exact books.ok k
  · rw [session]
    split
    · exact ⟨by decide, by simp [Session.free]⟩
    · exact books.named k
  · obtain ⟨a, p, c⟩ := books.agreementOk i
    rw [agreement]
    exact ⟨a, p, c⟩
  · obtain ⟨v, th, p, o, c⟩ := books.accountOk a
    rw [account]
    exact ⟨v, th, p, o, c⟩
  · rw [session] at jFree kFree same
    rw [session] at same
    split at jFree <;> split at kFree
    · exact absurd rfl jFree
    · exact absurd rfl jFree
    · exact absurd rfl kFree
    · exact books.identity j k jFree kFree (by simpa [*] using same)
  · rw [owed, session, books.owedOnce.mem_erase_iff, books.owes]
    split
    · next here => simp [here, Session.free]
    · next other => simp [other]
  · rw [agreement, counted (fun x => x.agreement == some i) rfl, books.agreementCount i small]
    simp
  · rw [account, counted (fun x => x.notFree && x.account == a) rfl, books.accountCount a small]
    simp [Session.notFree_iff.mpr notFree, eq_comm (a := a)]
  · rw [agreement] at loaded ⊢
    rw [account]
    exact books.settles i loaded
  · rw [agreement] at iLoaded length code
    rw [agreement] at jLoaded length code
    exact books.codes i j iLoaded jLoaded length code
  · rw [session] at under ⊢
    split at under
    · cases under
    · next other =>
      rw [if_neg other, agreement]
      exact books.roams k i under
  · rw [session] at kFree alone ⊢
    split at kFree
    · exact absurd rfl kFree
    · next other =>
      rw [if_neg other] at alone ⊢
      rw [account]
      exact books.pays k kFree alone

/-- A session that becomes FREE (R15), taken out of the owed-record list (R17). -/
theorem State.Books.becomeFree {h : Nat} (books : s.Books) (notFree : (s.session h).state ≠ .free) (owed : List Nat)
    (left : owed = s.owed.erase h) : (({ s with owed := owed } : State).becomeFree h).Books := by
  have wf := State.countSession_wf (s := { s with owed := owed }) (f := fun n => n - 1) books.accounts books.agreements (books.named h)
  obtain ⟨_, _, _, framed⟩ := State.becomeFree_frame { s with owed := owed } h
  refine books.freed notFree (State.becomeFree_session _ h) (State.becomeFree_account _ h) (State.becomeFree_agreement _ h)
    (by rw [framed, left]) (Table.wf_set ?_ (books.inside notFree) _) wf.2 wf.1
  obtain ⟨_, _, counted⟩ := State.countSession_frame { s with owed := owed } (s.session h) fun n => n - 1
  exact counted ▸ books.sessions

end Books

end Sys2Proof.Machine

/-! SUPPORT. The closing procedure (R14 to R16), once and for a run of sessions, and the grant of record slots (R17, R168). -/

namespace Sys2Proof.Machine

/-! ### One session closed -/

/-- The CLOSE record of a session, made now (R162, R163). -/
def State.closeRecord (s : State) (reason : CloseReason) (h : Nat) : ChargeRecord := s.stamp ((s.session h).closeBody h reason)

/-- A session as a close without room leaves it (R16). -/
def Session.closed (x : Session) (reason : CloseReason) : Session := { x with state := .closing, closeReason := some reason }

section One

variable {s : State} {h : Nat} {reason : CloseReason}

theorem State.becomeFree_queue_router (s : State) (h : Nat) (q : Queue) (o : Router) :
    ({ s with queue := q, router := o } : State).becomeFree h = { s.becomeFree h with queue := q, router := o } := by
  have session : ({ s with queue := q, router := o } : State).session h = s.session h := rfl
  unfold State.becomeFree State.countSession
  rw [session]
  cases (s.session h).agreement <;> rfl

theorem State.closeSession_room (room : s.queue.records.length < Config.ordinaryLimit) : s.closeSession h reason =
    { s.becomeFree h with
      queue := ⟨s.queue.records ++ [s.closeRecord reason h], max s.queue.mark (s.queue.records.length + 1)⟩
      router := s.router.occurs s.queue.appendTold } := by
  rw [State.closeSession, if_pos (State.queueHasRoom_iff.mpr room), State.appendRecord_eq, State.becomeFree_queue_router]
  rfl

theorem State.closeSession_full (full : Config.ordinaryLimit ≤ s.queue.records.length) : s.closeSession h reason =
    { s with
      sessions := s.sessions.set Session.free h ((s.session h).closed reason)
      owed := s.owed ++ [h]
      router := s.router.occurs (if s.owed = [] then [(.recordOwed, h)] else []) } := by
  have noRoom : s.queueHasRoom = false := by
    rw [Bool.eq_false_iff, ne_eq, State.queueHasRoom_iff]
    omega
  rw [State.closeSession, noRoom]
  unfold State.joinOwed
  cases owed : s.owed with
  | nil => simp [State.setSession, owed, State.raise, Router.occur_eq_occurs, Session.closed]
  | cons => simp [State.setSession, owed, Session.closed]

end One

/-! ### A run of sessions closed -/

theorem Queue.kind_of_mem_appendTold {q : Queue} {e : EventKind × Nat} (listed : e ∈ q.appendTold) :
    e.1 = .recordReady ∨ e.1 = .queueFull := by
  obtain listed | listed := List.mem_append.mp listed <;> split at listed
  · rw [List.mem_singleton.mp listed]
    exact .inl rfl
  · cases listed
  · rw [List.mem_singleton.mp listed]
    exact .inr rfl
  · cases listed

/-- `t` is `s` after some sessions are closed with one reason, some of them FREE with a CLOSE record each and some CLOSING at the tail
of the owed-record list. -/
structure State.Closes (s t : State) (reason : CloseReason) (freed waiting : List Nat) : Prop where
  records : t.queue.records = s.queue.records ++ freed.map (s.closeRecord reason)
  mark : s.queue.records.length ≤ s.queue.mark → t.queue.mark = max s.queue.mark t.queue.records.length
  owed : t.owed = s.owed ++ waiting
  session : ∀ h, t.session h = if h ∈ freed then Session.free else if h ∈ waiting then (s.session h).closed reason else s.session h
  account : ∀ a, t.account a = { s.account a with
    count := (s.account a).count - freed.countP fun h => (s.session h).account == a }
  agreement : ∀ i, t.agreement i = { s.agreement i with
    count := (s.agreement i).count - freed.countP fun h => (s.session h).agreement == some i }
  frame : t = { s with
    sessions := t.sessions, accounts := t.accounts, agreements := t.agreements, queue := t.queue, owed := t.owed, router := t.router }
  told : ∃ l, t.router = s.router.occurs l
    ∧ (∀ e ∈ l, e.1 = .recordReady ∨ e.1 = .queueFull ∨ e.1 = .recordOwed)
    ∧ (s.queue.records = [] → freed ≠ [] → ∃ d, (EventKind.recordReady, d) ∈ l)
    ∧ (s.queue.records.length < Config.ordinaryLimit → t.queue.records.length = Config.ordinaryLimit → ∃ d, (EventKind.queueFull, d) ∈ l)
    ∧ (s.owed = [] → waiting ≠ [] → ∃ d, (EventKind.recordOwed, d) ∈ l)

section Run

variable {s t u : State} {reason : CloseReason} {freed waiting freed' waiting' : List Nat} {h : Nat}

theorem State.Closes.refl (s : State) (reason : CloseReason) : s.Closes s reason [] [] := by
  refine ⟨by simp, fun le => by omega, by simp, by simp, fun a => ?_, fun i => ?_, rfl, [], rfl, by simp, by simp, by omega, by simp⟩
  · rfl
  · rfl

theorem State.Closes.room (room : s.queue.records.length < Config.ordinaryLimit) (reason : CloseReason) (h : Nat) :
    s.Closes (s.closeSession h reason) reason [h] [] := by
  obtain ⟨_, _, _, framed⟩ := State.becomeFree_frame s h
  rw [State.closeSession_room room]
  refine ⟨rfl, fun le => by simp, by simp [framed], fun k => ?_, fun a => ?_, fun i => ?_, by rw [framed], s.queue.appendTold, rfl, ?_, ?_, ?_, by simp⟩
  · refine (State.becomeFree_session s h k).trans ?_
    simp
  · refine (State.becomeFree_account s h a).trans ?_
    simp [eq_comm (a := a)]
  · refine (State.becomeFree_agreement s h i).trans ?_
    simp
  · exact fun e listed => (Queue.kind_of_mem_appendTold listed).imp_right .inl
  · intro empty _
    exact ⟨0, by simp [Queue.appendTold, empty]⟩
  · intro _ full
    refine ⟨0, ?_⟩
    have reached : s.queue.records.length + 1 = Config.ordinaryLimit := by simpa using full
    simp [Queue.appendTold, reached]

theorem State.Closes.full (full : Config.ordinaryLimit ≤ s.queue.records.length) (reason : CloseReason) (h : Nat) :
    s.Closes (s.closeSession h reason) reason [] [h] := by
  rw [State.closeSession_full full]
  refine ⟨by simp, fun le => by simp; omega, rfl, fun k => ?_, fun a => rfl, fun i => rfl, rfl, _, rfl, ?_, by simp, fun _ _ => by omega, ?_⟩
  · refine (State.setSession_session s h k _).trans ?_
    simp only [List.not_mem_nil, if_false, List.mem_singleton]
    split
    · next here => rw [here]
    · rfl
  · split <;> simp
  · intro none_owed _
    exact ⟨h, by simp [none_owed]⟩

/-- Two runs, of different sessions. -/
theorem State.Closes.trans (first : s.Closes u reason freed waiting) (second : u.Closes t reason freed' waiting')
    (apart : ∀ h ∈ freed' ++ waiting', h ∉ freed ++ waiting) : s.Closes t reason (freed ++ freed') (waiting ++ waiting') := by
  have stamp : ∀ body, u.stamp body = s.stamp body := fun body => by
    rw [first.frame]
    rfl
  have kept : ∀ h ∈ freed' ++ waiting', u.session h = s.session h := fun h listed => by
    have out := apart h listed
    rw [List.mem_append, not_or] at out
    rw [first.session, if_neg out.1, if_neg out.2]
  have kept' : ∀ h ∈ freed', u.session h = s.session h := fun h listed => kept h (List.mem_append_left _ listed)
  obtain ⟨l, run, kinds, ready, fills, owes⟩ := first.told
  obtain ⟨l', run', kinds', ready', fills', owes'⟩ := second.told
  have length := congrArg List.length second.records
  have length' := congrArg List.length first.records
  rw [List.length_append, List.length_map] at length length'
  refine ⟨?_, fun le => ?_, ?_, fun h => ?_, fun a => ?_, fun i => ?_, ?_, l ++ l', ?_, ?_, fun empty some_freed => ?_, fun below full => ?_,
    fun none_owed some_waits => ?_⟩
  · rw [second.records, first.records, List.map_append, List.append_assoc, List.append_right_inj, List.append_right_inj]
    refine List.map_congr_left fun h listed => ?_
    rw [State.closeRecord, State.closeRecord, stamp, kept' h listed]
  · have mark := first.mark le
    rw [second.mark (by omega), mark]
    omega
  · rw [second.owed, first.owed, List.append_assoc]
  · rw [second.session, first.session]
    have out := apart h
    simp only [List.mem_append] at out ⊢
    by_cases f' : h ∈ freed' <;> by_cases w' : h ∈ waiting' <;> by_cases f : h ∈ freed <;> by_cases w : h ∈ waiting <;> simp_all
  · have same : (freed'.countP fun h => (u.session h).account == a) = freed'.countP fun h => (s.session h).account == a :=
      List.countP_congr fun h listed => by rw [kept' h listed]
    rw [second.account, first.account, same, List.countP_append, Nat.sub_sub]
  · have same : (freed'.countP fun h => (u.session h).agreement == some i) = freed'.countP fun h => (s.session h).agreement == some i :=
      List.countP_congr fun h listed => by rw [kept' h listed]
    rw [second.agreement, first.agreement, same, List.countP_append, Nat.sub_sub]
  · rw [second.frame, first.frame]
  · rw [run', run, Router.occurs_append]
  · intro e listed
    obtain listed | listed := List.mem_append.mp listed
    · exact kinds e listed
    · exact kinds' e listed
  · simp only [List.mem_append]
    by_cases already : freed = []
    · subst already
      obtain ⟨d, told⟩ := ready' (by rw [first.records, empty]; rfl) (by simpa using some_freed)
      exact ⟨d, .inr told⟩
    · obtain ⟨d, told⟩ := ready empty already
      exact ⟨d, .inl told⟩
  · simp only [List.mem_append]
    by_cases already : u.queue.records.length = Config.ordinaryLimit
    · obtain ⟨d, told⟩ := fills below already
      exact ⟨d, .inl told⟩
    · obtain ⟨d, told⟩ := fills' (by omega) full
      exact ⟨d, .inr told⟩
  · simp only [List.mem_append]
    by_cases already : waiting = []
    · subst already
      obtain ⟨d, told⟩ := owes' (by rw [first.owed, none_owed]; rfl) (by simpa using some_waits)
      exact ⟨d, .inr told⟩
    · obtain ⟨d, told⟩ := owes none_owed already
      exact ⟨d, .inl told⟩

/-- The lowest of a run of sessions take the queue's room. -/
theorem State.closes_foldl (reason : CloseReason) {hs : List Nat} (once : hs.Nodup) :
    s.Closes (hs.foldl (fun t h => t.closeSession h reason) s) reason (hs.take (Config.ordinaryLimit - s.queue.records.length))
      (hs.drop (Config.ordinaryLimit - s.queue.records.length)) := by
  induction hs generalizing s with
  | nil =>
    simp only [List.foldl_nil, List.take_nil, List.drop_nil]
    exact .refl s reason
  | cons h rest ih =>
    obtain ⟨fresh, once⟩ := List.nodup_cons.mp once
    have rest_run := ih (s := s.closeSession h reason) once
    have others : ∀ n, ∀ k ∈ rest.take n ++ rest.drop n, k ≠ h := fun n k listed same => fresh (by
      rw [List.take_append_drop] at listed
      exact same ▸ listed)
    rw [List.foldl_cons]
    by_cases room : s.queue.records.length < Config.ordinaryLimit
    · have first := State.Closes.room room reason h
      obtain ⟨n, left⟩ : ∃ n, Config.ordinaryLimit - s.queue.records.length = n + 1 := ⟨_, (Nat.succ_pred (by omega)).symm⟩
      have left' : Config.ordinaryLimit - (s.closeSession h reason).queue.records.length = n := by
        rw [first.records, List.length_append, List.length_map, List.length_singleton]
        omega
      rw [left'] at rest_run
      rw [left, List.take_succ_cons, List.drop_succ_cons]
      exact first.trans rest_run fun k listed => by simpa using others n k listed
    · have full := State.Closes.full (Nat.not_lt.mp room) reason h
      have left : Config.ordinaryLimit - s.queue.records.length = 0 := by omega
      have left' : Config.ordinaryLimit - (s.closeSession h reason).queue.records.length = 0 := by
        rw [full.records, List.map_nil, List.append_nil, left]
      rw [left', List.take_zero, List.drop_zero] at rest_run
      rw [left, List.take_zero, List.drop_zero]
      exact full.trans rest_run fun k listed => by simpa using others 0 k (by simpa using listed)

end Run

end Sys2Proof.Machine

/-! PROOF. A session closed and a record slot granted: the books stay in order. *Close session* (O12) and the purser's side of the
queue (O44). -/

namespace Sys2Proof.Machine

section Closing

variable {s t : State} {h : Nat} {reason : CloseReason}

theorem Session.closed_lawful {x : Session} (lawful : x.Lawful) (reason : CloseReason) : (x.closed reason).Lawful := by
  obtain ⟨_, _, _, _, basis, has, lapse, part, plan, data, voice, shortfall, some_, most⟩ := lawful
  exact ⟨by simp [Session.closed], by simp [Session.closed], by simp [Session.closed], by simp [Session.closed], basis, has, lapse, part,
    plan, data, voice, shortfall, some_, most⟩

/-- A served session that waits for its record keeps its place in the table, and takes one in the owed-record list (R16). -/
theorem State.Books.joined (books : s.Books) (served : (s.session h).served = true)
    (session : ∀ k, t.session k = if k = h then (s.session h).closed reason else s.session k) (owed : t.owed = s.owed ++ [h])
    (sessions : t.sessions.wf Session.free Config.sessionCount = true) (agreements : t.agreements = s.agreements)
    (accounts : t.accounts = s.accounts) : t.Books := by
  have notFree : (s.session h).state ≠ .free := Session.notFree_iff.mp (Session.notFree_of_served served)
  have lawful := (books.ok h).lawful notFree
  have agreement : t.agreement = s.agreement := by funext i; simp [State.agreement, agreements]
  have account : t.account = s.account := by funext a; simp [State.account, accounts]
  have party : ∀ k, (t.session k).identity = (s.session k).identity ∧ (t.session k).agreement = (s.session k).agreement
      ∧ (t.session k).account = (s.session k).account ∧ ((t.session k).state = .free ↔ (s.session k).state = .free) := fun k => by
    rw [session]
    split
    · next here =>
      subst here
      exact ⟨rfl, rfl, rfl, by simp [Session.closed, notFree]⟩
    · exact ⟨rfl, rfl, rfl, Iff.rfl⟩
  have notFreeSame : ∀ k, (t.session k).notFree = (s.session k).notFree := fun k => by
    rw [Bool.eq_iff_iff, Session.notFree_iff, Session.notFree_iff, ne_eq, (party k).2.2.2]
  refine ⟨sessions, agreements ▸ books.agreements, accounts ▸ books.accounts, fun k => ?_, fun k => ?_, agreement ▸ books.agreementOk,
    account ▸ books.accountOk, fun j k jFree kFree same => ?_, ?_, fun k => ?_, fun i inside => ?_, fun a inside => ?_, ?_,
    agreement ▸ books.codes, fun k i under => ?_, fun k kFree alone => ?_⟩
  · rw [session]
    split
    · exact .inr (Session.closed_lawful lawful reason)
    · exact books.ok k
  · rw [(party k).2.1, (party k).2.2.1]
    exact books.named k
  · rw [(party j).1, (party k).1] at same
    rw [ne_eq, (party j).2.2.2] at jFree
    rw [ne_eq, (party k).2.2.2] at kFree
    exact books.identity j k jFree kFree same
  · rw [owed]
    refine List.nodup_append.mpr ⟨books.owedOnce, List.nodup_singleton h, fun j listed k own same => ?_⟩
    rw [List.mem_singleton.mp own] at same
    exact books.not_owed served (same ▸ listed)
  · rw [owed, List.mem_append, List.mem_singleton, session, books.owes]
    split
    · next here => simp [here, Session.closed]
    · next other => simp [other]
  · rw [agreement, books.agreementCount i inside]
    simp only [(party _).2.1]
  · rw [account, books.accountCount a inside]
    simp only [(party _).2.2.1, notFreeSame]
  · rw [agreement, account]
    exact books.settles
  · rw [(party k).2.1] at under
    rw [agreement, (party k).2.2.1]
    exact books.roams k i under
  · rw [(party k).2.1] at alone
    rw [ne_eq, (party k).2.2.2] at kFree
    rw [(party k).2.2.1, account]
    exact books.pays k kFree alone

theorem State.Books.closeSession (books : s.Books) (served : (s.session h).served = true) (reason : CloseReason) :
    (s.closeSession h reason).Books := by
  have notFree : (s.session h).state ≠ .free := Session.notFree_iff.mp (Session.notFree_of_served served)
  by_cases room : s.queue.records.length < Config.ordinaryLimit
  · have freed := books.becomeFree notFree s.owed (List.erase_of_not_mem (books.not_owed served)).symm
    rw [State.closeSession_room room]
    exact freed.congr rfl rfl rfl rfl
  · rw [State.closeSession_full (Nat.not_lt.mp room)]
    exact books.joined served (State.setSession_session s h · _) rfl (Table.wf_set books.sessions (books.inside notFree) _) rfl rfl

theorem State.QueueLaw.closeSession (law : s.QueueLaw) (h : Nat) (reason : CloseReason) : (s.closeSession h reason).QueueLaw := by
  by_cases room : s.queue.records.length < Config.ordinaryLimit
  · obtain ⟨_, _, _, framed⟩ := State.becomeFree_frame s h
    rw [State.closeSession_room room]
    refine law.append room (s.closeRecord reason h) ?_ ?_
    · rw [framed]
    · rw [State.appendRecord_eq]
  · obtain ⟨mark, most, newest, _⟩ := law
    rw [State.closeSession_full (Nat.not_lt.mp room)]
    exact ⟨mark, most, newest, fun _ => Nat.not_lt.mp room⟩

/-- A close touches no other session. -/
theorem State.closeSession_session_other {k : Nat} (other : k ≠ h) : (s.closeSession h reason).session k = s.session k := by
  by_cases room : s.queue.records.length < Config.ordinaryLimit
  · rw [(State.Closes.room room reason h).session]
    simp [other]
  · rw [(State.Closes.full (Nat.not_lt.mp room) reason h).session]
    simp [other]

/-- A closed session is not served. -/
theorem State.closeSession_session_own : ((s.closeSession h reason).session h).served = false := by
  by_cases room : s.queue.records.length < Config.ordinaryLimit
  · rw [(State.Closes.room room reason h).session]
    simp
  · rw [(State.Closes.full (Nat.not_lt.mp room) reason h).session]
    simp [Session.served, Session.closed]

/-- A run of closings keeps the books and the queue in order. -/
theorem State.Books.closeAll (books : s.Books) (law : s.QueueLaw) (reason : CloseReason) {hs : List Nat} (once : hs.Nodup)
    (served : ∀ h ∈ hs, (s.session h).served = true) :
    (hs.foldl (fun t h => t.closeSession h reason) s).Books ∧ (hs.foldl (fun t h => t.closeSession h reason) s).QueueLaw := by
  induction hs generalizing s with
  | nil => exact ⟨books, law⟩
  | cons h rest ih =>
    obtain ⟨fresh, once⟩ := List.nodup_cons.mp once
    refine ih (books.closeSession (served h List.mem_cons_self) reason) (law.closeSession h reason) once fun k listed => ?_
    rw [State.closeSession_session_other fun same : k = h => fresh (same ▸ listed)]
    exact served k (List.mem_cons_of_mem _ listed)

/-! ### The report of the served count (R21, R64) -/

/-- While nobody is served the end-of-drain order finds nobody. -/
theorem State.endOfDrain_of_nobody (nobody : s.servedCount = 0) : s.endOfDrain = s := by
  have unserved : ∀ e ∈ s.sessions.entries, e.2.served = false := by
    simpa [State.servedCount, Table.count, Table.keys] using nobody
  have none_drains : s.handlesOf (fun x => x.state == .draining) = [] := by
    rw [State.handlesOf, Table.keys, List.map_eq_nil_iff, List.filter_eq_nil_iff]
    intro e listed draining
    have served := unserved e listed
    rw [Session.served_eq_false_iff] at served
    simp only [beq_iff_eq] at draining
    rw [draining] at served
    simp at served
  rw [State.endOfDrain, none_drains, List.foldl_nil]

theorem State.enterRadiating_coverage_frame (s : State) : ∃ c l, s.enterRadiating = { s with coverage := c, router := s.router.occurs l } :=
  ⟨_, [(.coverageChanged, _)], rfl⟩

theorem State.enterRamping_coverage_frame (s : State) : ∃ c l, s.enterRamping = { s with coverage := c, router := s.router.occurs l } := by
  unfold State.enterRamping
  dsimp only
  split
  · exact ⟨_, [(.coverageChanged, _), (.coverageChanged, _)], rfl⟩
  · exact ⟨_, [(.coverageChanged, _)], rfl⟩

theorem State.enterQualifying_coverage_frame (s : State) : ∃ c l, s.enterQualifying = { s with coverage := c, router := s.router.occurs l } := by
  unfold State.enterQualifying
  dsimp only
  split
  · obtain ⟨c, l, framed⟩ := State.enterRamping_coverage_frame
      (s.changeCoverage { s.coverage with state := .qualifying, restoreTimer := some (seconds s.params.restoreDelay) })
    exact ⟨c, (.coverageChanged, _) :: l, framed⟩
  · exact ⟨_, [(.coverageChanged, _)], rfl⟩

/-- The report of the served count reaches nothing but the controller: it ends a withdrawal that has nobody left to drain. -/
theorem State.reportServed_coverage_frame (s : State) : ∃ c l, s.reportServed = { s with coverage := c, router := s.router.occurs l } := by
  unfold State.reportServed
  split
  · next ends =>
    have nobody : (s.changeCoverage s.coverage.silenced).servedCount = 0 := ends.2
    unfold State.endWithdrawal
    dsimp only
    rw [State.endOfDrain_of_nobody nobody]
    split
    · obtain ⟨c, l, framed⟩ := State.enterQualifying_coverage_frame (s.changeCoverage s.coverage.silenced)
      exact ⟨c, (.coverageChanged, _) :: l, framed⟩
    · exact ⟨_, [(.coverageChanged, _)], rfl⟩
  · exact ⟨_, [], rfl⟩

end Closing

/-! ### Close session (R19) -/

section CloseSession

variable {s : State} {h : Nat} {reason : CloseReason}

theorem State.leftBytes_room (room : s.queue.records.length < Config.ordinaryLimit) (unowed : h ∉ s.owed) :
    (s.closeSession h reason).leftBytes h = [0, 0, 0] := by
  have closes := State.Closes.room room reason h
  have out : h ∉ (s.closeSession h reason).owed := by rw [closes.owed]; simpa using unowed
  rw [State.leftBytes, State.owedPlace, if_neg out, closes.session]
  simp only [List.mem_singleton, if_true]
  decide

theorem State.leftBytes_full (full : Config.ordinaryLimit ≤ s.queue.records.length) (unowed : h ∉ s.owed) :
    (s.closeSession h reason).leftBytes h = 4 :: beBytes 2 (s.owed.length + 1) := by
  have closes := State.Closes.full full reason h
  have place : (s.closeSession h reason).owedPlace h = s.owed.length + 1 := by
    rw [State.owedPlace, closes.owed, if_pos (by simp), List.idxOf_append_of_notMem unowed]
    simp
  rw [State.leftBytes, place, closes.session]
  simp [Session.closed, SessionState.code, beBytes]

theorem State.leftBytes_reportServed : s.reportServed.leftBytes h = s.leftBytes h := by
  obtain ⟨_, _, framed⟩ := s.reportServed_coverage_frame
  rw [framed]
  rfl

/-- Settles O12. -/
theorem closeSessionCloses : Obligations.CloseSessionCloses := by
  intro s handle tables running inside served unowed
  have answer := (serves_closeSession handle).exec running inside served
  simp only [State.closeServed, State.leftBytes_reportServed] at answer
  generalize handle.toNat = h at *
  have bytes : (s.closeSession h .purser).leftBytes h =
      if s.queue.records.length < Config.ordinaryLimit then [0, 0, 0] else 4 :: beBytes 2 (s.owed.length + 1) := by
    split
    · next room => exact State.leftBytes_room room unowed
    · next full => exact State.leftBytes_full (Nat.not_lt.mp full) unowed
  have state : (s.closeSession h .purser).coverage.state = s.coverage.state := by
    obtain ⟨_, _, _, _, _, _, framed⟩ := State.closeSession_frame s h .purser
    rw [framed]
  rw [bytes] at answer
  refine ⟨s.closeSession h .purser, fun room => ?_, fun full => ?_, fun k other => State.closeSession_session_other other, fun stays => ?_,
    fun withdraws nobody => ?_⟩
  · have closes := State.Closes.room room .purser h
    obtain ⟨_, _, _, framed⟩ := State.becomeFree_frame s h
    obtain ⟨l, run, _, ready, fills, _⟩ := closes.told
    refine ⟨closes.records, by rw [State.closeSession_room room], ?_, fun a => ?_, fun i => ?_, fun empty => ?_, fun almost => ?_, ?_⟩
    · rw [closes.session]
      simp
    · rw [State.closeSession_room room]
      exact State.becomeFree_account s h a
    · rw [State.closeSession_room room]
      exact State.becomeFree_agreement s h i
    · obtain ⟨d, told⟩ := ready empty (by simp)
      exact State.latched_of_occurs run told
    · obtain ⟨d, told⟩ := fills room (by rw [closes.records, List.length_append, List.length_map, List.length_singleton, almost])
      exact State.latched_of_occurs run told
    · rw [State.closeSession_room room, framed]
  · have closes := State.Closes.full full .purser h
    obtain ⟨l, run, _, _, _, owes⟩ := closes.told
    refine ⟨?_, fun none_owed => ?_, fun some_owed => ?_, ?_⟩
    · rw [closes.session]
      simp [Session.closed]
    · obtain ⟨d, told⟩ := owes none_owed (by simp)
      exact State.latched_of_occurs run told
    · rw [State.closeSession_full full, if_neg some_owed]
      rfl
    · rw [State.closeSession_full full]
  · rw [answer, State.reportServed, if_neg]
    rw [state]
    tauto
  · rw [answer, State.reportServed, if_pos ⟨state.trans withdraws, nobody⟩]

end CloseSession

end Sys2Proof.Machine

/-! PROOF. The purser's side of the queue (9.3): O44. -/

namespace Sys2Proof.Machine

section Grant

variable {s : State} {h : Nat} {rest : List Nat}

theorem State.grantOwed_nil : s.grantOwed [] = (s, 0) := rfl

theorem State.grantOwed_full (full : Config.ordinaryLimit ≤ s.queue.records.length) (hs : List Nat) : s.grantOwed hs = (s, 0) := by
  cases hs with
  | nil => rfl
  | cons h rest =>
    rw [State.grantOwed, if_neg]
    rw [State.queueHasRoom_iff]
    omega

/-- The one slot that a drop frees is granted to the head of the owed-record list (R17). -/
theorem State.grantOwed_last (room : s.queue.records.length + 1 = Config.ordinaryLimit) : s.grantOwed (h :: rest) =
    ({ ({ s with owed := rest } : State).becomeFree h with
      queue := ⟨s.queue.records ++ [s.closeRecord ((s.session h).closeReason.getD .purser) h], max s.queue.mark (s.queue.records.length + 1)⟩
      router := s.router.occurs s.queue.appendTold }, 1) := by
  have granted : ({ s.appendRecord (s.closeRecord ((s.session h).closeReason.getD .purser) h) with owed := rest } : State).becomeFree h =
      { ({ s with owed := rest } : State).becomeFree h with
        queue := ⟨s.queue.records ++ [s.closeRecord ((s.session h).closeReason.getD .purser) h], max s.queue.mark (s.queue.records.length + 1)⟩
        router := s.router.occurs s.queue.appendTold } := by
    rw [State.appendRecord_eq]
    exact State.becomeFree_queue_router { s with owed := rest } h _ _
  have step : s.grantOwed (h :: rest) =
      (((({ s.appendRecord (s.closeRecord ((s.session h).closeReason.getD .purser) h) with owed := rest } : State).becomeFree h).grantOwed
        rest).1,
      ((({ s.appendRecord (s.closeRecord ((s.session h).closeReason.getD .purser) h) with owed := rest } : State).becomeFree h).grantOwed
        rest).2 + 1) := by
    rw [State.grantOwed, if_pos (State.queueHasRoom_iff.mpr (by omega))]
    rfl
  have filled : Config.ordinaryLimit ≤ (s.queue.records ++ [s.closeRecord ((s.session h).closeReason.getD .purser) h]).length := by
    rw [List.length_append, List.length_singleton]
    omega
  rw [step, granted, State.grantOwed_full filled]

/-- The state after a drop that leaves `records` grants the one slot to session `h` (R168). -/
def State.slotGranted (s : State) (h : Nat) (rest : List Nat) (records : List ChargeRecord) : State :=
  { ({ s with owed := rest } : State).becomeFree h with
    queue := ⟨records ++ [s.closeRecord ((s.session h).closeReason.getD .purser) h], s.queue.mark⟩
    router := s.router.occurs (Queue.appendTold ⟨records, s.queue.mark⟩) }

/-- In a part in order a drop grants at most the one slot. -/
theorem State.dropRecord_cases {r : ChargeRecord} {records : List ChargeRecord} (law : s.QueueLaw) (oldest : s.queue.records = r :: records) :
    (s.owed = [] ∨ Config.ordinaryLimit ≤ records.length)
      ∧ s.dropRecord = ({ s with queue := { s.queue with records := records } }, 0)
    ∨ ∃ h rest, s.owed = h :: rest ∧ records.length + 1 = Config.ordinaryLimit
      ∧ s.dropRecord = (s.slotGranted h rest records, 1) := by
  obtain ⟨mark, _, _, owes⟩ := law
  have tail : s.queue.records.tail = records := by rw [oldest]; rfl
  have dropped : s.dropRecord = ({ s with queue := { s.queue with records := records } } : State).grantOwed s.owed := by
    rw [State.dropRecord, tail]
  rw [oldest, List.length_cons] at mark owes
  obtain owed | ⟨h, rest, owed⟩ : s.owed = [] ∨ ∃ h rest, s.owed = h :: rest := by cases s.owed <;> simp
  · exact .inl ⟨.inl owed, dropped.trans (congrArg _ owed)⟩
  · by_cases full : Config.ordinaryLimit ≤ records.length
    · exact .inl ⟨.inr full, dropped.trans (State.grantOwed_full full _)⟩
    · have occupied := owes (by rw [owed]; simp)
      have last : records.length + 1 = Config.ordinaryLimit := by omega
      have same : max s.queue.mark (records.length + 1) = s.queue.mark := by omega
      have granted := State.grantOwed_last (s := { s with queue := { s.queue with records := records } }) (h := h) (rest := rest) last
      refine .inr ⟨h, rest, owed, last, (dropped.trans ((congrArg _ owed).trans granted)).trans ?_⟩
      dsimp only
      rw [same]
      have free := State.becomeFree_queue_router { s with owed := rest } h { s.queue with records := records } s.router
      rw [show ({ ({ s with queue := { s.queue with records := records } } : State) with owed := rest } : State) =
        { ({ s with owed := rest } : State) with queue := { s.queue with records := records }, router := s.router } from rfl, free]
      rfl

/-- A drop keeps the books and the queue in order. -/
theorem State.Books.dropRecord (books : s.Books) (law : s.QueueLaw) (occupied : s.queue.records ≠ []) :
    s.dropRecord.1.Books ∧ s.dropRecord.1.QueueLaw := by
  obtain ⟨r, records, oldest⟩ := List.exists_cons_of_ne_nil occupied
  have limit : Config.ordinaryLimit = 511 := rfl
  obtain ⟨stays, dropped⟩ | ⟨h, rest, owed, last, dropped⟩ := State.dropRecord_cases law oldest
  · obtain ⟨mark, most, _, _⟩ := law
    rw [oldest, List.length_cons] at mark
    rw [dropped]
    refine ⟨books.congr rfl rfl rfl rfl, ?_, most, ?_, ?_⟩ <;> dsimp only
    · omega
    · omega
    · exact fun owing => stays.resolve_left owing
  · obtain ⟨mark, most, _, _⟩ := law
    rw [oldest, List.length_cons] at mark
    have closing : (s.session h).state = .closing := (books.owes h).mp (by rw [owed]; exact List.mem_cons_self)
    have freed := books.becomeFree (h := h) (by rw [closing]; simp) rest (by rw [owed, List.erase_cons_head])
    rw [dropped]
    refine ⟨freed.congr rfl rfl rfl rfl, ?_, most, ?_, ?_⟩ <;>
      simp only [State.slotGranted, List.length_append, List.length_singleton]
    · omega
    · omega
    · omega

end Grant

/-! ### The commands -/

theorem exec_dropRecord {s : State} (running : s.power.supervisor = .running) (some_ : s.queue.records ≠ []) :
    exec (.dropRecord .purser) s = .next (s.dropRecord.1.withFrame .purser
      (.answered .ok (beBytes 2 s.dropRecord.1.queue.records.length ++ beBytes 1 s.dropRecord.2))) := by
  change execDropRecord .purser s = _
  rw [execDropRecord, State.command_eq running (by simp)]
  dsimp only
  rw [if_neg (by simpa using some_)]

/-- Settles O44. -/
theorem queueReadDroppedAndMarked : Obligations.QueueReadDroppedAndMarked := by
  intro s running
  refine ⟨fun empty => ⟨?_, ?_⟩, fun r rest oldest => ⟨?_, fun stays => ?_, fun h owed lawful owing room => ?_⟩, ?_, ?_, ?_⟩
  · change execReadRecord .purser s = _
    rw [execReadRecord, State.command_eq running (by simp), empty]
    rfl
  · change execDropRecord .purser s = _
    rw [execDropRecord, State.command_eq running (by simp), empty]
    rfl
  · change execReadRecord .purser s = _
    rw [execReadRecord, State.command_eq running (by simp), oldest]
  · have dropped : s.dropRecord = ({ s with queue := { s.queue with records := rest } }, 0) := by
      rw [State.dropRecord, oldest]
      obtain none_owed | full := stays
      · rw [none_owed]
        rfl
      · exact State.grantOwed_full full _
    rw [exec_dropRecord running (by simp [oldest]), dropped, beBytes_one]
    rfl
  · obtain ⟨_, _, _, _, _, _, _, _, _, _, _, _, _, _, _, _, queue, _⟩ := lawful
    obtain ⟨none_owed | full, _⟩ | ⟨h', owed', owing', last, dropped⟩ := State.dropRecord_cases queue oldest
    · simp [none_owed] at owing
    · omega
    · obtain ⟨rfl, rfl⟩ : h' = h ∧ owed' = owed := by simpa [owing] using owing'.symm
      have limit : Config.ordinaryLimit = 511 := rfl
      obtain ⟨_, _, _, framed⟩ := State.becomeFree_frame { s with owed := owed' } h'
      refine ⟨s.slotGranted h' owed' rest, (exec_dropRecord running (by simp [oldest])).trans ?_, rfl, rfl, ?_, ?_, ?_, ?_, ?_⟩
      · rw [dropped]
        have length : (rest ++ [s.closeRecord ((s.session h').closeReason.getD .purser) h']).length = 511 := by
          rw [List.length_append, List.length_singleton]
          omega
        change Host.Outcome.next (State.withFrame _ _ (.answered .ok (beBytes 2 (List.length _) ++ beBytes 1 1))) = _
        rw [State.slotGranted, length]
        rfl
      · exact (State.becomeFree_session _ h' h').trans (if_pos rfl)
      · exact fun k other => (State.becomeFree_session _ h' k).trans (if_neg other)
      · exact State.becomeFree_account _ h'
      · exact State.becomeFree_agreement _ h'
      · rw [State.slotGranted, framed]
  · change execReadQueueMark .purser s = _
    rw [execReadQueueMark, State.command_eq running (by simp)]
  · rintro time opening notSet h account plan part shortfall data voice x agreement reason segments who tail rfl rfl
    have lead : maskBit notSet 0 ||| maskBit false 1 = (if notSet then 1 else 0 : Byte)
        ∧ maskBit notSet 0 ||| maskBit true 1 = (if notSet then 3 else 2 : Byte) := by cases notSet <;> decide
    have why : beBytes 1 reason.code = [match reason with | .released => 1 | .lapsed => 2 | .coverageEnd => 3 | .purser => 4] := by
      cases reason <;> decide
    constructor
    · simp only [ChargeRecord.bytes, ChargeRecord.leadBytes, Who.bytes, lead, why, optByte_eq, beBytes_one, List.append_assoc]
      rfl
    · simp only [ChargeRecord.bytes, ChargeRecord.leadBytes, Who.bytes, lead, optByte_eq, beBytes_one, List.append_assoc]
      rfl
  · intro time notSet cuts lost charge
    have lead : maskBit notSet 0 ||| maskBit false 1 = (if notSet then 1 else 0 : Byte) := by cases notSet <;> decide
    simp only [ChargeRecord.bytes, ChargeRecord.leadBytes, lead, beBytes_one, List.append_assoc]
    rfl

end Sys2Proof.Machine

/-! SUPPORT. Changes of the sessions and accounts that leave everyone where they are (1, 2.8, 9.1): what a charge, a flag or a count
keeps of the books, the queue and the reasons. -/

namespace Sys2Proof.Machine

/-! ### One session -/

/-- `y` may take the place of `x` and is in the same hands: draining exactly when `x` is. -/
structure Session.Stays (x y : Session) : Prop extends x.Follows y where
  draining : y.state = .draining ↔ x.state = .draining

/-- The reasons of a served session as a zone gives them (R22, R28, R33, R36, R39). -/
structure State.Suits (s : State) (zone : Option Nat) (x : Session) : Prop where
  hold : x.reasons.hold = x.flags.hold
  roaming : ∀ i ∈ x.agreement, x.reasons.credit = false ∧ x.reasons.agreement = ((s.agreement i).state == .suspended)
    ∧ ∀ z ∈ zone, x.reasons.zone = !zoneIn z (s.agreement i).zones
  onboard : x.agreement = none → x.reasons.credit = ((s.account x.account).value == 0) ∧ x.reasons.agreement = false
    ∧ x.reasons.zone = false

/-- Every served session has the reasons that a zone gives. -/
def State.Reasoned (s : State) (zone : Option Nat) : Prop := ∀ h, (s.session h).served = true → s.Suits zone (s.session h)

section Session

variable {x y z : Session}

theorem Session.Stays.refl (x : Session) : x.Stays x := ⟨.refl x, Iff.rfl⟩
theorem Session.Stays.trans (first : x.Stays y) (second : y.Stays z) : x.Stays z :=
  ⟨first.toFollows.trans second.toFollows, second.draining.trans first.draining⟩

theorem Session.Stays.live (stays : x.Stays y) : y.live = x.live := by
  have split : ∀ w : Session, w.live = (w.served && !decide (w.state = .draining)) := fun w => by
    unfold Session.live Session.served
    cases w.state <;> rfl
  rw [split, split, stays.toFollows.served, decide_eq_decide.mpr stays.draining]

/-- A served session judged by another reason set stays. -/
theorem Session.judged_stays (served : x.served = true) (r : Reasons) : x.Stays (x.judged r) := by
  rw [Session.served_iff] at served
  have notFree : x.state ≠ .free := by obtain state | state | state := served <;> simp [state]
  have served' : (x.judged r).state = .draining ∧ x.state = .draining
      ∨ ((x.judged r).state = .active ∧ r = Reasons.none ∨ (x.judged r).state = .suspended ∧ r ≠ Reasons.none)
        ∧ (x.state = .active ∨ x.state = .suspended) := by
    by_cases empty : r = Reasons.none <;> obtain state | state | state := served <;> simp [Session.judged, state, empty]
  have states : (x.judged r).state ≠ .free ∧ (x.judged r).state ≠ .closing ∧ x.state ≠ .free ∧ x.state ≠ .closing := by
    obtain ⟨after, before⟩ | ⟨⟨after, -⟩ | ⟨after, -⟩, before | before⟩ := served' <;> simp [after, before]
  refine ⟨⟨rfl, rfl, rfl, by simp [states], by simp [states], fun ok => .inr ?_⟩, ?_⟩
  · obtain ⟨_, _, _, closing, basis, has, lapse, part, plan, data, voice, shortfall, some_, most⟩ := ok.lawful notFree
    refine ⟨states.1, fun active => ?_, fun suspended => ?_, ?_, basis, has, lapse, part, plan, data, voice, shortfall, some_, most⟩
    · obtain ⟨after, -⟩ | ⟨⟨-, empty⟩ | ⟨after, -⟩, -⟩ := served'
      · simp [after] at active
      · exact empty
      · simp [after] at active
    · obtain ⟨after, -⟩ | ⟨⟨after, -⟩ | ⟨-, full⟩, -⟩ := served'
      · simp [after] at suspended
      · simp [after] at suspended
      · exact full
    · exact closing.trans (by simp [states])
  · obtain ⟨after, before⟩ | ⟨⟨after, -⟩ | ⟨after, -⟩, before | before⟩ := served' <;> simp [after, before]

/-- A reason set changed in ways the account, the agreement and the zone ask for. -/
theorem State.Suits.judged {s : State} {zone : Option Nat} {r : Reasons} (hold : r.hold = x.flags.hold)
    (roaming : ∀ i ∈ x.agreement, r.credit = false ∧ r.agreement = ((s.agreement i).state == .suspended)
      ∧ ∀ z ∈ zone, r.zone = !zoneIn z (s.agreement i).zones)
    (onboard : x.agreement = none → r.credit = ((s.account x.account).value == 0) ∧ r.agreement = false ∧ r.zone = false) :
    s.Suits zone (x.judged r) := ⟨hold, roaming, onboard⟩

/-- A session that keeps its reasons, its flags and its party suits what it suited. -/
theorem State.Suits.congr {s t : State} {zone : Option Nat} (suits : s.Suits zone x) (reasons : y.reasons = x.reasons)
    (hold : y.flags.hold = x.flags.hold) (agreement : y.agreement = x.agreement) (account : y.account = x.account)
    (agreements : ∀ i ∈ x.agreement, t.agreement i = s.agreement i)
    (value : x.agreement = none → ((t.account x.account).value == 0) = ((s.account x.account).value == 0)) : t.Suits zone y := by
  obtain ⟨held, roams, pays⟩ := suits
  refine ⟨by rw [reasons, hold, held], fun i under => ?_, fun alone => ?_⟩
  · rw [agreement] at under
    rw [reasons, agreements i under]
    exact roams i under
  · rw [agreement] at alone
    rw [reasons, account, value alone]
    exact pays alone

end Session

/-! ### Changes that leave everyone where they are -/

/-- `t` is `s` after charges, flags, counts and reasons have changed in some sessions and values in some accounts. -/
structure State.Bills (s t : State) : Prop where
  frame : t = { s with sessions := t.sessions, accounts := t.accounts, queue := t.queue, router := t.router }
  tells : s.Tells t
  books : s.Books → t.Books
  queue : s.QueueLaw → t.QueueLaw
  stays : s.Books → ∀ h, (s.session h).Stays (t.session h)
  reasoned : s.Books → ∀ zone, s.Reasoned zone → t.Reasoned zone

section Bills

variable {s t u : State} {h : Nat}

theorem State.Bills.refl (s : State) : s.Bills s := ⟨rfl, .refl s, id, id, fun _ _ => .refl _, fun _ _ => id⟩

theorem State.Bills.trans (first : s.Bills u) (second : u.Bills t) : s.Bills t where
  frame := by rw [second.frame, first.frame]
  tells := first.tells.trans second.tells
  books := second.books ∘ first.books
  queue := second.queue ∘ first.queue
  stays := fun books h => (first.stays books h).trans (second.stays (first.books books) h)
  reasoned := fun books zone => second.reasoned (first.books books) zone ∘ first.reasoned books zone

theorem State.Bills.raise (s : State) (k : EventKind) (d : Nat) : s.Bills (s.raise k d) :=
  ⟨rfl, .raise (.refl s) k d, fun books => books.congr rfl rfl rfl rfl, id, fun _ _ => .refl _, fun _ _ reasoned h served =>
    (reasoned h served).congr rfl rfl rfl rfl (fun _ _ => rfl) fun _ => rfl⟩

/-- A served session whose figures change, its reasons, its flag HOLD and its party kept. -/
theorem State.Bills.setSession {y : Session} (notFree : (s.session h).state ≠ .free) (stays : (s.session h).Stays y)
    (reasons : y.reasons = (s.session h).reasons) (hold : y.flags.hold = (s.session h).flags.hold) : s.Bills (s.setSession h y) where
  frame := rfl
  tells := .of_eq rfl
  books := fun books => books.setSession notFree stays.toFollows
  queue := id
  stays := fun _ k => by
    rw [State.setSession_session]
    split
    · next here => rwa [here]
    · exact .refl _
  reasoned := fun _ zone reasoned k => by
    rw [State.setSession_session]
    split
    · next here =>
      intro served
      rw [stays.toFollows.served] at served
      exact (reasoned h served).congr reasons hold stays.agreement stays.account (fun _ _ => rfl) fun _ => rfl
    · exact fun served => (reasoned k served).congr rfl rfl rfl rfl (fun _ _ => rfl) fun _ => rfl

/-- An append where there is room. -/
theorem State.Bills.append (room : s.queue.records.length < Config.ordinaryLimit) (r : ChargeRecord) : s.Bills (s.appendRecord r) where
  frame := by rw [State.appendRecord_eq]
  tells := ⟨_, by rw [State.appendRecord_eq]⟩
  books := fun books => by
    rw [State.appendRecord_eq]
    exact books.congr rfl rfl rfl rfl
  queue := fun law => law.append room r (by rw [State.appendRecord_eq]) rfl
  stays := fun _ k => by
    rw [State.appendRecord_session]
    exact .refl _
  reasoned := fun _ zone reasoned k => by
    rw [State.appendRecord_session]
    exact fun served => (reasoned k served).congr rfl rfl rfl rfl (fun _ _ => State.appendRecord_agreement _ _ _) fun _ => by
      rw [State.appendRecord_account]

end Bills

end Sys2Proof.Machine

/-! SUPPORT. The debit of an account and the addition to a session's segments (2.8, 9.1): changes that leave everyone where they are. -/

namespace Sys2Proof.Machine

/-! ### Accounts -/

section Account

variable {s w : State} {a : Nat} {new : Account}

/-- The books after one account's figures are rewritten, its kind and its count kept. -/
theorem State.Books.setAccount (books : s.Books) (inside : a < Config.accountCount) (ok : new.Ok) (count : new.count = (s.account a).count)
    (kind : new.kind = (s.account a).kind) (written : w = { s with accounts := s.accounts.set Account.closed a new, router := w.router }) :
    w.Books := by
  have account : ∀ b, w.account b = if b = a then new else s.account b := fun b => by
    rw [written]
    exact State.setAccount_account s a b new
  refine books.follow (by rw [written]; exact books.sessions) (fun h => ?_) (by rw [written]) (by rw [written])
    (by rw [written]; exact Table.wf_set books.accounts inside new) fun b => ?_
  · rw [written]
    exact .refl _
  · rw [account]
    split
    · next here => exact ⟨ok, here ▸ count, here ▸ kind⟩
    · exact ⟨books.accountOk b, rfl, rfl⟩

/-- A value rewritten that is zero where it was zero, or of an account that no onboard session can be on. -/
theorem State.Bills.setAccount (inside : s.Books → a < Config.accountCount) (ok : s.Books → new.Ok)
    (count : new.count = (s.account a).count) (kind : new.kind = (s.account a).kind)
    (zero : (s.account a).kind = .prepaid → (new.value == 0) = ((s.account a).value == 0)) (tells : s.Tells w)
    (written : w = { s with accounts := s.accounts.set Account.closed a new, router := w.router }) : s.Bills w where
  frame := by rw [written]
  tells := tells
  books := fun books => books.setAccount (inside books) (ok books) count kind written
  queue := fun law => by rwa [written]
  stays := fun _ h => by
    rw [written]
    exact .refl _
  reasoned := fun books zone reasoned h served => by
    have session : w.session h = s.session h := by rw [written] <;> rfl
    have account : ∀ b, w.account b = if b = a then new else s.account b := fun b => by
      rw [written]
      exact State.setAccount_account s a b new
    rw [session] at served ⊢
    refine (reasoned h served).congr rfl rfl rfl rfl (fun i _ => by rw [written] <;> rfl) fun alone => ?_
    have pays := books.pays h (Session.notFree_iff.mp (Session.notFree_of_served served)) alone
    rw [account]
    split
    · next here => rw [zero (here ▸ pays), here]
    · rfl

/-- The value of a PREPAID account rewritten, and CREDIT in its sessions exactly at zero (R39, R41). -/
theorem State.Bills.creditEffect (inside : s.Books → a < Config.accountCount) (ok : s.Books → new.Ok)
    (count : new.count = (s.account a).count) (kind : new.kind = (s.account a).kind) (prepaid : (s.account a).kind = .prepaid)
    (tells : s.Tells w) (written : w = { s with accounts := s.accounts.set Account.closed a new, router := w.router })
    (canonical : s.sessions.wf Session.free Config.sessionCount = true) : s.Bills (w.creditEffect a new.value) := by
  have session : ∀ h, w.session h = s.session h := fun h => by rw [written] <;> rfl
  have account : ∀ b, w.account b = if b = a then new else s.account b := fun b => by
    rw [written]
    exact State.setAccount_account s a b new
  have effect := State.rewrites_creditEffect (s := w) (by rw [written]; exact canonical) a new.value
  have stays : ∀ h, (s.session h).Stays ((w.creditEffect a new.value).session h) := fun h => by
    rw [effect.session, session]
    split
    · next judged => exact Session.judged_stays judged.1 _
    · exact .refl _
  refine ⟨?_, tells.trans ⟨_, effect.router⟩, fun books => ?_, fun law => ?_, fun _ => stays, fun books zone reasoned h served => ?_⟩
  · rw [effect.frame, written]
  · refine (books.setAccount (inside books) (ok books) count kind written).rewrite effect fun h => ?_
    rw [← effect.session, session]
    exact (stays h).toFollows
  · rw [effect.frame, written]
    exact law
  · rw [(stays h).toFollows.served] at served
    have notFree := Session.notFree_iff.mp (Session.notFree_of_served served)
    have sameAccount : ∀ b, (w.creditEffect a new.value).account b = w.account b := fun b => by rw [effect.frame] <;> rfl
    have sameAgreement : ∀ i, (w.creditEffect a new.value).agreement i = s.agreement i := fun i => by rw [effect.frame, written] <;> rfl
    have suits := reasoned h served
    rw [effect.session, session]
    split
    · next judged =>
      have alone : (s.session h).agreement = none := by
        by_contra roams
        obtain ⟨i, under⟩ := Option.ne_none_iff_exists'.mp roams
        obtain ⟨loaded, same⟩ := books.roams h i under
        have settles := books.settles i loaded
        rw [same, judged.2, prepaid] at settles
        cases settles
      refine State.Suits.judged suits.hold (fun i under => by rw [alone] at under; cases under) fun _ => ?_
      rw [sameAccount, account, judged.2, if_pos rfl]
      exact ⟨rfl, (suits.onboard alone).2⟩
    · next other =>
      refine suits.congr rfl rfl rfl rfl (fun i _ => sameAgreement i) fun _ => ?_
      rw [sameAccount, account, if_neg fun here => other ⟨served, here⟩]

end Account

/-! ### The debit (2.8) -/

/-- A debit of a session's account leaves everyone where they are. -/
theorem State.Bills.debit {s : State} (h charge : Nat) (canonical : s.sessions.wf Session.free Config.sessionCount = true) :
    s.Bills (s.debit (s.session h).account charge).1 := by
  have inside : s.Books → (s.session h).account < Config.accountCount := fun books => (books.named h).1
  generalize (s.session h).account = a at inside
  by_cases charged : charge = 0
  · rw [charged, State.debit_zero]
    exact .refl s
  cases kind : (s.account a).kind with
  | prepaid =>
    rw [State.debit_prepaid kind charged]
    dsimp only
    generalize leftIs : (s.account a).value - min charge (s.account a).value = left
    have ok : s.Books → Account.Ok { s.account a with value := left } := fun books => by
      obtain ⟨value, threshold, plan, other, closed⟩ := books.accountOk a
      exact ⟨by dsimp only; omega, threshold, plan, other, fun isClosed => by simp [kind] at isClosed⟩
    have tells : s.Tells (s.fallen a left) := ⟨_, rfl⟩
    split
    · next zero =>
      subst zero
      exact State.Bills.creditEffect (new := { s.account a with value := 0 }) inside ok rfl rfl kind tells rfl canonical
    · next some_left =>
      refine State.Bills.setAccount (new := { s.account a with value := left }) inside ok rfl rfl (fun _ => ?_) tells rfl
      have before : (s.account a).value ≠ 0 := by omega
      simp [some_left, before]
  | settlement =>
    rw [State.debit_settlement kind charged]
    dsimp only
    have ok : s.Books → Account.Ok { s.account a with
        value := (s.account a).value + min charge (Config.maxValue - (s.account a).value) } := fun books => by
      obtain ⟨value, threshold, plan, other, closed⟩ := books.accountOk a
      exact ⟨by dsimp only; omega, threshold, plan, other, fun isClosed => by simp [kind] at isClosed⟩
    have set := State.Bills.setAccount (w := s.setAccount a { s.account a with
      value := (s.account a).value + min charge (Config.maxValue - (s.account a).value) }) inside ok rfl rfl (by simp [kind]) (.of_eq rfl) rfl
    split
    · exact set.trans (.raise _ _ _)
    · exact set
  | closed =>
    rw [State.debit_closed kind charged]
    exact .refl s

/-! ### Segments (9.1) -/

section Segments

variable {s : State} {h d q m charge : Nat} {x : Session} {front : List Segment} {g : Segment}

theorem State.addToSegments_same (own : s.session h = x) (segments : x.segments = front ++ [g]) (key : g.key = s.rating.inForce) :
    s.addToSegments h d q m charge = s.setSession h { x with segments := front ++ [g.add d q m charge] } := by
  rw [State.addToSegments, own]
  simp [segments, key]

theorem State.addToSegments_opens (own : s.session h = x) (segments : x.segments = front ++ [g]) (key : g.key ≠ s.rating.inForce)
    (short : x.segments.length < 8) : s.addToSegments h d q m charge =
      s.setSession h { x with segments := x.segments ++ [⟨s.rating.inForce, false, d, q, m, charge⟩] } := by
  have limit : x.segments.length < Config.segmentLimit := short
  rw [State.addToSegments, own]
  rw [segments] at limit ⊢
  simp only [List.getLast?_append, List.getLast?_singleton, Option.some_or, if_neg key, if_pos limit]
  rfl

theorem State.addToSegments_interim (own : s.session h = x) (segments : x.segments = front ++ [g]) (key : g.key ≠ s.rating.inForce)
    (full : 8 ≤ x.segments.length) (room : s.queue.records.length < Config.ordinaryLimit) : s.addToSegments h d q m charge =
      (s.appendRecord (s.stamp (.interim (x.who h) (min 255 (x.part + 1)) x.segments))).setSession h { x with
        part := min 255 (x.part + 1), segments := [⟨s.rating.inForce, false, d, q, m, charge⟩] } := by
  have limit : ¬ x.segments.length < Config.segmentLimit := Nat.not_lt.mpr full
  rw [State.addToSegments, own]
  rw [segments] at limit ⊢
  simp only [List.getLast?_append, List.getLast?_singleton, Option.some_or, if_neg key, if_neg limit, State.queueHasRoom_iff.mpr room, if_true]
  rfl

theorem State.addToSegments_mixed (own : s.session h = x) (segments : x.segments = front ++ [g]) (key : g.key ≠ s.rating.inForce)
    (full : 8 ≤ x.segments.length) (noRoom : Config.ordinaryLimit ≤ s.queue.records.length) : s.addToSegments h d q m charge =
      (s.setSession h { x with segments := front ++ [{ g.add d q m charge with mixed := true }] }).raise .segmentMixed h := by
  have limit : ¬ x.segments.length < Config.segmentLimit := Nat.not_lt.mpr full
  have crowded : s.queueHasRoom = false := by
    rw [Bool.eq_false_iff, ne_eq, State.queueHasRoom_iff]
    omega
  rw [State.addToSegments, own]
  rw [segments] at limit ⊢
  simp only [List.getLast?_append, List.getLast?_singleton, Option.some_or, if_neg key, if_neg limit, crowded, Bool.false_eq_true, if_false,
    List.dropLast_concat]

/-- Settles O41. -/
theorem segmentAdditionKeysByContext : Obligations.SegmentAdditionKeysByContext := by
  rintro s h d q m charge x front g added fresh own segments rfl rfl
  refine ⟨fun key => State.addToSegments_same own segments key, fun key short => State.addToSegments_opens own segments key short,
    fun key full room => ?_, fun key full noRoom => State.addToSegments_mixed own segments key full noRoom⟩
  have run := State.appendRecord_eq s (s.stamp (.interim (x.who h) (min 255 (x.part + 1)) x.segments))
  refine ⟨_, State.addToSegments_interim own segments key full room, by rw [run] <;> rfl, by rw [run], fun empty => ?_, fun almost => ?_, by rw [run]⟩
  · exact State.latched_of_occurs (d := 0) (by rw [run]) (by simp [Queue.appendTold, empty])
  · exact State.latched_of_occurs (d := 0) (by rw [run]) (by simp [Queue.appendTold, almost])

end Segments

end Sys2Proof.Machine

/-! PROOF. Usage and release (8.4 to 8.7): O13 and O40. -/

namespace Sys2Proof.Machine

/-! ### Charges leave everyone where they are -/

theorem Session.Stays.of_lawful {x y : Session} (notFree : x.state ≠ .free) (identity : y.identity = x.identity)
    (agreement : y.agreement = x.agreement) (account : y.account = x.account) (state : y.state = x.state)
    (lawful : x.Lawful → y.Lawful) : x.Stays y :=
  ⟨⟨identity, agreement, account, by rw [state], by rw [state], fun ok => .inr (lawful (ok.lawful notFree))⟩, by rw [state]⟩

section Charge

variable {s : State} {h : Nat}

theorem State.Bills.addToSegments (notFree : (s.session h).state ≠ .free) (d q m charge : Nat) :
    s.Bills (s.addToSegments h d q m charge) := by
  have itemized (w : State) (same : w.session h = s.session h) (part : Nat) (segments : List Segment)
      (bounded : (s.session h).part ≤ 255 → part ≤ 255)
      (length : 1 ≤ (s.session h).segments.length → (s.session h).segments.length ≤ Config.segmentLimit →
        1 ≤ segments.length ∧ segments.length ≤ Config.segmentLimit) :
      w.Bills (w.setSession h { s.session h with part := part, segments := segments }) := by
    have stays : (s.session h).Stays { s.session h with part := part, segments := segments } := by
      refine .of_lawful notFree rfl rfl rfl rfl fun lawful => ?_
      obtain ⟨a, b, c, e, basis, has, lapse, parted, plan, data, voice, shortfall, some_, most⟩ := lawful
      exact ⟨a, b, c, e, basis, has, lapse, bounded parted, plan, data, voice, shortfall, length some_ most⟩
    exact .setSession (by rwa [same]) (by rwa [same]) (by rw [same]) (by rw [same])
  have limit : Config.segmentLimit = 8 := rfl
  generalize own : s.session h = x at *
  obtain empty | ⟨front, g, segments⟩ : x.segments = [] ∨ ∃ front g, x.segments = front ++ [g] :=
    (List.eq_nil_or_concat x.segments).imp_right fun ⟨front, g, is⟩ => ⟨front, g, by simpa using is⟩
  · have opens : s.addToSegments h d q m charge = s.setSession h { x with segments := [Segment.opened s.rating.inForce d q m charge] } := by
      rw [State.addToSegments, own]
      simp [empty]
    rw [opens]
    exact itemized s own x.part _ id fun _ _ => by simp [limit]
  · have length : x.segments.length = front.length + 1 := by rw [segments, List.length_append, List.length_singleton]
    by_cases key : g.key = s.rating.inForce
    · rw [State.addToSegments_same own segments key]
      exact itemized s own x.part _ id fun _ most => by simp; omega
    · by_cases short : x.segments.length < 8
      · rw [State.addToSegments_opens own segments key short]
        exact itemized s own x.part _ id fun _ _ => by simp; omega
      · by_cases room : s.queue.records.length < Config.ordinaryLimit
        · rw [State.addToSegments_interim own segments key (Nat.not_lt.mp short) room]
          exact (State.Bills.append room _).trans (itemized _ (by rw [State.appendRecord_session, own]) _ _ (fun _ => by omega)
            fun _ _ => by simp [limit])
        · rw [State.addToSegments_mixed own segments key (Nat.not_lt.mp short) (Nat.not_lt.mp room)]
          exact (itemized s own x.part _ id fun _ most => by simp; omega).trans (.raise _ _ _)

/-- A charge handed on leaves everyone where they are (R151, R152). -/
theorem State.Bills.takeCharge (books : s.Books) (notFree : (s.session h).state ≠ .free) (d q m charge : Nat) :
    s.Bills (s.takeCharge h d q m charge).1 := by
  have debited := State.Bills.debit h charge books.sessions
  rw [State.takeCharge]
  dsimp only
  generalize (s.debit (s.session h).account charge).2.2 = short at *
  generalize (s.debit (s.session h).account charge).1 = w at *
  have free := (debited.stays books h).free
  have owed : w.Bills (w.setSession h { w.session h with shortfall := min Config.maxValue ((w.session h).shortfall + short) }) := by
    refine State.Bills.setSession (by rwa [ne_eq, free]) (.of_lawful (by rwa [ne_eq, free]) rfl rfl rfl rfl fun lawful => ?_) rfl rfl
    obtain ⟨a, b, c, e, basis, has, lapse, parted, plan, data, voice, _, some_, most⟩ := lawful
    exact ⟨a, b, c, e, basis, has, lapse, parted, plan, data, voice, min_le_left _ _, some_, most⟩
  refine (debited.trans owed).trans (State.Bills.addToSegments ?_ d q m charge)
  rw [State.setSession_session_same]
  rwa [ne_eq, free]

theorem State.Bills.refresh (notFree : (s.session h).state ≠ .free) : s.Bills (s.refresh h) := by
  refine State.Bills.setSession notFree (.of_lawful notFree rfl rfl rfl rfl fun lawful => ?_) rfl rfl
  obtain ⟨a, b, c, e, basis, has, _, rest⟩ := lawful
  exact ⟨a, b, c, e, basis, has, Nat.zero_le _, rest⟩

/-- The price rows have increments from 1 to 1,024 and from 1 to 60 (R143). -/
theorem State.Figures.increments (figures : s.Figures) (plan zoneClass : Nat) :
    1 ≤ (s.priceRow plan zoneClass).dataIncrement ∧ (s.priceRow plan zoneClass).dataIncrement ≤ 1024
      ∧ 1 ≤ (s.priceRow plan zoneClass).voiceIncrement ∧ (s.priceRow plan zoneClass).voiceIncrement ≤ 60 := by
  unfold State.priceRow
  by_cases cold : s.tariff.rows.get PriceRow.cold (rowNumber plan zoneClass) = PriceRow.cold
  · rw [cold]
    decide
  · obtain ⟨_, a, b, _, c, d, _⟩ := (Table.forall_entries figures.rows).mp figures.row _ cold
    exact ⟨a, b, c, d⟩

theorem State.Bills.rateReport (books : s.Books) (figures : s.Figures) (notFree : (s.session h).state ≠ .free) (d q m : Nat) :
    s.Bills (s.rateReport h d q m).state := by
  obtain ⟨dataPos, dataLe, voicePos, voiceLe⟩ := figures.increments (s.session h).plan s.rating.inForce.zoneClass
  rw [State.rateReport]
  dsimp only
  have left : s.Bills (s.setSession h { s.session h with
      dataResidue := ((s.session h).dataResidue + d) % (s.rowInForce (s.session h).plan).dataIncrement
      voiceResidue := ((s.session h).voiceResidue + q) % (s.rowInForce (s.session h).plan).voiceIncrement }) := by
    refine State.Bills.setSession notFree (.of_lawful notFree rfl rfl rfl rfl fun lawful => ?_) rfl rfl
    obtain ⟨a, b, c, e, basis, has, lapse, parted, plan, _, _, rest⟩ := lawful
    have data := Nat.mod_lt ((s.session h).dataResidue + d) dataPos
    have voice := Nat.mod_lt ((s.session h).voiceResidue + q) voicePos
    exact ⟨a, b, c, e, basis, has, lapse, parted, plan, by unfold State.rowInForce; dsimp only; omega,
      by unfold State.rowInForce; dsimp only; omega, rest⟩
  generalize min (s.reportSum (s.session h) d q m) Config.maxCharge = charge
  split
  · have told := left.trans (.raise _ .chargeClamped h)
    exact told.trans (.takeCharge (told.books books) (by simpa using notFree) _ _ _ _)
  · exact left.trans (.takeCharge (left.books books) (by simpa using notFree) _ _ _ _)

theorem State.Bills.roundData (books : s.Books) (notFree : (s.session h).state ≠ .free) : s.Bills (s.roundData h) := by
  rw [State.roundData]
  dsimp only
  split
  · exact .refl s
  · have taken := State.Bills.takeCharge books notFree 0 0 0
      (s.serviceCharge (s.session h).plan (s.rowInForce (s.session h).plan).dataPrice)
    have notFree' := notFree
    rw [ne_eq, ← (taken.stays books h).free] at notFree'
    refine taken.trans (State.Bills.setSession notFree' (.of_lawful notFree' rfl rfl rfl rfl fun lawful => ?_) rfl rfl)
    obtain ⟨a, b, c, e, basis, has, lapse, parted, plan, _, rest⟩ := lawful
    exact ⟨a, b, c, e, basis, has, lapse, parted, plan, Nat.zero_le _, rest⟩

theorem State.Bills.roundVoice (books : s.Books) (notFree : (s.session h).state ≠ .free) : s.Bills (s.roundVoice h) := by
  rw [State.roundVoice]
  dsimp only
  split
  · exact .refl s
  · have taken := State.Bills.takeCharge books notFree 0 0 0
      (s.serviceCharge (s.session h).plan (s.rowInForce (s.session h).plan).voicePrice)
    have notFree' := notFree
    rw [ne_eq, ← (taken.stays books h).free] at notFree'
    refine taken.trans (State.Bills.setSession notFree' (.of_lawful notFree' rfl rfl rfl rfl fun lawful => ?_) rfl rfl)
    obtain ⟨a, b, c, e, basis, has, lapse, parted, plan, data, _, rest⟩ := lawful
    exact ⟨a, b, c, e, basis, has, lapse, parted, plan, data, Nat.zero_le _, rest⟩

end Charge

/-! ### The stages of a report (R147) -/

/-- The price of one service at the context in force (R149). -/
def State.price (s : State) (plan base : Nat) : Nat :=
  if s.rating.inForce.period = .offpeak then
    ((base * (100 + s.tariff.surcharges.get s.rating.inForce.costClass) + 50) / 100
      * (100 - s.tariff.discounts.get plan) + 50) / 100
  else (base * (100 + s.tariff.surcharges.get s.rating.inForce.costClass) + 50) / 100

theorem State.serviceCharge_eq (s : State) (plan base : Nat) : s.serviceCharge plan base = s.price plan base := by
  unfold State.serviceCharge State.price
  cases s.rating.inForce.period <;> rfl

section Stages

variable {s u v : State} {h d q m sum charge : Nat} {x : Session} {row : PriceRow}

/-- A report of a session, its lapse count cleared, rated in its stages. -/
theorem State.rateReport_refresh (own : s.session h = x) (rowIs : row = s.priceRow x.plan s.rating.inForce.zoneClass)
    (sumIs : sum = s.price x.plan ((x.dataResidue + d) / row.dataIncrement * row.dataPrice)
      + s.price x.plan ((x.voiceResidue + q) / row.voiceIncrement * row.voicePrice) + s.price x.plan (m * row.messagePrice))
    (chargeIs : charge = min sum 4294967295)
    (uIs : u = s.setSession h { x with
      lapseCount := 0, dataResidue := (x.dataResidue + d) % row.dataIncrement, voiceResidue := (x.voiceResidue + q) % row.voiceIncrement })
    (vIs : v = if 4294967295 < sum then u.raise .chargeClamped h else u) :
    (s.refresh h).rateReport h d q m =
      ⟨(v.takeCharge h d q m charge).1, charge, (v.takeCharge h d q m charge).2.1, (v.takeCharge h d q m charge).2.2⟩ := by
  have refreshed : (s.refresh h).session h = { x with lapseCount := 0 } := by
    rw [State.refresh, State.setSession_session_same, own]
  have total : (s.refresh h).reportSum { x with lapseCount := 0 } d q m = sum := by
    rw [sumIs, rowIs]
    simp only [State.reportSum, State.serviceCharge_eq]
    rfl
  have written : ∀ y, (s.refresh h).setSession h y = s.setSession h y := fun y => State.setSession_setSession s h _ y
  rw [State.rateReport]
  simp only [refreshed, total, written]
  have same : s.setSession h { x with
      lapseCount := 0
      dataResidue := (x.dataResidue + d) % ((s.refresh h).rowInForce x.plan).dataIncrement
      voiceResidue := (x.voiceResidue + q) % ((s.refresh h).rowInForce x.plan).voiceIncrement } = u := by
    rw [uIs, rowIs]
    rfl
  rw [same]
  have clamps : (if Config.maxCharge < sum then u.raise .chargeClamped h else u) = v := vIs.symm
  rw [clamps, show min sum Config.maxCharge = charge from chargeIs.symm]

/-- The status a report earns (R24, R146). -/
theorem State.reportUsage_status {data voice : Half} {messages : Byte} (own : s.session h = x) (dIs : d = data.toNat)
    (qIs : q = min 3600 voice.toNat) (mIs : m = messages.toNat) : (s.reportUsage h data voice messages).2 =
      if x.flags.dataBar = true ∧ d ≠ 0 ∨ x.flags.voiceBar = true ∧ q ≠ 0 ∨ x.flags.msgBar = true ∧ m ≠ 0 then .barredUsage
      else if 3600 < voice.toNat then .clamped else .ok := by
  subst dIs qIs mIs
  rw [State.reportUsage, own, min_comm 3600]
  refine if_congr ?_ rfl rfl
  simp only [Flags.barred, Config.maxVoice, Bool.or_eq_true, Bool.and_eq_true, bne_iff_ne, or_assoc]

theorem State.reportUsage_rated {data voice : Half} {messages : Byte} (dIs : d = data.toNat)
    (qIs : q = min 3600 voice.toNat) (mIs : m = messages.toNat) :
    (s.reportUsage h data voice messages).1 = (s.refresh h).rateReport h d q m := by
  subst dIs qIs mIs
  rw [min_comm 3600]
  rfl

end Stages

/-! ### What a charge leaves of a session -/

/-- `y` is `x` but for its reasons, with the state they give, and what a charge is booked in. -/
def Session.Billed (x y : Session) : Prop :=
  y = { x with state := y.state, reasons := y.reasons, shortfall := y.shortfall, part := y.part, segments := y.segments }

section Billed

variable {s : State} {x y z : Session}

theorem Session.Billed.refl (x : Session) : x.Billed x := rfl
theorem Session.Billed.trans (first : x.Billed y) (second : y.Billed z) : x.Billed z := by
  unfold Session.Billed at *
  rw [second, first]

theorem Session.changed_billed (add remove : Reasons) : x.Billed (x.changed add remove) := by
  unfold Session.changed Session.judged
  split <;> rfl

theorem State.changeReasonsOf_billed (s : State) (add remove : Reasons) (hs : List Nat) (k : Nat) :
    (s.session k).Billed ((s.changeReasonsOf add remove hs).session k) := by
  unfold State.changeReasonsOf
  induction hs generalizing s with
  | nil => exact .refl _
  | cons h rest ih =>
    refine Session.Billed.trans ?_ (ih (s.changeReasons add remove h))
    rw [(s.rewrites_changeReasons add remove h).session]
    split
    · next here => exact here ▸ Session.changed_billed add remove
    · exact .refl _

theorem State.debit_billed (s : State) (a charge k : Nat) : (s.session k).Billed ((s.debit a charge).1.session k) := by
  by_cases charged : charge = 0
  · rw [charged, State.debit_zero]
    exact .refl _
  cases kind : (s.account a).kind with
  | prepaid =>
    rw [State.debit_prepaid kind charged]
    dsimp only
    split
    · exact State.changeReasonsOf_billed _ _ _ _ k
    · exact .refl _
  | settlement =>
    rw [State.debit_settlement kind charged]
    dsimp only
    split <;> exact .refl _
  | closed =>
    rw [State.debit_closed kind charged]
    exact .refl _

theorem State.setSession_billed {h : Nat} (billed : (s.session h).Billed y) (k : Nat) : (s.session k).Billed ((s.setSession h y).session k) := by
  rw [State.setSession_session]
  split
  · next here => rwa [here]
  · exact .refl _

theorem State.addToSegments_billed (s : State) (h d q m charge k : Nat) :
    (s.session k).Billed ((s.addToSegments h d q m charge).session k) := by
  unfold State.addToSegments
  dsimp only
  split
  · exact State.setSession_billed (by exact rfl) k
  · split
    · exact State.setSession_billed (by exact rfl) k
    · split
      · exact State.setSession_billed (by exact rfl) k
      · split
        · have same := State.appendRecord_session s (s.stamp (.interim ((s.session h).who h) (min 255 ((s.session h).part + 1))
            (s.session h).segments)) k
          rw [← same]
          exact State.setSession_billed (by rw [State.appendRecord_session]; rfl) k
        · exact State.setSession_billed (by exact rfl) k

theorem State.takeCharge_billed (s : State) (h d q m charge k : Nat) :
    (s.session k).Billed ((s.takeCharge h d q m charge).1.session k) := by
  unfold State.takeCharge
  exact ((State.debit_billed s _ charge k).trans (State.setSession_billed (by exact rfl) k)).trans (State.addToSegments_billed _ h d q m charge k)

theorem State.takeCharge_charged (s : State) (h d q m charge : Nat) : s.Charged h d q m charge (s.takeCharge h d q m charge).1 :=
  ⟨_, _, _, rfl, rfl⟩

end Billed

/-- Settles O40. -/
theorem usageIsRatedInStages : Obligations.UsageIsRatedInStages := by
  intro s u v handle data voice messages h d q m sum charge x row price running named inside own served dIs qIs mIs rowIs priceIs sumIs chargeIs
    uIs vIs w taken short debited
  have same : price = s.price x.plan := funext priceIs
  subst named same
  have rated := State.rateReport_refresh own rowIs sumIs chargeIs uIs vIs
  have account : (v.session handle.toNat).account = x.account := by
    rw [vIs, uIs]
    split <;> simp
  have took : v.takeCharge handle.toNat d q m charge = ((w.setSession handle.toNat { w.session handle.toNat with
      shortfall := min Config.maxValue ((w.session handle.toNat).shortfall + short) }).addToSegments handle.toNat d q m charge, taken, short) := by
    rw [State.takeCharge, account, debited]
  refine ⟨_, rfl, ?_⟩
  rw [(serves_usage handle data voice messages).exec running inside (by rw [own, served])]
  dsimp only
  rw [State.reportUsage_status own dIs qIs mIs, State.reportUsage_rated dIs qIs mIs, rated, took]

end Sys2Proof.Machine

/-! PROOF. Release (R18, R153): O13. -/

namespace Sys2Proof.Machine

section Rounding

variable {s a : State} {h : Nat} {x : Session}

/-- Two states with the tariff and the rating contexts of each other price alike. -/
theorem State.price_congr (tariff : a.tariff = s.tariff) (rating : a.rating = s.rating) (plan : Nat) :
    a.serviceCharge plan = s.price plan ∧ a.rowInForce plan = s.priceRow plan s.rating.inForce.zoneClass := by
  refine ⟨funext fun base => ?_, ?_⟩
  · rw [State.serviceCharge_eq, State.price, State.price, tariff, rating]
  · rw [State.rowInForce, State.priceRow, State.priceRow, tariff, rating]

/-- Close rounding of the data residue (R153). -/
theorem State.roundData_spec (tariff : a.tariff = s.tariff) (rating : a.rating = s.rating) (plan : (a.session h).plan = x.plan) :
    ((a.session h).dataResidue = 0 → a.roundData h = a)
      ∧ ((a.session h).dataResidue ≠ 0 → ∃ r : State,
          a.Charged h 0 0 0 (s.price x.plan (s.priceRow x.plan s.rating.inForce.zoneClass).dataPrice) r
          ∧ a.roundData h = r.setSession h { r.session h with dataResidue := 0 })
      ∧ { (a.roundData h).session h with dataResidue := 0 } = (a.roundData h).session h
      ∧ Session.Billed { a.session h with dataResidue := 0 } ((a.roundData h).session h) := by
  obtain ⟨charge, row⟩ := State.price_congr (a := a) tariff rating x.plan
  have round : a.roundData h = if (a.session h).dataResidue = 0 then a else
      ((a.takeCharge h 0 0 0 (s.price x.plan (s.priceRow x.plan s.rating.inForce.zoneClass).dataPrice)).1.setSession h
        { (a.takeCharge h 0 0 0 (s.price x.plan (s.priceRow x.plan s.rating.inForce.zoneClass).dataPrice)).1.session h with
          dataResidue := 0 }) := by
    unfold State.roundData
    dsimp only
    rw [plan, charge, row]
  rw [round]
  split
  · next zero =>
    have same : { a.session h with dataResidue := 0 } = a.session h := by rw [← zero]
    exact ⟨fun _ => rfl, fun some_ => absurd zero some_, same, by rw [same]; exact .refl _⟩
  · next some_ =>
    refine ⟨fun zero => absurd zero some_, fun _ => ⟨_, State.takeCharge_charged a h 0 0 0 _, rfl⟩, ?_, ?_⟩
    · rw [State.setSession_session_same]
    · rw [State.setSession_session_same]
      have billed := State.takeCharge_billed a h 0 0 0
        (s.price x.plan (s.priceRow x.plan s.rating.inForce.zoneClass).dataPrice) h
      unfold Session.Billed at billed ⊢
      rw [billed]

/-- Close rounding of the voice residue (R153). -/
theorem State.roundVoice_spec (tariff : a.tariff = s.tariff) (rating : a.rating = s.rating) (plan : (a.session h).plan = x.plan) :
    ((a.session h).voiceResidue = 0 → a.roundVoice h = a)
      ∧ ((a.session h).voiceResidue ≠ 0 → ∃ r : State,
          a.Charged h 0 0 0 (s.price x.plan (s.priceRow x.plan s.rating.inForce.zoneClass).voicePrice) r
          ∧ a.roundVoice h = r.setSession h { r.session h with voiceResidue := 0 })
      ∧ { (a.roundVoice h).session h with voiceResidue := 0 } = (a.roundVoice h).session h
      ∧ Session.Billed { a.session h with voiceResidue := 0 } ((a.roundVoice h).session h) := by
  obtain ⟨charge, row⟩ := State.price_congr (a := a) tariff rating x.plan
  have round : a.roundVoice h = if (a.session h).voiceResidue = 0 then a else
      ((a.takeCharge h 0 0 0 (s.price x.plan (s.priceRow x.plan s.rating.inForce.zoneClass).voicePrice)).1.setSession h
        { (a.takeCharge h 0 0 0 (s.price x.plan (s.priceRow x.plan s.rating.inForce.zoneClass).voicePrice)).1.session h with
          voiceResidue := 0 }) := by
    unfold State.roundVoice
    dsimp only
    rw [plan, charge, row]
  rw [round]
  split
  · next zero =>
    have same : { a.session h with voiceResidue := 0 } = a.session h := by rw [← zero]
    exact ⟨fun _ => rfl, fun some_ => absurd zero some_, same, by rw [same]; exact .refl _⟩
  · next some_ =>
    refine ⟨fun zero => absurd zero some_, fun _ => ⟨_, State.takeCharge_charged a h 0 0 0 _, rfl⟩, ?_, ?_⟩
    · rw [State.setSession_session_same]
    · rw [State.setSession_session_same]
      have billed := State.takeCharge_billed a h 0 0 0
        (s.price x.plan (s.priceRow x.plan s.rating.inForce.zoneClass).voicePrice) h
      unfold Session.Billed at billed ⊢
      rw [billed]

end Rounding

/-- A close with both residues gone: FREE with a CLOSE record, or CLOSING at the tail of the owed-record list. -/
theorem State.released {h : Nat} (c : State) {who : Who} (whose : (c.session h).who h = who) (noData : (c.session h).dataResidue = 0)
    (noVoice : (c.session h).voiceResidue = 0) :
    (c.queue.records.length < Config.ordinaryLimit →
        (c.closeSession h .released).reportServed.session h = Session.free
        ∧ (c.closeSession h .released).reportServed.queue.records = c.queue.records ++ [⟨c.clock.calendar, c.clock.notSet,
            .close who .released (c.session h).part (c.session h).shortfall 0 0 (c.session h).segments⟩])
      ∧ (Config.ordinaryLimit ≤ c.queue.records.length →
        (c.closeSession h .released).reportServed.session h = { c.session h with state := .closing, closeReason := some .released }
        ∧ (c.session h).dataResidue = 0 ∧ (c.session h).voiceResidue = 0
        ∧ (c.closeSession h .released).reportServed.owed = c.owed ++ [h]) := by
  obtain ⟨_, _, reported⟩ := (c.closeSession h .released).reportServed_coverage_frame
  have session : (c.closeSession h .released).reportServed.session h = (c.closeSession h .released).session h := by
    rw [reported]
    rfl
  rw [session]
  refine ⟨fun room => ?_, fun full => ?_⟩
  · have closes := State.Closes.room room .released h
    refine ⟨?_, ?_⟩
    · rw [closes.session]
      simp
    · rw [reported]
      refine closes.records.trans ?_
      rw [List.map_singleton, State.closeRecord, State.stamp, Session.closeBody, whose, noData, noVoice]
  · have closes := State.Closes.full full .released h
    refine ⟨?_, noData, noVoice, ?_⟩
    · rw [closes.session]
      simp [Session.closed]
    · rw [reported]
      exact closes.owed

/-- Settles O13: a release is a report, the rounding of each residue, and a close, in that order. -/
theorem releaseClosesWithoutResidue : Obligations.ReleaseClosesWithoutResidue := by
  intro s u v handle data voice messages h d q m sum charge x row price running named inside own served dIs qIs mIs rowIs priceIs sumIs
    chargeIs uIs vIs
  have same : price = s.price x.plan := funext priceIs
  subst named same
  generalize hIs : handle.toNat = h at *
  have rated := State.rateReport_refresh own rowIs sumIs chargeIs uIs vIs
  have vSame : v.clock = s.clock ∧ v.owed = s.owed ∧ v.tariff = s.tariff ∧ v.rating = s.rating := by
    rw [vIs, uIs]
    split <;> exact ⟨rfl, rfl, rfl, rfl⟩
  have vOwn : v.session h = { x with
      lapseCount := 0, dataResidue := (x.dataResidue + d) % row.dataIncrement
      voiceResidue := (x.voiceResidue + q) % row.voiceIncrement } := by
    rw [vIs, uIs]
    split <;> simp
  set a := (v.takeCharge h d q m charge).1 with aIs
  have aSame : a.clock = s.clock ∧ a.owed = s.owed ∧ a.tariff = s.tariff ∧ a.rating = s.rating := by
    obtain ⟨_, _, _, _, framed⟩ := State.takeCharge_frame v h d q m charge
    rw [aIs, framed]
    exact vSame
  have aBilled : (v.session h).Billed (a.session h) := State.takeCharge_billed v h d q m charge h
  obtain ⟨stillData, chargedData, noData, bBilled⟩ := State.roundData_spec (s := s) (a := a) (h := h) (x := x) aSame.2.2.1
    aSame.2.2.2 (by rw [aBilled, vOwn])
  have bSame : (a.roundData h).clock = s.clock ∧ (a.roundData h).owed = s.owed ∧ (a.roundData h).tariff = s.tariff
      ∧ (a.roundData h).rating = s.rating := by
    obtain ⟨_, _, _, _, framed⟩ := a.roundData_frame h
    rw [framed]
    exact aSame
  have bPlan : ((a.roundData h).session h).plan = x.plan := by rw [bBilled, aBilled, vOwn]
  obtain ⟨stillVoice, chargedVoice, noVoice, cBilled⟩ := State.roundVoice_spec (s := s) (a := a.roundData h) (h := h) (x := x)
    bSame.2.2.1 bSame.2.2.2 bPlan
  have cSame : ((a.roundData h).roundVoice h).clock = s.clock ∧ ((a.roundData h).roundVoice h).owed = s.owed := by
    obtain ⟨_, _, _, _, framed⟩ := (a.roundData h).roundVoice_frame h
    rw [framed]
    exact ⟨bSame.1, bSame.2.1⟩
  set b := a.roundData h with bIs
  set c := b.roundVoice h with cIs
  have whose : (c.session h).who h = ⟨h, x.identity, x.account, x.agreement, x.plan, x.openTime⟩ := by
    rw [cBilled, bBilled, aBilled, vOwn]
    rfl
  obtain ⟨freed, waits⟩ := c.released whose (by rw [cBilled, ← noData]) (by rw [← noVoice])
  rw [cSame.1] at freed
  rw [cSame.2] at waits
  refine ⟨a, b, c, (c.closeSession h .released).reportServed, ?_, State.takeCharge_charged v h d q m charge, stillData, ?_, stillVoice, ?_,
    rfl, fun _ => ⟨fun room => ?_, fun full => ?_⟩⟩
  · have answer := (serves_release handle data voice messages).exec running (by rwa [hIs]) (by rw [hIs, own, served])
    rw [hIs] at answer
    simp only [State.reportUsage_status own dIs qIs mIs, State.reportUsage_rated dIs qIs mIs, rated] at answer
    exact answer
  · rw [rowIs]
    exact chargedData
  · rw [rowIs]
    exact chargedVoice
  · exact freed room
  · exact waits full

end Sys2Proof.Machine

/-! PROOF. Attach (1.4): O9 and O10. -/

namespace Sys2Proof.Machine

/-! ### The checks (R7, R8) -/

section Checks

variable {s : State} {x : IdentityWord} {present index : Byte} {onboard : Bool} {a : Option Nat}

/-- The coverage states in which an attach is looked at (R7). -/
def State.Admits (s : State) : Prop := s.coverage.state = .radiating ∨ s.coverage.state = .ramping ∧ s.coverage.pacing ≠ 0

theorem exec_attach_badParam (running : s.power.supervisor = .running) (bad : identityValid x = false ∨ boolOf present = none) :
    exec (.attach .cell x present index) s = .next (s.withFrame .cell (.answered .badParam [])) := by
  change execAttach .cell x present index s = _
  rw [execAttach, State.command_eq running (by simp)]
  obtain identity | flag := bad
  · rw [identity]
    rfl
  · rw [flag]
    cases identityValid x <;> rfl

theorem exec_attach (running : s.power.supervisor = .running) (identity : identityValid x = true) (flag : boolOf present = some onboard) :
    exec (.attach .cell x present index) s =
      .next ((s.attach x (if onboard then some index.toNat else none)).1.withFrame .cell
        (.answered (s.attach x (if onboard then some index.toNat else none)).2.status
          (s.attach x (if onboard then some index.toNat else none)).2.response)) := by
  change execAttach .cell x present index s = _
  rw [execAttach, State.command_eq running (by simp), identity, flag]

theorem State.attach_coverage (out : s.coverage.state.inService = false) : s.attach x a = (s, Reply.bare .coverage) := by
  unfold State.attach
  rw [if_pos (by simp [out])]

theorem State.attach_paced (ramps : s.coverage.state = .ramping) (spent : s.coverage.pacing = 0) : s.attach x a = (s, Reply.bare .paced) := by
  unfold State.attach
  rw [if_neg (by simp [ramps, CoverageState.inService]), if_pos ⟨ramps, spent⟩]

/-- Who pays for an attach, by the checks of R8. -/
def State.resolve (s : State) (x : IdentityWord) (a : Option Nat) : Except Status Charging :=
  match a with
  | some i => s.resolveOnboard i
  | none => s.resolveRoaming x

theorem State.Admits.passes (admits : s.Admits) :
    ¬ (!s.coverage.state.inService) = true ∧ ¬ (s.coverage.state = .ramping ∧ s.coverage.pacing = 0) := by
  obtain radiates | ⟨ramps, left⟩ := admits
  · simp [radiates, CoverageState.inService]
  · simp [ramps, left, CoverageState.inService]

theorem State.attach_known {h : Nat} (admits : s.Admits) (known : s.lookupIdentity x = some h) : s.attach x a =
    if (s.session h).served then (s.refresh h, ⟨.already, beBytes 2 h⟩) else (s, ⟨.closing, beBytes 2 h⟩) := by
  unfold State.attach
  rw [if_neg admits.passes.1, if_neg admits.passes.2, known]

theorem State.attach_full (admits : s.Admits) (new : s.lookupIdentity x = none) (full : s.freeHandle = none) :
    s.attach x a = (s, Reply.bare .full) := by
  unfold State.attach
  rw [if_neg admits.passes.1, if_neg admits.passes.2, new, full]

theorem State.attach_refused {h : Nat} {st : Status} (admits : s.Admits) (new : s.lookupIdentity x = none) (free : s.freeHandle = some h)
    (refused : s.resolve x a = .error st) : s.attach x a = (s, Reply.bare st) := by
  unfold State.attach
  rw [if_neg admits.passes.1, if_neg admits.passes.2, new, free]
  cases a <;> (dsimp only [State.resolve] at refused ⊢; rw [refused])

theorem State.attach_opens {h : Nat} {c : Charging} (admits : s.Admits) (new : s.lookupIdentity x = none) (free : s.freeHandle = some h)
    (resolved : s.resolve x a = .ok c) : s.attach x a = (s.openSession x c h, ⟨.ok, beBytes 2 h⟩) := by
  unfold State.attach
  rw [if_neg admits.passes.1, if_neg admits.passes.2, new, free]
  cases a <;> (dsimp only [State.resolve] at resolved ⊢; rw [resolved])

/-- Settles O9. -/
theorem attachChecks : Obligations.AttachChecks := by
  intro s x present index running
  refine ⟨exec_attach_badParam running, fun onboard identity flag => ?_⟩
  have answer := exec_attach (index := index) running identity flag
  refine ⟨fun out => ?_, fun ramps spent => ?_, fun admits => ⟨fun h known served => ?_, fun h known unserved => ?_, fun new full => ?_,
    fun new room isOnboard => ⟨fun other => ?_, fun prepaid empty => ?_⟩,
    fun new room isRoaming => ⟨fun unmatched => ?_, fun i matched => ⟨fun suspended => ?_, fun opened elsewhere => ?_⟩⟩⟩⟩
  · rw [answer, State.attach_coverage (by obtain state | state | state := out <;> simp [state, CoverageState.inService])]
    rfl
  · rw [answer, State.attach_paced ramps spent]
    rfl
  · rw [answer, State.attach_known admits known, if_pos served]
    rfl
  · rw [answer, State.attach_known admits known, if_neg (by simp [unserved])]
  · rw [answer, State.attach_full admits new full]
    rfl
  all_goals obtain ⟨h, free⟩ := Option.isSome_iff_exists.mp room
  · have refused : s.resolve x (some index.toNat) = .error .badParam := by
      unfold State.resolve State.resolveOnboard
      cases kind : (s.account index.toNat).kind <;> simp_all
    rw [answer, isOnboard, if_pos rfl, State.attach_refused admits new free refused]
    rfl
  · have refused : s.resolve x (some index.toNat) = .error .credit := by
      unfold State.resolve State.resolveOnboard
      simp [prepaid, empty]
    rw [answer, isOnboard, if_pos rfl, State.attach_refused admits new free refused]
    rfl
  all_goals rw [answer, isRoaming, if_neg (by simp)]
  · have refused : s.resolve x none = .error .noAgreement := by
      rw [State.resolve, State.resolveRoaming, unmatched]
    rw [State.attach_refused admits new free refused]
    rfl
  · have refused : s.resolve x none = .error .state := by
      rw [State.resolve, State.resolveRoaming, matched]
      dsimp only
      rw [if_pos suspended]
    rw [State.attach_refused admits new free refused]
    rfl
  · have refused : s.resolve x none = .error .zone := by
      rw [State.resolve, State.resolveRoaming, matched]
      dsimp only
      rw [if_neg opened]
      cases zone : s.coverage.zone with
      | none => rfl
      | some z => simp [elsewhere z zone]
    rw [State.attach_refused admits new free refused]
    rfl

end Checks

/-! ### A new session (R9, R10) -/

section Open

variable {s : State} {x : IdentityWord} {c : Charging} {h : Nat}

/-- The records of the table after a session is opened, and the occurrence of a table that is then full. -/
theorem State.openSession_eq (s : State) (x : IdentityWord) (c : Charging) (h : Nat) : s.openSession x c h =
    { (s.setSession h (s.newSession x c)).countSession (s.newSession x c) (fun n => n + 1) with
      coverage := { s.coverage with pacing := s.coverage.pacing - if s.coverage.state = .ramping then 1 else 0 }
      router := s.router.occurs (if (s.setSession h (s.newSession x c)).freeHandle = none then [(.tableFull, h)] else []) } := by
  obtain ⟨g, b, counted⟩ := State.countSession_frame (s.setSession h (s.newSession x c)) (s.newSession x c) fun n => n + 1
  have paced : ∀ v : State,
      (if v.coverage.state = .ramping then ({ v with coverage := { v.coverage with pacing := v.coverage.pacing - 1 } } : State) else v) =
        { v with coverage := { v.coverage with pacing := v.coverage.pacing - if v.coverage.state = .ramping then 1 else 0 } } := fun v => by
    split <;> rfl
  have full : ∀ v : State, v.sessions = (s.setSession h (s.newSession x c)).sessions →
      v.levelHolds .tableFull = (s.setSession h (s.newSession x c)).freeHandle.isNone := fun v same => by
    simp [State.levelHolds, State.freeHandle, State.session, same]
  unfold State.openSession
  dsimp only
  rw [paced, counted, full]
  · cases (s.setSession h (s.newSession x c)).freeHandle <;> simp [State.raise, Router.occur_eq_occurs] <;> rfl
  · rfl

theorem State.openSession_frame (s : State) (x : IdentityWord) (c : Charging) (h : Nat) : ∃ g a y v o, s.openSession x c h =
    { s with agreements := g, accounts := a, sessions := y, coverage := v, router := o } := by
  obtain ⟨g, b, counted⟩ := State.countSession_frame (s.setSession h (s.newSession x c)) (s.newSession x c) fun n => n + 1
  rw [State.openSession_eq, counted]
  exact ⟨_, _, _, _, _, rfl⟩

theorem State.openSession_session (s : State) (x : IdentityWord) (c : Charging) (h k : Nat) :
    (s.openSession x c h).session k = if k = h then s.newSession x c else s.session k := by
  obtain ⟨g, b, counted⟩ := State.countSession_frame (s.setSession h (s.newSession x c)) (s.newSession x c) fun n => n + 1
  rw [State.openSession_eq, counted]
  exact State.setSession_session s h k _

theorem State.openSession_account (s : State) (x : IdentityWord) (c : Charging) (h a : Nat) :
    (s.openSession x c h).account a = { s.account a with count := (s.account a).count + if a = c.account then 1 else 0 } := by
  rw [State.openSession_eq]
  refine (State.countSession_account _ _ _ a).trans ?_
  change (if a = c.account then { s.account a with count := (s.account a).count + 1 } else s.account a) = _
  split <;> rfl

theorem State.openSession_agreement (s : State) (x : IdentityWord) (c : Charging) (h i : Nat) :
    (s.openSession x c h).agreement i = { s.agreement i with count := (s.agreement i).count + if c.agreement = some i then 1 else 0 } := by
  rw [State.openSession_eq]
  refine (State.countSession_agreement _ _ _ i).trans ?_
  change (if c.agreement = some i then { s.agreement i with count := (s.agreement i).count + 1 } else s.agreement i) = _
  split <;> rfl

theorem State.freeHandle_eq_none_iff : s.freeHandle = none ↔ ∀ k, k < Config.sessionCount → (s.session k).state ≠ .free := by
  simp [State.freeHandle, Session.notFree_iff]

theorem State.freeHandle_eq_some (inside : h < Config.sessionCount) (free : (s.session h).state = .free)
    (lowest : ∀ k, k < h → (s.session k).state ≠ .free) : s.freeHandle = some h := by
  obtain ⟨k, found⟩ : ∃ k, s.freeHandle = some k := by
    rw [← Option.ne_none_iff_exists']
    exact fun full => State.freeHandle_eq_none_iff.mp full h inside free
  obtain ⟨isFree, l, m, split, before⟩ := List.find?_eq_some_iff_append.mp found
  have freeK : (s.session k).state = .free := by
    by_contra notFree
    rw [Session.notFree_iff.mpr notFree] at isFree
    cases isFree
  have listed : h ∈ l ++ k :: m := split ▸ List.mem_range.mpr inside
  obtain inL | here | inM : h ∈ l ∨ h = k ∨ h ∈ m := by simpa using listed
  · have notFree := before h inL
    simp [Session.notFree, free] at notFree
  · rw [found, here]
  · have rising : (l ++ k :: m).Pairwise (· < ·) := split ▸ List.pairwise_lt_range
    have below : k < h := (List.pairwise_cons.mp (List.pairwise_append.mp rising).2.1).1 h inM
    exact absurd freeK (lowest k below)

theorem State.lookupIdentity_eq_none (canonical : s.sessions.wf Session.free Config.sessionCount = true)
    (new : ∀ k, (s.session k).state ≠ .free → (s.session k).identity ≠ x) : s.lookupIdentity x = none := by
  rw [State.lookupIdentity, List.head?_eq_none_iff, List.eq_nil_iff_forall_not_mem]
  intro k listed
  rw [Table.mem_keys canonical rfl, Bool.and_eq_true, Session.notFree_iff, beq_iff_eq] at listed
  exact new k listed.1 listed.2

/-- Settles O10. -/
theorem attachAdmits : Obligations.AttachAdmits := by
  intro s x present index c h tables running identity admits new inside free lowest pays
  have freeHandle := State.freeHandle_eq_some inside free lowest
  have unknown := State.lookupIdentity_eq_none tables.1 new
  have resolved : ∃ onboard, boolOf present = some onboard ∧ s.resolve x (if onboard then some index.toNat else none) = .ok c := by
    obtain ⟨rfl, prepaid, some_left, rfl⟩ | ⟨rfl, i, z, matched, opened, zone, permits, rfl⟩ := pays
    · refine ⟨true, rfl, ?_⟩
      rw [if_pos rfl, State.resolve]
      rw [State.resolveOnboard]
      rw [prepaid]
      simp [some_left]
    · refine ⟨false, rfl, ?_⟩
      rw [if_neg (by simp), State.resolve]
      rw [State.resolveRoaming, matched]
      dsimp only
      rw [if_neg (by simp [opened]), zone]
      dsimp only
      rw [if_pos permits]
  obtain ⟨onboard, flag, resolved⟩ := resolved
  have answer := exec_attach (index := index) running identity flag
  rw [State.attach_opens admits unknown freeHandle resolved] at answer
  dsimp only at answer
  have session := s.openSession_session x c h
  have full : (s.setSession h (s.newSession x c)).freeHandle = none ↔
      ∀ k, k < Config.sessionCount → ((s.openSession x c h).session k).state ≠ .free := by
    rw [State.freeHandle_eq_none_iff]
    simp only [session, State.setSession_session]
  have router : (s.openSession x c h).router =
      s.router.occurs (if (s.setSession h (s.newSession x c)).freeHandle = none then [(.tableFull, h)] else []) := by rw [State.openSession_eq]
  have coverage : (s.openSession x c h).coverage =
      { s.coverage with pacing := s.coverage.pacing - if s.coverage.state = .ramping then 1 else 0 } := by rw [State.openSession_eq]
  refine ⟨s.openSession x c h, answer, ?_, fun k other => ?_, s.openSession_account x c h, s.openSession_agreement x c h, fun room => ?_,
    fun none_left => ?_, ?_⟩
  · rw [session, if_pos rfl]
    rfl
  · rw [session, if_neg other]
  · rw [router, if_neg]
    · rfl
    · rw [full]
      intro none_left
      obtain ⟨k, inside, isFree⟩ := room
      exact none_left k inside isFree
  · rw [router, if_pos (full.mpr none_left)]
    rfl
  · rw [← coverage]
    obtain ⟨_, _, _, _, _, framed⟩ := s.openSession_frame x c h
    rw [framed]

end Open

end Sys2Proof.Machine

/-! PROOF. The restore and ramp timers (3.5), the bridge order line (4.1, 4.2) and the part after reset: O25, O27 and O51. -/

namespace Sys2Proof.Machine

/-! ### The restore and ramp timers (O25) -/

/-- Settles O25. -/
theorem restoreAndRampTimers : Obligations.RestoreAndRampTimers := by
  intro s u v r runs passed next
  subst passed next
  have zone : (s.elapse r).coverage.zone = s.coverage.zone := by rw [State.elapse_coverage runs]; rfl
  have state : (s.elapse r).coverage.state = s.coverage.state := by rw [State.elapse_coverage runs]; rfl
  refine ⟨fun qualifies timed => ?_, fun ramps timed => ?_⟩
  · have enters : exec .restoreTimerExpires s = .next (s.elapse r).enterRamping := by
      refine congrArg _ ((State.onExpiry_runs runs timed _).trans ?_)
      rw [if_pos (state.trans qualifies)]
    rw [enters, ← zone, ← State.elapse_params (s := s) (n := r), State.enterRamping]
    refine ⟨fun long => ?_, fun short => ?_⟩
    · dsimp only
      rw [if_neg long]
      rfl
    · dsimp only
      rw [if_pos short]
      rfl
  · refine congrArg _ ((State.onExpiry_runs runs timed _).trans ?_)
    rw [if_pos (state.trans ramps), ← zone]
    rfl

/-! ### The lengths of a low (4.1) -/

section Low

variable {s : State} {b : Bridge} {e : Nat}

theorem Bridge.lowFor_eq (low : b.lowTimer = some e) (n : Nat) : b.lowFor n = decide (n ≤ e) := by simp only [Bridge.lowFor, low]

/-- The decoder once a low of 30 ms has been taken as one. -/
def Bridge.counted (b : Bridge) : Bridge := if b.awaitsPulse then b.reachPulse else b

/-- The decoder once a low longer than 400 ms has been taken as one. -/
def Bridge.lengthened (b : Bridge) : Bridge := if b.counted.awaitsLong then b.counted.reachLong else b.counted

theorem Bridge.counted_of_taken (taken : b.lowStage ≠ .brief) : b.counted = b := by simp [Bridge.counted, Bridge.awaitsPulse, taken]

theorem Bridge.counted_of_brief (brief : b.lowStage = .brief) : b.counted = b.reachPulse := by
  simp [Bridge.counted, Bridge.awaitsPulse, brief]

@[simp] theorem Bridge.reachPulse_low : b.reachPulse.lowTimer = b.lowTimer := by
  unfold Bridge.reachPulse
  cases b.state <;> rfl

@[simp] theorem Bridge.reachPulse_stage : b.reachPulse.lowStage = .counted := by
  unfold Bridge.reachPulse
  cases b.state <;> rfl

@[simp] theorem Bridge.counted_low : b.counted.lowTimer = b.lowTimer := by
  unfold Bridge.counted
  split <;> simp

@[simp] theorem Bridge.lengthened_low : b.lengthened.lowTimer = b.lowTimer := by
  unfold Bridge.lengthened Bridge.reachLong
  split <;> simp

theorem Bridge.counted_stage (unstuck : b.lowStage ≠ .stuck) : b.counted.lowStage = .counted ∨ b.counted.lowStage = .long := by
  by_cases brief : b.lowStage = .brief
  · simp [Bridge.counted_of_brief brief]
  · rw [Bridge.counted_of_taken brief]
    cases stage : b.lowStage <;> simp_all

theorem Bridge.lengthened_stage (unstuck : b.lowStage ≠ .stuck) : b.lengthened.lowStage = .counted ∨ b.lengthened.lowStage = .long := by
  unfold Bridge.lengthened Bridge.reachLong
  split
  · exact .inr rfl
  · exact Bridge.counted_stage unstuck

theorem State.takeLengths_glitch (low : s.bridge.lowTimer = some e) (brief : s.bridge.lowStage = .brief) (short : e < 984) :
    s.takeLengths = s := by
  simp [State.takeLengths, Bridge.lowFor_eq low, Bridge.awaitsLong, Bridge.awaitsStuck, Config.pulsePeriods, brief, Nat.not_le.mpr short]

/-- The first of the lengths, where the low has reached it. -/
theorem State.takePulse_eq (low : s.bridge.lowTimer = some e) (reached : s.bridge.lowStage ≠ .brief ∨ 984 ≤ e) :
    (if s.bridge.lowFor Config.pulsePeriods && s.bridge.awaitsPulse then s.reachPulse else s) =
      { s with bridge := s.bridge.counted } := by
  by_cases brief : s.bridge.lowStage = .brief
  · have long : 984 ≤ e := reached.resolve_left (· brief)
    simp [Bridge.lowFor_eq low, Bridge.awaitsPulse, brief, Config.pulsePeriods, long, State.reachPulse, Bridge.counted_of_brief brief]
  · simp [Bridge.awaitsPulse, brief, Bridge.counted_of_taken brief]

theorem State.takeLengths_pulse (low : s.bridge.lowTimer = some e) (reached : s.bridge.lowStage ≠ .brief ∨ 984 ≤ e) (short : e < 13108) :
    s.takeLengths = { s with bridge := s.bridge.counted } := by
  have counted_low : s.bridge.counted.lowTimer = some e := by simp [low]
  have below : ¬ 163840 ≤ e := by omega
  unfold State.takeLengths
  rw [State.takePulse_eq low reached]
  simp [Bridge.lowFor_eq counted_low, Config.longLowPeriods, Config.stuckPeriods, Nat.not_le.mpr short, below]

theorem State.takeLengths_of_long (low : s.bridge.lowTimer = some e) (long : 13108 ≤ e) :
    s.takeLengths = if 163840 ≤ e ∧ s.bridge.lengthened.awaitsStuck = true then ({ s with bridge := s.bridge.lengthened } : State).reachStuck
      else { s with bridge := s.bridge.lengthened } := by
  have counted_low : s.bridge.counted.lowTimer = some e := by simp [low]
  have lengthened_low : s.bridge.lengthened.lowTimer = some e := by simp [low]
  have second : (if s.bridge.counted.lowFor Config.longLowPeriods && s.bridge.counted.awaitsLong
      then ({ s with bridge := s.bridge.counted } : State).reachLong else { s with bridge := s.bridge.counted }) =
      { s with bridge := s.bridge.lengthened } := by
    simp only [Bridge.lowFor_eq counted_low, Config.longLowPeriods, long, decide_true, Bool.true_and, Bridge.lengthened, State.reachLong]
    split <;> rfl
  unfold State.takeLengths
  rw [State.takePulse_eq low (.inr (by omega))]
  dsimp only
  rw [second]
  simp only [Bridge.lowFor_eq lengthened_low, Config.stuckPeriods, Bool.and_eq_true, decide_eq_true_eq]

theorem State.takeLengths_long (low : s.bridge.lowTimer = some e) (long : 13108 ≤ e) (short : e < 163840) :
    s.takeLengths = { s with bridge := s.bridge.lengthened } := by
  rw [State.takeLengths_of_long low long, if_neg fun reached => Nat.not_le.mpr short reached.1]

theorem State.takeLengths_stuck (low : s.bridge.lowTimer = some e) (unstuck : s.bridge.lowStage ≠ .stuck) (long : 163840 ≤ e) :
    s.takeLengths = ({ s with bridge := s.bridge.lengthened } : State).reachStuck := by
  have waits : s.bridge.lengthened.awaitsStuck = true := by
    obtain stage | stage := Bridge.lengthened_stage unstuck <;> simp [Bridge.awaitsStuck, stage]
  rw [State.takeLengths_of_long low (by omega), if_pos ⟨long, waits⟩]

/-- A low whose stuck length has been taken waits for none. -/
theorem State.takeLengths_taken (stuck : s.bridge.lowStage = .stuck) : s.takeLengths = s := by
  simp [State.takeLengths, Bridge.awaitsPulse, Bridge.awaitsLong, Bridge.awaitsStuck, stuck]

/-! ### The end of a low -/

theorem State.endLow_of (taken : s.takeLengths = { s with bridge := b }) : s.endLow = { s with bridge := b.rise } := by
  unfold State.endLow
  rw [taken]

theorem Bridge.rise_pulse (train : b.state = .train) (counted : b.lowStage = .counted) :
    b.rise = { b with
      lowTimer := none, lowStage := .brief, pulseCount := min 5 (b.pulseCount + 1), gapTimer := some 26215 } := by
  simp [Bridge.rise, train, counted, Config.restPeriods]

theorem Bridge.rise_long (train : b.state = .train) (long : b.lowStage = .long) :
    b.rise = { b with lowTimer := none, lowStage := .brief, gapTimer := some 26215 } := by
  simp [Bridge.rise, train, long, Config.restPeriods]

theorem Bridge.rise_glitch (brief : b.lowStage = .brief) (timed : b.state ≠ .recovering ∨ b.recoveryTimer.isSome = true) :
    b.rise = { b with lowTimer := none, lowStage := .brief } := by
  cases state : b.state with
  | idle => simp [Bridge.rise, state]
  | train => simp [Bridge.rise, state, brief]
  | recovering => simp [Bridge.rise, state, brief, timed.resolve_left (· state)]

theorem Bridge.rise_recovering (recovers : b.state = .recovering) (untimed : b.lowStage ≠ .brief ∨ b.recoveryTimer = none) :
    b.rise = { b with lowTimer := none, lowStage := .brief, recoveryTimer := some 26215 } := by
  unfold Bridge.rise
  rw [recovers]
  cases stage : b.lowStage <;> simp_all [Config.restPeriods]

end Low

/-! ### The bridge order line (O27) -/

section Line

variable {s : State} {b : Bridge} {e : Nat}

theorem exec_bridgeLineRise (runs : s.mainRuns = true) (fallen : s.pins.bridgeHigh = false) :
    exec .bridgeLineRise s = .next ({ s with pins := { s.pins with bridgeHigh := true } } : State).endLow := by
  change Host.Outcome.next (if s.pins.bridgeHigh then s else s.edge true State.endLow) = _
  rw [fallen, State.edge, runs]
  rfl

theorem Bridge.reachPulse_idle (idle : b.state = .idle) :
    b.reachPulse = { b with state := .train, pulseCount := 0, longLow := false, lowStage := .counted } := by
  simp only [Bridge.reachPulse, idle]

theorem Bridge.reachPulse_train (train : b.state = .train) : b.reachPulse = { b with gapTimer := none, lowStage := .counted } := by
  simp only [Bridge.reachPulse, train]

theorem Bridge.reachPulse_recovering (recovers : b.state = .recovering) :
    b.reachPulse = { b with recoveryTimer := none, lowStage := .counted } := by
  simp only [Bridge.reachPulse, recovers]

/-- A counted low that rises short of a long one. -/
theorem Bridge.counted_rise (reached : b.lowStage = .counted ∨ b.lowStage = .brief) :
    (b.state = .idle → b.lowStage = .brief → b.counted.rise = { b with
      lowTimer := none, lowStage := .brief, state := .train, pulseCount := 1, longLow := false, gapTimer := some 26215 })
    ∧ (b.state = .train → b.counted.rise = { b with
      lowTimer := none, lowStage := .brief, pulseCount := min 5 (b.pulseCount + 1), gapTimer := some 26215 })
    ∧ (b.state = .recovering → b.counted.rise = { b with lowTimer := none, lowStage := .brief, recoveryTimer := some 26215 }) := by
  refine ⟨fun idle brief => ?_, fun train => ?_, fun recovers => ?_⟩
  · rw [Bridge.counted_of_brief brief, Bridge.reachPulse_idle idle, Bridge.rise_pulse rfl rfl]
    rfl
  · obtain counted | brief := reached
    · rw [Bridge.counted_of_taken (by simp [counted]), Bridge.rise_pulse train counted]
    · rw [Bridge.counted_of_brief brief, Bridge.reachPulse_train train, Bridge.rise_pulse (by exact train) rfl]
  · obtain counted | brief := reached
    · rw [Bridge.counted_of_taken (by simp [counted]), Bridge.rise_recovering recovers (.inl (by simp [counted]))]
    · rw [Bridge.counted_of_brief brief, Bridge.reachPulse_recovering recovers, Bridge.rise_recovering (by exact recovers) (.inr rfl)]

/-- What a low longer than 400 ms makes of the decoder. -/
theorem Bridge.lengthened_eq (unstuck : b.lowStage ≠ .stuck) :
    (b.state = .idle → b.lowStage = .brief → b.lengthened = { b with state := .train, pulseCount := 0, longLow := true, lowStage := .long })
    ∧ (b.state = .train → b.lowStage = .long → b.lengthened = b)
    ∧ (b.state = .train → b.lowStage ≠ .long → ∃ g, b.lengthened = { b with longLow := true, lowStage := .long, gapTimer := g })
    ∧ (b.state = .recovering → ∃ r st, st ≠ .brief ∧ b.lengthened = { b with recoveryTimer := r, lowStage := st }) := by
  refine ⟨fun idle brief => ?_, fun train long => ?_, fun train short => ?_, fun recovers => ?_⟩
  · rw [Bridge.lengthened, Bridge.counted_of_brief brief, Bridge.reachPulse_idle idle]
    rfl
  · rw [Bridge.lengthened, Bridge.counted_of_taken (by simp [long]), Bridge.awaitsLong, long]
    rfl
  · by_cases brief : b.lowStage = .brief
    · refine ⟨none, ?_⟩
      rw [Bridge.lengthened, Bridge.counted_of_brief brief, Bridge.reachPulse_train train, Bridge.awaitsLong, train]
      rfl
    · have counted : b.lowStage = .counted := by cases stage : b.lowStage <;> simp_all
      refine ⟨b.gapTimer, ?_⟩
      rw [Bridge.lengthened, Bridge.counted_of_taken brief, if_pos (by simp [Bridge.awaitsLong, train, counted])]
      rfl
  · by_cases brief : b.lowStage = .brief
    · refine ⟨none, .counted, by simp, ?_⟩
      rw [Bridge.lengthened, Bridge.counted_of_brief brief, Bridge.reachPulse_recovering recovers, Bridge.awaitsLong, recovers]
      rfl
    · refine ⟨b.recoveryTimer, b.lowStage, brief, ?_⟩
      rw [Bridge.lengthened, Bridge.counted_of_taken brief, if_neg (by simp [Bridge.awaitsLong, recovers])]

/-- A long low that rises short of a stuck one. -/
theorem Bridge.lengthened_rise (unstuck : b.lowStage ≠ .stuck) :
    (b.state = .idle → b.lowStage = .brief → b.lengthened.rise = { b with
      lowTimer := none, lowStage := .brief, state := .train, pulseCount := 0, longLow := true, gapTimer := some 26215 })
    ∧ (b.state = .train → b.lowStage = .long → b.lengthened.rise = { b with
      lowTimer := none, lowStage := .brief, gapTimer := some 26215 })
    ∧ (b.state = .train → b.lowStage ≠ .long → b.lengthened.rise = { b with
      lowTimer := none, lowStage := .brief, longLow := true, gapTimer := some 26215 })
    ∧ (b.state = .recovering → b.lengthened.rise = { b with lowTimer := none, lowStage := .brief, recoveryTimer := some 26215 }) := by
  obtain ⟨opens, kept, marks, waits⟩ := Bridge.lengthened_eq unstuck
  refine ⟨fun idle brief => ?_, fun train long => ?_, fun train short => ?_, fun recovers => ?_⟩
  · rw [opens idle brief, Bridge.rise_long rfl rfl]
  · rw [kept train long, Bridge.rise_long train long]
  · obtain ⟨g, eq⟩ := marks train short
    rw [eq, Bridge.rise_long (by exact train) rfl]
  · obtain ⟨r, st, taken, eq⟩ := waits recovers
    rw [eq, Bridge.rise_recovering (by exact recovers) (.inl (by exact taken))]

/-- A stuck low from a train, or from an idle decoder that has yet to take it. -/
theorem State.endLow_stuck_train (low : s.bridge.lowTimer = some e) (unstuck : s.bridge.lowStage ≠ .stuck) (long : 163840 ≤ e)
    (train : s.bridge.state = .train ∨ s.bridge.state = .idle ∧ s.bridge.lowStage = .brief) :
    s.endLow = ({ s with bridge := { s.bridge with
      lowTimer := none, lowStage := .brief, state := .recovering, pulseCount := 0, longLow := false, gapTimer := none,
      stuckReported := true, recoveryTimer := some 26215 } } : State).raise .bridgeBad 3 := by
  have taken : ∃ c l g st, s.bridge.lengthened =
      { s.bridge with state := .train, pulseCount := c, longLow := l, gapTimer := g, lowStage := st } := by
    obtain ⟨opens, kept, marks, -⟩ := Bridge.lengthened_eq unstuck
    obtain train | ⟨idle, brief⟩ := train
    · by_cases stage : s.bridge.lowStage = .long
      · exact ⟨_, _, _, _, (kept train stage).trans (by rw [← train])⟩
      · obtain ⟨g, eq⟩ := marks train stage
        exact ⟨_, _, _, _, eq.trans (by rw [← train])⟩
    · exact ⟨_, _, _, _, opens idle brief⟩
  obtain ⟨c, l, g, st, eq⟩ := taken
  unfold State.endLow
  rw [State.takeLengths_stuck low unstuck long, eq]
  rfl

theorem State.endLow_stuck_recovering (low : s.bridge.lowTimer = some e) (unstuck : s.bridge.lowStage ≠ .stuck) (long : 163840 ≤ e)
    (recovers : s.bridge.state = .recovering) :
    (s.bridge.stuckReported = false → s.endLow = ({ s with bridge := { s.bridge with
      lowTimer := none, lowStage := .brief, stuckReported := true, recoveryTimer := some 26215 } } : State).raise .bridgeBad 3)
    ∧ (s.bridge.stuckReported = true → s.endLow = { s with bridge := { s.bridge with
      lowTimer := none, lowStage := .brief, recoveryTimer := some 26215 } }) := by
  obtain ⟨-, -, -, waits⟩ := Bridge.lengthened_eq unstuck
  obtain ⟨r, st, -, eq⟩ := waits recovers
  unfold State.endLow
  rw [State.takeLengths_stuck low unstuck long, eq]
  refine ⟨fun unreported => ?_, fun reported => ?_⟩
  · simp only [State.reachStuck, recovers, unreported, Bool.false_eq_true, if_false, State.raise_bridge]
    rw [Bridge.rise_recovering rfl (.inl (by simp))]
    rfl
  · simp only [State.reachStuck, recovers, reported, if_true]
    rw [Bridge.rise_recovering rfl (.inl (by simp))]

end Line

/-- Settles O27. -/
theorem bridgeLineTimed : Obligations.BridgeLineTimed := by
  intro s b held
  subst held
  refine ⟨fun low => ?_, fun high => ?_, fun stops high => ?_, fun stops low => ?_, fun runs high => ?_,
    fun e r after runs fallen low risen shown => ?_, fun e u runs low brief passed => ?_,
    fun e u runs low counted train passed => ?_, fun e u runs low stage passed => ?_, fun r runs timed => ?_⟩
  · exact congrArg _ (if_neg (by simp [low]))
  · exact congrArg _ (if_pos high)
  · refine congrArg _ ((if_pos high).trans ?_)
    rw [State.edge, stops]
    rfl
  · refine congrArg _ ((if_neg (by simp [low])).trans ?_)
    rw [State.edge, stops]
    rfl
  · refine congrArg _ ((if_pos high).trans ?_)
    rw [State.edge, runs]
    rfl
  · subst risen
    obtain ⟨t, risen⟩ : ∃ t : State, t = { s with pins := { s.pins with bridgeHigh := true } } := ⟨_, rfl⟩
    have bridge : s.bridge = t.bridge := by rw [risen]
    have after_eq : ∀ c, after c = { t with bridge := c } := by rw [risen]; exact shown
    rw [bridge] at low ⊢
    rw [exec_bridgeLineRise runs fallen, ← risen]
    simp only [after_eq]
    refine ⟨fun brief short => ?_, fun reached short => ?_, fun unstuck long short => ?_, fun unstuck long => ?_, fun stuck recovers => ?_⟩
    · rw [State.endLow_of (State.takeLengths_glitch low brief short)]
      refine ⟨fun timed => ?_, fun recovers untimed => ?_⟩
      · rw [Bridge.rise_glitch brief timed]
      · rw [Bridge.rise_recovering (by exact recovers) (.inr untimed)]
    · have either : t.bridge.lowStage = .counted ∨ t.bridge.lowStage = .brief := reached.imp_right And.left
      obtain ⟨opens, counts, waits⟩ := Bridge.counted_rise either
      rw [State.endLow_of (State.takeLengths_pulse low
        (reached.imp (fun counted => by simp [counted]) And.right) short)]
      exact ⟨fun idle brief => by rw [opens idle brief], fun train => by rw [counts train], fun recovers => by rw [waits recovers]⟩
    · obtain ⟨opens, kept, marks, waits⟩ := Bridge.lengthened_rise unstuck
      rw [State.endLow_of (State.takeLengths_long low long short)]
      exact ⟨fun idle brief => by rw [opens idle brief], fun train stage => by rw [kept train stage],
        fun train stage => by rw [marks train stage], fun recovers => by rw [waits recovers]⟩
    · refine ⟨fun train => ?_, fun recovers unreported => ?_, fun recovers reported => ?_⟩
      · rw [State.endLow_stuck_train low unstuck long train]
      · rw [(State.endLow_stuck_recovering low unstuck long recovers).1 unreported]
      · rw [(State.endLow_stuck_recovering low unstuck long recovers).2 reported]
    · rw [State.endLow_of (State.takeLengths_taken stuck),
        Bridge.rise_recovering (by exact recovers) (.inl (by simp [stuck]))]
  · subst passed
    have stage : (s.elapse (984 - e)).bridge.state = s.bridge.state := by rw [State.elapse_bridge runs]; rfl
    refine ⟨(s.elapse (984 - e)).bridge.reachPulse, congrArg _ (State.onLow_runs _ low runs (by simp [Bridge.awaitsPulse, brief])), ?_⟩
    exact ⟨fun idle => Bridge.reachPulse_idle (stage.trans idle), fun train => Bridge.reachPulse_train (stage.trans train),
      fun recovers => Bridge.reachPulse_recovering (stage.trans recovers)⟩
  · subst passed
    exact congrArg _ (State.onLow_runs _ low runs (by simp [Bridge.awaitsLong, counted, train]))
  · subst passed
    have state : (s.elapse (163840 - e)).bridge.state = s.bridge.state := by rw [State.elapse_bridge runs]; rfl
    have reported : (s.elapse (163840 - e)).bridge.stuckReported = s.bridge.stuckReported := by rw [State.elapse_bridge runs]; rfl
    have reaches : exec .stuck s = .next (s.elapse (163840 - e)).reachStuck :=
      congrArg _ (State.onLow_runs _ low runs (by obtain stage | stage := stage <;> simp [Bridge.awaitsStuck, stage]))
    rw [reaches, State.reachStuck]
    dsimp only
    rw [state, reported]
    refine ⟨fun train => by rw [train], fun recovers unreported => ?_, fun recovers already => ?_⟩
    · rw [recovers, unreported]
      rfl
    · rw [recovers, already, ← already, ← reported]
      simp [already, reported]
  · exact congrArg _ (State.onExpiry_runs runs timed _)

/-! ### The part after reset (O51) -/

/-- Settles O51. -/
theorem resetIsLawful : Obligations.ResetIsLawful := by
  refine ⟨?_, ?_, ?_, ?_, ?_, ?_, ?_, ?_, ?_, ?_, ?_, ?_, ?_, ?_, ?_, ?_, ?_, ?_⟩
  · decide
  · decide
  · decide
  · decide
  · decide
  · exact ⟨fun _ _ => rfl, fun _ _ => rfl⟩
  · decide
  · decide
  · decide
  · decide
  · decide
  · decide
  · decide
  · decide
  · decide
  · decide
  · decide
  · decide

end Sys2Proof.Machine

/-! PROOF. Events as software reads them (11.6): O49 and O50, and the order of a port's pending set under each. -/

namespace Sys2Proof.Machine

theorem State.levelHolds_mem {s : State} {k : EventKind} (holds : s.levelHolds k = true) : k ∈ levelKinds := by
  cases k <;> first | decide | cases holds

/-! ### The order of a pending set (R193, R194) -/

/-- What R192 to R194 ask of a pending set by itself. -/
structure Ordered (l : List Entry) : Prop where
  once : (l.map Entry.kind).Nodup
  last : l.Pairwise fun a b => a.renewed = true → b.renewed = true
  rising : (l.filter fun e => !e.renewed).Pairwise fun a b => a.kind.number < b.kind.number
  level : ∀ e ∈ l, e.renewed = true → e.kind ∈ levelKinds ∧ e.overrun = false

theorem PortState.lawful_iff {x : PortState} :
    x.Lawful ↔ Ordered x.pending ∧ (x.lineLow = true → x.pending ≠ []) ∧ x.attention.isSome = x.lineLow :=
  ⟨fun ⟨once, last, rising, level, low, timed⟩ => ⟨⟨once, last, rising, level⟩, low, timed⟩,
    fun ⟨⟨once, last, rising, level⟩, low, timed⟩ => ⟨once, last, rising, level, low, timed⟩⟩

theorem ordered_nil : Ordered [] := ⟨List.nodup_nil, List.Pairwise.nil, List.Pairwise.nil, nofun⟩

theorem Ordered.insertFresh {l : List Entry} (order : Ordered l) {e : Entry} (fresh : e.renewed = false)
    (absent : ∀ x ∈ l, x.kind ≠ e.kind) : Ordered (insertFresh e l) where
  once := by
    refine (((insertFresh_perm e l).map Entry.kind).nodup_iff).mpr (List.nodup_cons.mpr ⟨?_, order.once⟩)
    simpa [List.mem_map] using absent
  last := insertFresh_renewed_last fresh order.last
  rising := insertFresh_rising fresh absent order.last order.rising
  level x listed renewed := by
    obtain rfl | inList := mem_insertFresh.mp listed
    · simp [fresh] at renewed
    · exact order.level x inList renewed

theorem Ordered.tail {e : Entry} {l : List Entry} (order : Ordered (e :: l)) : Ordered l where
  once := (List.nodup_cons.mp order.once).2
  last := (List.pairwise_cons.mp order.last).2
  rising := order.rising.sublist ((List.sublist_cons_self e l).filter _)
  level x listed := order.level x (List.mem_cons_of_mem _ listed)

/-- A renewed entry joins last. -/
theorem Ordered.renew {l : List Entry} (order : Ordered l) {k : EventKind} (level : k ∈ levelKinds) (absent : ∀ x ∈ l, x.kind ≠ k)
    (d : Nat) : Ordered (l ++ [⟨k, d, false, true⟩]) where
  once := by
    rw [List.map_append, List.nodup_append]
    exact ⟨order.once, by simp, by simpa using absent⟩
  last := List.pairwise_append.mpr ⟨order.last, List.pairwise_singleton _ _, fun a _ b only => by simp_all⟩
  rising := by simpa [List.filter_append] using order.rising
  level x listed := by
    obtain inList | only := List.mem_append.mp listed
    · exact order.level x inList
    · obtain rfl := List.mem_singleton.mp only
      exact fun _ => ⟨level, rfl⟩

/-- The first entry is the one R194 reads. -/
theorem Ordered.head {e : Entry} {l : List Entry} (order : Ordered (e :: l)) :
    ∀ d ∈ e :: l, d.renewed = false → e.renewed = false ∧ e.kind.number ≤ d.kind.number := by
  intro d listed young
  obtain rfl | inList := List.mem_cons.mp listed
  · exact ⟨young, le_refl _⟩
  · have youngHead : e.renewed = false := by
      rw [Bool.eq_false_iff]
      intro old
      simp [(List.pairwise_cons.mp order.last).1 d inList old] at young
    have rising := order.rising
    rw [List.filter_cons_of_pos (by simp [youngHead])] at rising
    exact ⟨youngHead, ((List.pairwise_cons.mp rising).1 d (List.mem_filter.mpr ⟨inList, by simp [young]⟩)).le⟩

theorem Ordered.others {e : Entry} {l : List Entry} (order : Ordered (e :: l)) :
    ((e :: l).filter fun d => d.kind != e.kind) = l := by
  rw [List.filter_cons_of_neg (by simp), List.filter_eq_self]
  intro d inList
  have absent := (List.nodup_cons.mp order.once).1
  exact bne_iff_ne.mpr fun same => absent (same ▸ List.mem_map_of_mem inList)

/-! ### Read event (O49) -/

section Read

variable {s : State} {x : PortState} {e : Entry} {l : List Entry}

theorem State.renewal_eq (s : State) (x : PortState) (k : EventKind) : s.renewal x k =
    if k ∈ levelKinds ∧ s.levelHolds k = true ∧ x.enabled k = true then
      [⟨k, if k = .recordOwed then s.owed.head?.getD 0 else s.router.details.get k, false, true⟩] else [] := by
  have detail : s.renewalDetail k = if k = .recordOwed then s.owed.head?.getD 0 else s.router.details.get k := by
    cases k <;> rfl
  rw [State.renewal, detail]
  by_cases due : s.levelHolds k = true ∧ x.enabled k = true
  · rw [if_pos (c := (_ && _) = true) (by simp [due]), if_pos (c := _ ∧ _) ⟨State.levelHolds_mem due.1, due⟩]
  · rw [if_neg (c := (_ && _) = true) (by simpa [and_comm] using due), if_neg (c := _ ∧ _) fun all => due all.2]

theorem State.afterRead_eq (s : State) (x : PortState) (e : Entry) : s.afterRead x e =
    { x with
      pending := x.pending.tail ++ s.renewal x e.kind, lineLow := !(x.pending.tail ++ s.renewal x e.kind).isEmpty
      attention := if x.pending.tail ++ s.renewal x e.kind = [] then none else some 32768 } := by
  unfold State.afterRead
  cases left : x.pending.tail ++ s.renewal x e.kind <;> rfl

theorem State.afterRead_lawful (order : Ordered x.pending) (first : x.pending = e :: l) : (s.afterRead x e).Lawful := by
  rw [first] at order
  have absent : ∀ d ∈ l, d.kind ≠ e.kind := fun d inList same =>
    (List.nodup_cons.mp order.once).1 (same ▸ List.mem_map_of_mem inList)
  have order' : Ordered (x.pending.tail ++ s.renewal x e.kind) := by
    rw [first, List.tail_cons, State.renewal_eq]
    split
    next due => exact order.tail.renew due.1 absent _
    · simpa using order.tail
  rw [State.afterRead_eq, PortState.lawful_iff]
  refine ⟨order', fun low => by simpa using low, ?_⟩
  cases x.pending.tail ++ s.renewal x e.kind <;> simp

end Read

theorem Entry.flags_eq (e : Entry) :
    e.flags = BitVec.ofNat 8 ((if e.overrun = true then 1 else 0) + if e.renewed = true then 2 else 0) := by
  unfold Entry.flags
  cases e.overrun <;> cases e.renewed <;> rfl

/-- Settles O49. -/
theorem readEventTakesFirst : Obligations.ReadEventTakesFirst := by
  intro s p x running port law
  subst port
  have reads : exec (.readEvent p) s = .next _ := congrArg Host.Outcome.next (State.command_eq running (mem_anyRole p) _)
  refine ⟨fun empty => ?_, fun some_left => ?_⟩
  · rw [reads]
    simp [PortState.first, empty]
  · obtain ⟨e, l, pending⟩ := List.exists_cons_of_ne_nil some_left
    have order : Ordered (e :: l) := pending ▸ (PortState.lawful_iff.mp law).1
    refine ⟨e, l ++ s.renewal (s.port p) e.kind, by simp [pending], ?_, fun _ => by simp [pending], ?_, ?_⟩
    · rw [pending]
      exact order.head
    · rw [pending, order.others, State.renewal_eq]
    · rw [reads]
      simp [PortState.first, pending, State.afterRead_eq, Entry.flags_eq, beBytes_one]

/-! ### The latches of level conditions (R196, R197) -/

section Levels

variable {s : State} {x : PortState} {kinds : List EventKind} {l : List Entry}

/-- The entry that an enabling or a reset latches for a level kind. -/
def State.levelEntry (s : State) (k : EventKind) : Entry := ⟨k, s.router.details.get k, false, false⟩

/-- A pending set once the level kinds of a list have been latched where their conditions hold. -/
def State.latchedLevels (s : State) (kinds : List EventKind) (l : List Entry) : List Entry :=
  kinds.foldl (fun m k => if s.levelHolds k then insertFresh (s.levelEntry k) m else m) l

theorem State.latchedLevels_cons (k : EventKind) :
    s.latchedLevels (k :: kinds) l = s.latchedLevels kinds (if s.levelHolds k then insertFresh (s.levelEntry k) l else l) := rfl

theorem State.latchLevels_eq (s : State) (x : PortState) (kinds : List EventKind) :
    s.latchLevels x kinds = { x with pending := s.latchedLevels kinds x.pending } := by
  induction kinds generalizing x with
  | nil => rfl
  | cons k rest ih =>
    rw [State.latchedLevels_cons]
    unfold State.latchLevels at ih ⊢
    rw [List.foldl_cons, ih]
    split <;> rfl

theorem State.mem_latchedLevels {e : Entry} :
    e ∈ s.latchedLevels kinds l ↔ e ∈ l ∨ ∃ k ∈ kinds, s.levelHolds k = true ∧ e = s.levelEntry k := by
  induction kinds generalizing l with
  | nil => simp [State.latchedLevels]
  | cons k rest ih =>
    rw [State.latchedLevels_cons, ih]
    split
    next due => simp [mem_insertFresh, due, or_assoc, or_left_comm]
    next idle => simp [idle]

theorem Ordered.latchedLevels (order : Ordered l) (once : kinds.Nodup) (absent : ∀ k ∈ kinds, ∀ e ∈ l, e.kind ≠ k) :
    Ordered (s.latchedLevels kinds l) := by
  induction kinds generalizing l with
  | nil => exact order
  | cons k rest ih =>
    obtain ⟨new, once'⟩ := List.nodup_cons.mp once
    rw [State.latchedLevels_cons]
    have absent' : ∀ j ∈ rest, ∀ e ∈ l, e.kind ≠ j := fun j inRest => absent j (List.mem_cons_of_mem _ inRest)
    split
    · refine ih (order.insertFresh rfl (absent k List.mem_cons_self)) once' fun j inRest e listed => ?_
      obtain rfl | inList := mem_insertFresh.mp listed
      · exact fun same => new (by rwa [show k = j from same])
      · exact absent' j inRest e inList
    · exact ih order once' absent'

theorem insertFresh_after {e : Entry} (after : ∀ x ∈ l, x.renewed = false ∧ x.kind.number ≤ e.kind.number) :
    insertFresh e l = l ++ [e] := by
  induction l with
  | nil => rfl
  | cons x rest ih =>
    obtain ⟨young, below⟩ := after x List.mem_cons_self
    have later : ¬ (x.renewed || decide (e.kind.number < x.kind.number)) = true := by
      simpa [young] using below
    rw [insertFresh, if_neg later, ih fun y inRest => after y (List.mem_cons_of_mem _ inRest), List.cons_append]

/-- Kinds latched by rising number stand in that order. -/
theorem State.latchedLevels_rising (rising : kinds.Pairwise fun j k => j.number ≤ k.number)
    (after : ∀ e ∈ l, e.renewed = false ∧ ∀ k ∈ kinds, e.kind.number ≤ k.number) :
    s.latchedLevels kinds l = l ++ (kinds.filter s.levelHolds).map s.levelEntry := by
  induction kinds generalizing l with
  | nil => simp [State.latchedLevels]
  | cons k rest ih =>
    obtain ⟨first, rising'⟩ := List.pairwise_cons.mp rising
    have after' : ∀ e ∈ l, e.renewed = false ∧ ∀ j ∈ rest, e.kind.number ≤ j.number := fun e listed =>
      ⟨(after e listed).1, fun j inRest => (after e listed).2 j (List.mem_cons_of_mem _ inRest)⟩
    rw [State.latchedLevels_cons]
    split
    next due =>
      rw [insertFresh_after fun e listed => ⟨(after e listed).1, (after e listed).2 k List.mem_cons_self⟩, ih rising' fun e listed => ?_,
        List.filter_cons_of_pos due]
      · simp
      · obtain inList | only := List.mem_append.mp listed
        · exact after' e inList
        · obtain rfl := List.mem_singleton.mp only
          exact ⟨rfl, first⟩
    next idle => rw [ih rising' after', List.filter_cons_of_neg idle]

end Levels

/-! ### Enables, port reset and the attention timer (O50) -/

section Enables

variable {s : State} {x : PortState} {set : BitVec 27}

/-- The level kinds that a new enable set adds with no entry of theirs pending. -/
def PortState.added (x : PortState) (set : BitVec 27) : List EventKind :=
  levelKinds.filter fun k => set.getLsbD k.number && !x.enabled k && !x.holds k

theorem State.replaceEnables_eq (s : State) (x : PortState) (set : BitVec 27) : s.replaceEnables x set =
    { x with
      enables := set, pending := s.latchedLevels (x.added set) x.pending
      lineLow := x.lineLow || (x.pending.isEmpty && !(s.latchedLevels (x.added set) x.pending).isEmpty)
      attention := if x.pending = [] ∧ s.latchedLevels (x.added set) x.pending ≠ [] then some 32768 else x.attention } := by
  unfold State.replaceEnables
  simp only [State.latchLevels_eq]
  rw [show (levelKinds.filter fun k => set.getLsbD k.number && !x.enabled k && !x.holds k) = x.added set from rfl]
  by_cases first : x.pending = [] ∧ s.latchedLevels (x.added set) x.pending ≠ []
  · rw [if_pos (by simpa using first), if_pos first]
    have some_left : s.latchedLevels (x.added set) [] ≠ [] := first.1 ▸ first.2
    simp [first.1, some_left, PortState.pullLow, Config.attentionPeriods]
  · have kept : ¬ (x.pending.isEmpty && !(s.latchedLevels (x.added set) x.pending).isEmpty) = true := by simpa using first
    rw [if_neg kept, if_neg first, Bool.eq_false_iff.mpr kept, Bool.or_false]

theorem State.replaceEnables_lawful (law : x.Lawful) : (s.replaceEnables x set).Lawful := by
  obtain ⟨order, low, timed⟩ := PortState.lawful_iff.mp law
  have order' : Ordered (s.latchedLevels (x.added set) x.pending) := by
    refine order.latchedLevels (List.Nodup.filter _ (by decide)) fun k listed e pending same => ?_
    obtain ⟨-, added⟩ := List.mem_filter.mp listed
    have unheld : x.holds k = false := by simp_all
    exact absurd (List.any_eq_true.mpr ⟨e, pending, by simp [same]⟩) (Bool.eq_false_iff.mp unheld)
  have grows : x.pending ≠ [] → s.latchedLevels (x.added set) x.pending ≠ [] := fun some_left => by
    obtain ⟨e, l, pending⟩ := List.exists_cons_of_ne_nil some_left
    exact List.ne_nil_of_mem (State.mem_latchedLevels.mpr (.inl (pending ▸ List.mem_cons_self)))
  rw [State.replaceEnables_eq, PortState.lawful_iff]
  refine ⟨order', fun falls => ?_, ?_⟩
  · obtain was | first := Bool.or_eq_true_iff.mp falls
    · exact grows (low was)
    · simpa using (Bool.and_eq_true_iff.mp first).2
  · dsimp only
    by_cases first : x.pending = [] ∧ s.latchedLevels (x.added set) x.pending ≠ []
    · have some_left : s.latchedLevels (x.added set) [] ≠ [] := first.1 ▸ first.2
      rw [if_pos first]
      simp [first.1, some_left]
    · have kept : ¬ (x.pending.isEmpty && !(s.latchedLevels (x.added set) x.pending).isEmpty) = true := by simpa using first
      rw [if_neg first, Bool.eq_false_iff.mpr kept, Bool.or_false, timed]

theorem State.portAfterReset_eq (s : State) (x : PortState) : s.portAfterReset x =
    { x with
      enables := 0x7ffffff, pending := (levelKinds.filter s.levelHolds).map s.levelEntry, truncated := false
      lineLow := !((levelKinds.filter s.levelHolds).map s.levelEntry).isEmpty
      attention := if (levelKinds.filter s.levelHolds).map s.levelEntry = [] then none else some 32768 } := by
  unfold State.portAfterReset
  simp only [State.latchLevels_eq]
  rw [State.latchedLevels_rising (by decide) (by simp), List.nil_append]
  cases (levelKinds.filter s.levelHolds).map s.levelEntry <;> rfl

theorem State.portAfterReset_lawful : (s.portAfterReset x).Lawful := by
  have order : Ordered ((levelKinds.filter s.levelHolds).map s.levelEntry) := by
    rw [← List.nil_append (List.map _ _), ← State.latchedLevels_rising (l := []) (by decide) (by simp)]
    exact ordered_nil.latchedLevels (by decide) (by simp)
  rw [State.portAfterReset_eq, PortState.lawful_iff]
  refine ⟨order, fun low => by simpa using low, ?_⟩
  cases (levelKinds.filter s.levelHolds).map s.levelEntry <;> rfl

theorem PortState.Lawful.release (law : x.Lawful) : x.release.Lawful := by
  obtain ⟨order, -, -⟩ := PortState.lawful_iff.mp law
  exact PortState.lawful_iff.mpr ⟨order, nofun, rfl⟩

end Enables

/-- Settles O50. -/
theorem enablesResetAndAttention : Obligations.EnablesResetAndAttention := by
  intro s p x port
  subst port
  refine ⟨fun set running => ⟨fun large => ?_, fun small => ?_⟩, fun running => ?_, fun r runs timed => ?_⟩
  · refine congrArg _ ((State.command_eq running (mem_anyRole p) _).trans ?_)
    rw [if_neg (Nat.not_lt.mpr large)]
    rfl
  · refine ⟨s.latchedLevels ((s.port p).added (set.setWidth 27)) (s.port p).pending,
      congrArg _ ((State.command_eq running (mem_anyRole p) _).trans ?_), fun e => ?_⟩
    · rw [if_pos small, State.replaceEnables_eq]
    · simp only [State.mem_latchedLevels, PortState.added, List.mem_filter, and_assoc]
      refine or_congr_right (exists_congr fun k => and_congr_right fun level => ?_)
      have below : k.number < 27 := by revert level; cases k <;> decide
      simp [State.levelEntry, below, and_assoc]
  · refine ⟨(levelKinds.filter s.levelHolds).map s.levelEntry,
      congrArg _ ((State.command_eq running (mem_anyRole p) _).trans ?_), rfl⟩
    rw [State.portAfterReset_eq]
    rfl
  · refine congrArg _ ((State.onExpiry_runs runs timed _).trans ?_)
    rw [State.elapse_port runs]
    rfl

end Sys2Proof.Machine

/-! PROOF. The power lines and the end of initialization (10): O45 and O46. -/

namespace Sys2Proof.Machine

/-! ### The start values (R173, R177) -/

section Start

variable {s : State} {kind : StartKind}

theorem State.startValues_account (tables : s.TablesLaw) (a : Nat) : s.startValues.account a = { s.account a with count := 0 } := by
  obtain ⟨-, -, accounts, -⟩ := tables
  exact Table.get_update accounts rfl a

theorem State.startValues_agreement (tables : s.TablesLaw) (i : Nat) :
    s.startValues.agreement i = { s.agreement i with count := 0 } := by
  obtain ⟨-, agreements, -⟩ := tables
  exact Table.get_update agreements rfl i

theorem eligibleFor_unknown (c : LinkConfig) : eligibleFor c none false = (c.loaded && c.kind == .satellite) := by
  unfold eligibleFor
  cases c.kind <;> rfl

theorem State.startValues_link (i : Slot) :
    s.startValues.link i = { Link.start with eligible := (s.linkConfig.get i).loaded && (s.linkConfig.get i).kind == .satellite } := by
  rw [← eligibleFor_unknown]
  exact Slots.get_map _ _ i

theorem State.beginStart_started (tables : s.TablesLaw) (kind : StartKind) : s.StartedFrom (s.beginStart kind) kind := by
  cases kind with
  | cold =>
    exact ⟨rfl, rfl, rfl, nofun, fun _ => ⟨rfl, rfl, rfl, rfl, rfl, rfl, rfl, rfl, rfl⟩, rfl, rfl, rfl, rfl, rfl, rfl, rfl, rfl,
      fun i => State.startValues_link i⟩
  | warm =>
    exact ⟨rfl, rfl, rfl, fun _ => ⟨rfl, rfl, rfl, rfl, rfl, rfl, rfl, State.startValues_account tables,
      State.startValues_agreement tables⟩, nofun, rfl, rfl, rfl, rfl, rfl, rfl, rfl, rfl, fun i => State.startValues_link i⟩

theorem State.startKindNow_eq : s.startKindNow = if s.backupValid = true then .warm else .cold := rfl

end Start

/-- Settles O45. -/
theorem powerLinesMoveSupervisor : Obligations.PowerLinesMoveSupervisor := by
  intro s tables
  refine ⟨fun off high => ⟨s.beginStart s.startKindNow, ?_, State.beginStart_started tables _⟩, fun off low => ?_, fun on => ?_,
    fun off => congrArg _ (if_pos off), fun on => ⟨s.losePower, s.beginStart .warm, congrArg _ (if_neg on),
      State.beginStart_started tables _, rfl⟩, fun stopped => ?_, fun on out => ?_,
    fun reset => ⟨({ s with pins := { s.pins with resetHigh := true } } : State).beginStart s.startKindNow,
      congrArg _ (if_pos reset), State.beginStart_started (s := { s with pins := { s.pins with resetHigh := true } }) tables _⟩, fun out => congrArg _ (if_neg out),
    fun on => congrArg _ (if_neg on), fun off => congrArg _ (if_pos off)⟩
  · change execMainPowerRises s = _
    simp only [execMainPowerRises, off, high, if_true]
  · change execMainPowerRises s = _
    simp [execMainPowerRises, off, low]
  · change execMainPowerRises s = _
    unfold execMainPowerRises
    cases supervisor : s.power.supervisor with
    | off => exact absurd supervisor on
    | reset => rfl
    | initializing => rfl
    | running => rfl
    | flushed => rfl
  · change execResetLineFalls s = _
    unfold execResetLineFalls
    obtain off | reset := stopped
    · simp only [off]
    · simp only [reset]
  · change execResetLineFalls s = _
    unfold execResetLineFalls
    cases supervisor : s.power.supervisor with
    | off => exact absurd supervisor on
    | reset => exact absurd supervisor out
    | initializing => rfl
    | running => rfl
    | flushed => rfl

/-! ### The latches of a start (R178) -/

/-- The occurrences that the end of initialization latches. -/
def State.startLatches (s : State) : List (EventKind × Nat) :=
  [(.warmStart, s.power.startKind.code), (.shoreDark, 255)] ++ (if s.queue.records.isEmpty then [] else [(.recordReady, 0)])
    ++ (if s.queueHasRoom then [] else [(.queueFull, 0)]) ++ (if s.clock.notSet then [(.clockNotSet, 0)] else [])

theorem State.latchStart_eq (s : State) : s.latchStart = { s with router := s.router.occurs s.startLatches } := by
  have first : ∀ t : State, (if t.queue.records.isEmpty then t else t.raise .recordReady 0) =
      { t with router := t.router.occurs (if t.queue.records.isEmpty then [] else [(.recordReady, 0)]) } := fun t => by
    split <;> rfl
  have second : ∀ t : State, (if t.queueHasRoom then t else t.raise .queueFull 0) =
      { t with router := t.router.occurs (if t.queueHasRoom then [] else [(.queueFull, 0)]) } := fun t => by
    split <;> rfl
  have third : ∀ t : State, (if t.clock.notSet then t.raise .clockNotSet 0 else t) =
      { t with router := t.router.occurs (if t.clock.notSet then [(.clockNotSet, 0)] else []) } := fun t => by
    split <;> rfl
  refine (third _).trans ?_
  rw [second, first, State.startLatches]
  simp only [Router.occurs_append]
  rfl

theorem State.startLatches_rising (s : State) : s.startLatches.Pairwise fun a b => a.1.number < b.1.number := by
  unfold State.startLatches
  generalize s.power.startKind.code = d
  cases s.queue.records.isEmpty <;> cases s.queueHasRoom <;> cases s.clock.notSet <;> simp [EventKind.number]

section Run

variable {r : Router} {p : Port} {l : List (EventKind × Nat)}

/-- The entry a first occurrence latches. -/
def firstEntry (e : EventKind × Nat) : Entry := ⟨e.1, e.2, false, false⟩

theorem PortState.latchedPending_after {x : PortState} {k : EventKind}
    (after : ∀ e ∈ x.pending, e.renewed = false ∧ e.kind.number < k.number) (d : Nat) :
    x.latchedPending k d = x.pending ++ [firstEntry (k, d)] := by
  have differ : ∀ e ∈ x.pending, e.kind ≠ k := fun e pending same => by simpa [same] using (after e pending).2
  have unheld : x.holds k = false := by
    rw [Bool.eq_false_iff, Ne, PortState.holds, List.any_eq_true]
    rintro ⟨e, pending, same⟩
    exact differ e pending (by simpa using same)
  rw [PortState.latchedPending, unheld, List.filter_eq_self.mpr fun e pending => bne_iff_ne.mpr (differ e pending)]
  exact insertFresh_after fun e pending => ⟨(after e pending).1, (after e pending).2.le⟩

/-- Occurrences of kinds that rise, on a port that holds none from them on, are latched in their order. -/
theorem Router.occurs_rising (rising : l.Pairwise fun a b => a.1.number < b.1.number)
    (on : ∀ k, (r.port p).enabled k = true) (low : (r.port p).lineLow = true)
    (after : ∀ e ∈ (r.port p).pending, e.renewed = false ∧ ∀ o ∈ l, e.kind.number < o.1.number) :
    (r.occurs l).port p = { r.port p with pending := (r.port p).pending ++ l.map firstEntry } := by
  induction l generalizing r with
  | nil => simp
  | cons o rest ih =>
    obtain ⟨first, rising'⟩ := List.pairwise_cons.mp rising
    have latched : (r.occur o.1 o.2).port p = { r.port p with pending := (r.port p).pending ++ [firstEntry o] } := by
      rw [Router.port_occur, PortState.latch_of_enabled (on o.1), PortState.latchedPending_after fun e pending =>
        ⟨(after e pending).1, (after e pending).2 o List.mem_cons_self⟩, if_pos low, ← low]
    rw [Router.occurs_cons, ih rising' (by rw [latched]; exact on) (by rw [latched]; exact low) fun e listed => ?_, latched]
    · simp
    · rw [latched] at listed
      obtain pending | only := List.mem_append.mp listed
      · exact ⟨(after e pending).1, fun q inRest => (after e pending).2 q (List.mem_cons_of_mem _ inRest)⟩
      · obtain rfl := List.mem_singleton.mp only
        exact ⟨rfl, first⟩

/-- The same on a port that holds nothing: its line falls with the first. -/
theorem Router.occurs_first {o : EventKind × Nat} (rising : (o :: l).Pairwise fun a b => a.1.number < b.1.number)
    (on : ∀ k, (r.port p).enabled k = true) (empty : (r.port p).pending = []) (high : (r.port p).lineLow = false) :
    (r.occurs (o :: l)).port p =
      { r.port p with pending := (o :: l).map firstEntry, lineLow := true, attention := some 32768 } := by
  obtain ⟨first, rising'⟩ := List.pairwise_cons.mp rising
  have latched : (r.occur o.1 o.2).port p =
      { r.port p with pending := [firstEntry o], lineLow := true, attention := some 32768 } := by
    rw [Router.port_occur, PortState.latch_of_enabled (on o.1), PortState.latchedPending_after (by simp [empty]), empty, high]
    rfl
  rw [Router.occurs_cons, Router.occurs_rising rising' (by rw [latched]; exact on) (by rw [latched]) fun e listed => ?_, latched]
  · rfl
  · rw [latched] at listed
    obtain rfl := List.mem_singleton.mp listed
    exact ⟨rfl, first⟩

end Run

/-- Settles O46. -/
theorem initializationLatchesStart : Obligations.InitializationLatchesStart := by
  intro s starting ports
  obtain ⟨u, started⟩ : ∃ u : State, u = { s with
      power := { s.power with supervisor := .running, initTime := 0 }, backupValid := true, period := s.clock.periodNow
      rating := Rating.start s.clock.periodNow, sweep := { Sweep.start s.params.lapsePeriod with timer := some 0 }
      bridge := s.bridge.atStart s.pins.bridgeHigh } := ⟨_, rfl⟩
  have ends : exec .initializationEnds s = .next (if u.latchStart.pins.warning then u.latchStart.flush else u.latchStart) := by
    rw [started]
    exact congrArg _ (if_pos starting)
  have warning : u.latchStart.pins.warning = s.pins.warning := by rw [State.latchStart_eq, started]
  refine ⟨u.latchStart, ?_, fun p => ?_, fun quiet => ?_, fun warned => ?_⟩
  · rw [State.latchStart_eq, started]
    rfl
  · obtain ⟨empty, enables, high⟩ := ports p
    have router : u.latchStart.port p = (s.router.occurs u.startLatches).port p := by rw [State.latchStart_eq, started]; rfl
    have on : ∀ k, (s.router.port p).enabled k = true := fun k => by
      rw [PortState.enabled, show (s.router.port p).enables = 0x7ffffff from enables]
      cases k <;> decide
    have kind : s.power.startKind.code = if s.power.startKind = .cold then 0 else 1 := by cases s.power.startKind <;> rfl
    have latches : (u.startLatches).map firstEntry =
        [⟨.warmStart, if s.power.startKind = .cold then 0 else 1, false, false⟩, ⟨.shoreDark, 255, false, false⟩]
          ++ (if s.queue.records = [] then [] else [⟨.recordReady, 0, false, false⟩])
          ++ (if Config.ordinaryLimit ≤ s.queue.records.length then [⟨.queueFull, 0, false, false⟩] else [])
          ++ (if s.clock.notSet = true then [⟨.clockNotSet, 0, false, false⟩] else []) := by
      rw [← kind, started]
      simp only [State.startLatches, State.queueHasRoom, List.map_append, List.isEmpty_iff, decide_eq_true_eq, ← Nat.not_le, ite_not,
        apply_ite (List.map firstEntry)]
      rfl
    rw [router]
    refine (Router.occurs_first (r := s.router) u.startLatches_rising on empty high).trans ?_
    exact congrArg (fun l => { s.port p with pending := l, lineLow := true, attention := some 32768 }) latches
  · rw [ends, warning, quiet]
    rfl
  · rw [ends, warning, if_pos warned]

end Sys2Proof.Machine

/-! SUPPORT. The coverage controller's reports: how often E1 is raised between two states, and the fields each of its moves leaves
(3.5). -/

namespace Sys2Proof.Machine

/-! ### Entries of one kind depend on its occurrences alone -/

/-- Two runs with the same occurrences of a kind, from entries of it that are the same, leave the same entries of it. -/
theorem Router.occurs_filter_congr {r r' : Router} {l : List (EventKind × Nat)} {p : Port} {k : EventKind}
    (enables : (r.port p).enabled k = (r'.port p).enabled k)
    (same : (r.port p).pending.filter (fun e => e.kind == k) = (r'.port p).pending.filter fun e => e.kind == k) :
    ((r.occurs l).port p).pending.filter (fun e => e.kind == k) =
      ((r'.occurs (l.filter fun e => e.1 == k)).port p).pending.filter fun e => e.kind == k := by
  induction l generalizing r r' with
  | nil => exact same
  | cons e l ih =>
    by_cases here : e.1 = k
    · rw [List.filter_cons_of_pos (by simpa using here), Router.occurs_cons, Router.occurs_cons]
      refine ih ?_ ?_
      · rwa [Router.port_occur, Router.port_occur, PortState.latch_enabled, PortState.latch_enabled]
      · rw [Router.port_occur, Router.port_occur, here]
        cases on : (r.port p).enabled k with
        | false => rwa [PortState.latch_of_disabled on, PortState.latch_of_disabled (enables ▸ on)]
        | true =>
          have held : (r.port p).holds k = (r'.port p).holds k := by
            rw [Bool.eq_iff_iff, PortState.holds_iff, PortState.holds_iff, same]
          rw [PortState.latch_filter_same on, PortState.latch_filter_same (enables ▸ on), held]
    · rw [List.filter_cons_of_neg (by simpa using here), Router.occurs_cons]
      refine ih ?_ ?_
      · rwa [Router.port_occur, PortState.latch_enabled]
      · rw [Router.port_occur, PortState.latch_filter_other fun eq => here eq.symm]
        exact same

/-! ### How often E1 is raised -/

/-- Between `s` and `t` E1 is raised `n` times, each time with detail `d`. -/
def State.Reports (s t : State) (n d : Nat) : Prop :=
  ∃ l, t.router = s.router.occurs l
    ∧ (l.filter fun e => e.1 == .coverageChanged) = List.replicate n (.coverageChanged, d)

section Reports

variable {s t u : State} {n m d : Nat} {k : EventKind} {c : Coverage}

theorem State.Reports.of_eq (same : t.router = s.router) (d : Nat) : s.Reports t 0 d := ⟨[], same, rfl⟩

theorem State.Reports.of_quiet {l : List (EventKind × Nat)} (run : t.router = s.router.occurs l)
    (quiet : ∀ e ∈ l, e.1 ≠ .coverageChanged) (d : Nat) : s.Reports t 0 d :=
  ⟨l, run, by simpa using quiet⟩

theorem State.Reports.trans : s.Reports u n d → u.Reports t m d → s.Reports t (n + m) d := by
  rintro ⟨l, first, told⟩ ⟨l', second, told'⟩
  exact ⟨l ++ l', by rw [second, first, Router.occurs_append], by rw [List.filter_append, told, told', List.replicate_add]⟩

theorem State.Reports.tells : s.Reports t n d → s.Tells t := fun ⟨l, run, _⟩ => ⟨l, run⟩

theorem State.Reports.latched : s.Reports t (n + 1) d → s.Latched t .coverageChanged := by
  rintro ⟨l, run, told⟩
  have listed : (EventKind.coverageChanged, d) ∈ l.filter fun e => e.1 == .coverageChanged := by
    rw [told]
    exact List.mem_replicate.mpr ⟨by omega, rfl⟩
  exact State.latched_of_occurs run (List.mem_of_mem_filter listed)

theorem State.raised_router (s : State) (k : EventKind) (d n : Nat) :
    ((fun u : State => u.raise k d)^[n] s).router = s.router.occurs (List.replicate n (k, d)) := by
  induction n generalizing s with
  | zero => rfl
  | succ n ih => rw [Function.iterate_succ_apply, ih, List.replicate_succ, Router.occurs_cons]; rfl

/-- The coverage fields between two states, and E1 as often as it is raised between them. -/
theorem State.Reports.coverageIs (told : s.Reports t n (t.coverage.zone.getD 255))
    (fields : t.coverage = { c with
      zone := t.coverage.zone, lastZone := t.coverage.lastZone, candidate := t.coverage.candidate, fixTimer := t.coverage.fixTimer }) :
    s.CoverageIs t n c := by
  refine ⟨fields, fun p => ?_⟩
  obtain ⟨l, run, told⟩ := told
  rw [State.port, State.port, run, State.raised_router, Router.occurs_filter_congr rfl rfl, told]

/-! ### The moves of the controller -/

theorem State.changeCoverage_reports (s : State) (c : Coverage) : s.Reports (s.changeCoverage c) 1 (c.zone.getD 255) :=
  ⟨[(.coverageChanged, _)], rfl, rfl⟩

/-- The zone side of the controller. -/
def Coverage.zones (c : Coverage) : Option Nat × Option Nat × Option Candidate × Timer := (c.zone, c.lastZone, c.candidate, c.fixTimer)

theorem Coverage.eq_of_zones {c e : Coverage} (zones : c.zones = e.zones) :
    c = { c with zone := e.zone, lastZone := e.lastZone, candidate := e.candidate, fixTimer := e.fixTimer } := by
  obtain ⟨zone, last, candidate, fix⟩ : _ ∧ _ ∧ _ ∧ _ := by simpa [Coverage.zones, Prod.mk.injEq] using zones
  rw [← zone, ← last, ← candidate, ← fix]

/-- The coverage fields after QUALIFYING has been entered, and how often the state has changed (R59 to R61). -/
def Coverage.qualified (c : Coverage) (p : Params) : Coverage × Nat :=
  if p.restoreDelay ≠ 0 then
    ({ c with state := .qualifying, permit := false, restoreTimer := some (p.restoreDelay * Config.periodsPerSecond) }, 1)
  else if p.rampPeriod ≠ 0 then
    ({ c with
        state := .ramping, permit := true, restoreTimer := none, rampTimer := some (p.rampPeriod * Config.periodsPerSecond)
        pacing := p.admissionPace }, 2)
  else ({ c with state := .radiating, permit := true, restoreTimer := none, rampTimer := none, pacing := 0 }, 3)

theorem State.enterQualifying_eq (s : State) : s.enterQualifying = { s with
    coverage := (s.coverage.qualified s.params).1
    router := s.router.occurs
      (List.replicate (s.coverage.qualified s.params).2 (.coverageChanged, s.coverage.zone.getD 255)) } := by
  unfold State.enterQualifying Coverage.qualified
  dsimp only
  by_cases delay : s.params.restoreDelay = 0
  · rw [if_pos delay, if_neg (not_not_intro delay)]
    unfold State.enterRamping
    dsimp only
    by_cases ramp : s.params.rampPeriod = 0
    · rw [if_pos (by exact ramp), if_neg (not_not_intro ramp)]
      rfl
    · rw [if_neg (by exact ramp), if_pos ramp]
      rfl
  · rw [if_neg delay, if_pos delay]
    rfl

theorem Coverage.qualified_zones (c : Coverage) (p : Params) : (c.qualified p).1.zones = c.zones := by
  unfold Coverage.qualified
  split
  · rfl
  · split <;> rfl

theorem State.qualifies_of (fields : t.coverage = { (s.coverage.qualified s.params).1 with
      zone := t.coverage.zone, lastZone := t.coverage.lastZone, candidate := t.coverage.candidate, fixTimer := t.coverage.fixTimer })
    (told : s.Reports t (s.coverage.qualified s.params).2 (t.coverage.zone.getD 255)) : s.Qualifies t := by
  have is := told.coverageIs fields
  unfold Coverage.qualified at is
  refine ⟨fun delay => ?_, fun delay ramp => ?_, fun delay ramp => ?_⟩
  · rwa [if_pos delay] at is
  · rwa [if_neg (not_not_intro delay), if_pos ramp] at is
  · rwa [if_neg (not_not_intro delay), if_neg (not_not_intro ramp)] at is

theorem State.qualifies_enterQualifying (s : State) : s.Qualifies s.enterQualifying := by
  have zones : s.enterQualifying.coverage.zones = s.coverage.zones := by
    rw [State.enterQualifying_eq]
    exact Coverage.qualified_zones _ _
  have zone : s.enterQualifying.coverage.zone = s.coverage.zone := congrArg Prod.fst zones
  refine State.qualifies_of ?_ ?_
  · have fields : s.enterQualifying.coverage = (s.coverage.qualified s.params).1 := by rw [State.enterQualifying_eq]
    rw [fields]
  · rw [zone, State.enterQualifying_eq]
    exact ⟨_, rfl, by simp⟩

/-- The fields of SILENT, with the permit low. -/
theorem State.changeCoverage_silenced (s : State) : s.changeCoverage s.coverage.silenced = { s with
    coverage := s.coverage.stopped, router := s.router.occurs [(.coverageChanged, s.coverage.zone.getD 255)] } := rfl

theorem Coverage.stopped_zones (c : Coverage) : c.stopped.zones = c.zones := rfl

end Reports

end Sys2Proof.Machine

/-! SUPPORT. Service withdrawn and ended (1.8, 3.5): the drain order, the closing of whoever is served, and the judgement of coverage. -/

namespace Sys2Proof.Machine

section Service

variable {s t u v : State}

/-! ### Who is served -/

theorem State.mem_servedHandles (canonical : s.sessions.wf Session.free Config.sessionCount = true) {h : Nat} :
    h ∈ s.servedHandles ↔ (s.session h).served = true := by
  rw [State.servedHandles, ← State.mem_handlesOf canonical (f := Session.served) rfl, State.handlesOf, Table.keys_eq canonical rfl]
  rfl

theorem State.servedHandles_nodup (s : State) : s.servedHandles.Nodup := List.nodup_range.filter _

theorem State.servedHandles_congr (same : ∀ h, (t.session h).served = (s.session h).served) : t.servedHandles = s.servedHandles :=
  List.filter_congr fun h _ => same h

theorem State.servedCount_eq_zero_iff (canonical : s.sessions.wf Session.free Config.sessionCount = true) :
    s.servedCount = 0 ↔ s.servedHandles = [] := by
  rw [State.servedCount, Table.count_eq_zero_iff canonical rfl, List.eq_nil_iff_forall_not_mem]
  simp only [State.mem_servedHandles canonical, Bool.not_eq_true]
  rfl

/-! ### The drain order (R20) -/

/-- A session as the drain order leaves it. -/
def Session.draining (x : Session) : Session := if x.served = true then { x with state := .draining } else x

theorem Session.drained_eq (x : Session) : x.drained = x.draining := by
  unfold Session.drained Session.draining
  obtain ⟨state⟩ := x
  cases state <;> rfl

theorem Session.draining_served (x : Session) : x.draining.served = x.served := by
  unfold Session.draining
  split
  next served => rw [served]; rfl
  · rfl

theorem Session.draining_idem (x : Session) : x.draining.draining = x.draining := by
  unfold Session.draining
  by_cases served : x.served = true
  · rw [if_pos served]
    exact if_pos rfl
  · rw [if_neg served, if_neg served]

theorem Session.draining_of_all {x : Session} (drains : x.served = true → x.state = .draining) : x.draining = x := by
  unfold Session.draining
  split
  next served => rw [← drains served]
  · rfl

theorem State.drainOrder_session (canonical : s.sessions.wf Session.free Config.sessionCount = true) (h : Nat) :
    s.drainOrder.session h = (s.session h).draining := by
  rw [(State.rewrites_drainOrder canonical).session, Session.drained_eq]

theorem State.drainOrder_wf (canonical : s.sessions.wf Session.free Config.sessionCount = true) :
    s.drainOrder.sessions.wf Session.free Config.sessionCount = true :=
  (State.rewrites_drainOrder canonical).canonical canonical

theorem State.drainOrder_eq (s : State) : s.drainOrder = { s with sessions := s.drainOrder.sessions } := by
  obtain ⟨x, framed⟩ := s.drainOrder_frame
  rw [framed]

/-! ### The end-of-drain order (R21) -/

theorem Session.draining_state {x : Session} (served : x.draining.served = true) : x.draining.state = .draining := by
  rw [Session.draining_served] at served
  rw [Session.draining, if_pos served]

/-- Where everyone served is DRAINING, the end-of-drain order closes whoever is served. -/
theorem State.endOfDrain_eq (canonical : u.sessions.wf Session.free Config.sessionCount = true)
    (drains : ∀ h, (u.session h).served = true → (u.session h).state = .draining) :
    u.endOfDrain = u.servedHandles.foldl (fun t h => t.closeSession h .coverageEnd) u := by
  have listed : (u.handlesOf fun x => x.state == .draining) = u.servedHandles := by
    rw [State.handlesOf, Table.keys_eq canonical rfl]
    refine List.filter_congr fun h _ => ?_
    rw [Bool.eq_iff_iff, beq_iff_eq]
    exact ⟨fun state => Session.served_iff.mpr (.inr (.inr state)), drains h⟩
  rw [State.endOfDrain, listed]

theorem State.endOfDrain_closes (canonical : u.sessions.wf Session.free Config.sessionCount = true)
    (drains : ∀ h, (u.session h).served = true → (u.session h).state = .draining) :
    u.Closes u.endOfDrain .coverageEnd (u.servedHandles.take (Config.ordinaryLimit - u.queue.records.length))
      (u.servedHandles.drop (Config.ordinaryLimit - u.queue.records.length)) := by
  rw [State.endOfDrain_eq canonical drains]
  exact State.closes_foldl .coverageEnd u.servedHandles_nodup

theorem State.Closes.reports {reason : CloseReason} {freed waiting : List Nat} (closes : s.Closes t reason freed waiting) (d : Nat) :
    s.Reports t 0 d := by
  obtain ⟨l, run, kinds, -⟩ := closes.told
  exact .of_quiet run (fun e listed => by obtain kind | kind | kind := kinds e listed <;> simp [kind]) d

/-- `u` holds the tables of `s` with everyone served made DRAINING. -/
structure State.Readied (s u : State) : Prop where
  session : ∀ h, u.session h = (s.session h).draining
  owed : u.owed = s.owed
  queue : u.queue = s.queue
  accounts : u.accounts = s.accounts
  agreements : u.agreements = s.agreements
  clock : u.clock = s.clock
  tells : s.Tells u

theorem State.Readied.servedHandles (ready : s.Readied u) : u.servedHandles = s.servedHandles :=
  State.servedHandles_congr fun h => by rw [ready.session, Session.draining_served]

theorem State.Readied.closeRecord (ready : s.Readied u) (canonical : s.sessions.wf Session.free Config.sessionCount = true) {h : Nat}
    (listed : h ∈ s.servedHandles) : u.closeRecord .coverageEnd h = s.coverageRecord h := by
  have served := (State.mem_servedHandles canonical).mp listed
  rw [State.closeRecord, State.coverageRecord, ready.session, Session.draining, if_pos served, State.stamp, ready.clock]
  rfl

theorem State.Readied.drains (ready : s.Readied u) : s.Drains u :=
  ⟨ready.session, ready.owed, ready.queue, ready.accounts, ready.agreements⟩

/-- What an end-of-drain order closes then (R21). -/
theorem State.Readied.closesServed {room : Nat} (ready : s.Readied u) (canonical : s.sessions.wf Session.free Config.sessionCount = true)
    (occupied : s.queue.records.length ≤ s.queue.mark) (roomIs : room = Config.ordinaryLimit - s.queue.records.length)
    (closes : u.Closes t .coverageEnd (s.servedHandles.take room) (s.servedHandles.drop room)) : s.ClosesServed t := by
  rintro freed waiting freedIs waitingIs
  rw [← roomIs] at freedIs waitingIs
  rw [← freedIs, ← waitingIs] at closes
  have inFreed : ∀ h ∈ freed, h ∈ s.servedHandles := fun h listed => List.mem_of_mem_take (freedIs ▸ listed)
  have inWaiting : ∀ h ∈ waiting, h ∈ s.servedHandles := fun h listed => List.mem_of_mem_drop (waitingIs ▸ listed)
  have party : ∀ h ∈ freed, (u.session h).account = (s.session h).account ∧ (u.session h).agreement = (s.session h).agreement :=
    fun h _ => by
      rw [ready.session, Session.draining]
      split <;> exact ⟨rfl, rfl⟩
  have account : ∀ a, u.account a = s.account a := fun a => by rw [State.account, ready.accounts]; rfl
  have agreement : ∀ i, u.agreement i = s.agreement i := fun i => by rw [State.agreement, ready.agreements]; rfl
  obtain ⟨l, run, kinds, first, fills, owes⟩ := closes.told
  have latched : ∀ {k d}, (k, d) ∈ l → s.Latched t k := fun {k d} listed => by
    obtain ⟨m, before⟩ := ready.tells
    exact State.latched_of_occurs (l := m ++ l) (d := d) (by rw [run, before, Router.occurs_append]) (List.mem_append_right _ listed)
  refine ⟨?_, ?_, by rw [closes.owed, ready.owed], fun h => ?_, fun a => ?_, fun i => ?_, fun empty some_freed => ?_,
    fun below full => ?_, fun none_owed some_waits => ?_⟩
  · rw [closes.records, ready.queue, List.map_congr_left fun h listed => ready.closeRecord canonical (inFreed h listed)]
  · rw [closes.mark (by rw [ready.queue]; exact occupied), ready.queue]
  · rw [closes.session]
    split
    · rfl
    · split
      next waits =>
        have served := (State.mem_servedHandles canonical).mp (inWaiting h waits)
        rw [ready.session, Session.draining, if_pos served]
        rfl
      next freed' waits' =>
        have unserved : ¬ (s.session h).served = true := fun served => by
          have listed := (State.mem_servedHandles canonical).mpr served
          rw [← List.take_append_drop room s.servedHandles, ← freedIs, ← waitingIs, List.mem_append] at listed
          exact listed.elim freed' waits'
        rw [ready.session, Session.draining, if_neg unserved]
  · rw [closes.account, account, List.countP_congr fun h listed => by rw [(party h listed).1]]
  · rw [closes.agreement, agreement, List.countP_congr fun h listed => by rw [(party h listed).2]]
  · obtain ⟨d, listed⟩ := first (by rw [ready.queue]; exact empty) some_freed
    exact latched listed
  · obtain ⟨d, listed⟩ := fills (by rw [ready.queue]; exact below) full
    exact latched listed
  · obtain ⟨d, listed⟩ := owes (by rw [ready.owed]; exact none_owed) some_waits
    exact latched listed

theorem State.Readied.wf_drains (ready : s.Readied u) (h : Nat) (served : (u.session h).served = true) :
    (u.session h).state = .draining := by
  rw [ready.session] at served ⊢
  exact Session.draining_state served

/-- The end-of-drain order among drained sessions. -/
theorem State.Readied.endOfDrain (ready : s.Readied u) (canonical : s.sessions.wf Session.free Config.sessionCount = true)
    (canonical' : u.sessions.wf Session.free Config.sessionCount = true) (occupied : s.queue.records.length ≤ s.queue.mark) :
    s.ClosesServed u.endOfDrain := by
  have closes := State.endOfDrain_closes canonical' ready.wf_drains
  rw [ready.servedHandles, ready.queue] at closes
  exact ready.closesServed canonical occupied rfl closes

/-- Whoever was served is closed. -/
theorem State.ClosesServed.unserved (closed : s.ClosesServed t) (canonical : s.sessions.wf Session.free Config.sessionCount = true) (h : Nat) :
    (t.session h).served = false := by
  obtain ⟨-, -, -, session, -⟩ := closed _ _ rfl rfl
  rw [session]
  split
  · rfl
  · split
    · rfl
    next freed waits =>
      rw [Bool.eq_false_iff]
      intro served
      have listed := (State.mem_servedHandles canonical).mpr served
      rw [← List.take_append_drop (Config.ordinaryLimit - s.queue.records.length) s.servedHandles, List.mem_append] at listed
      exact listed.elim freed waits

end Service

end Sys2Proof.Machine

/-! SUPPORT. The judgement of coverage (R58 to R65): what a gain and a loss of radiation do to the controller and to whom the ship
serves. -/

namespace Sys2Proof.Machine

section Judgement

variable {s t u v w : State} {grace n d : Nat}

/-! ### What the judgement looks at -/

theorem State.radiationAllowed_congr (zone : t.coverage.zone = s.coverage.zone) (zones : t.zones = s.zones)
    (standing : t.bridge.standing = s.bridge.standing) (flushing : t.power.flushing = s.power.flushing) :
    t.radiationAllowed = s.radiationAllowed := by
  simp only [State.radiationAllowed, State.zoneRecord, zone, zones, standing, flushing]

/-- Service may have been told of an order before the controller changes: `w` is `v` with a zone changed, or sessions drained and
judged. -/
structure State.Prepares (v w : State) : Prop where
  canonical : v.sessions.wf Session.free Config.sessionCount = true
  canonical' : w.sessions.wf Session.free Config.sessionCount = true
  occupied : v.queue.records.length ≤ v.queue.mark
  coverage : w.coverage = { v.coverage with
    zone := w.coverage.zone, lastZone := w.coverage.lastZone, candidate := w.coverage.candidate, fixTimer := w.coverage.fixTimer }
  session : ∀ h, (w.session h).draining = (v.session h).draining
  owed : w.owed = v.owed
  queue : w.queue = v.queue
  accounts : w.accounts = v.accounts
  agreements : w.agreements = v.agreements
  clock : w.clock = v.clock
  params : w.params = v.params
  quiet : ∀ d, v.Reports w 0 d

theorem State.Prepares.refl (canonical : s.sessions.wf Session.free Config.sessionCount = true)
    (occupied : s.queue.records.length ≤ s.queue.mark) : s.Prepares s :=
  ⟨canonical, canonical, occupied, rfl, fun _ => rfl, rfl, rfl, rfl, rfl, rfl, rfl, .of_eq rfl⟩

theorem State.Prepares.servedHandles (prep : v.Prepares w) : w.servedHandles = v.servedHandles :=
  State.servedHandles_congr fun h => by rw [← Session.draining_served, prep.session, Session.draining_served]

/-! ### The end of a withdrawal (R64) -/

/-- The controller in SILENT, its drained sessions closed. -/
def State.silent (s : State) : State := (s.changeCoverage s.coverage.silenced).endOfDrain

theorem State.silent_coverage (s : State) : s.silent.coverage = s.coverage.stopped := by
  obtain ⟨_, _, _, _, _, _, framed⟩ := State.endOfDrain_frame (s.changeCoverage s.coverage.silenced)
  rw [State.silent, framed]
  rfl

theorem State.silent_radiationAllowed (s : State) : s.silent.radiationAllowed = s.radiationAllowed := by
  obtain ⟨_, _, _, _, _, _, framed⟩ := State.endOfDrain_frame (s.changeCoverage s.coverage.silenced)
  rw [State.silent, framed]
  rfl

theorem State.endWithdrawal_eq (s : State) : s.endWithdrawal = if s.radiationAllowed then s.silent.enterQualifying else s.silent := by
  unfold State.endWithdrawal
  dsimp only
  rw [← State.silent, State.silent_radiationAllowed]

/-- The closings of a controller that has everyone drained. -/
theorem State.Readied.silent (ready : v.Readied u) (canonical : v.sessions.wf Session.free Config.sessionCount = true)
    (canonical' : u.sessions.wf Session.free Config.sessionCount = true) (occupied : v.queue.records.length ≤ v.queue.mark) :
    v.ClosesServed u.silent :=
  State.Readied.endOfDrain (u := u.changeCoverage u.coverage.silenced)
    ⟨ready.session, ready.owed, ready.queue, ready.accounts, ready.agreements, ready.clock,
      ready.tells.trans (u.changeCoverage_reports _).tells⟩ canonical canonical' occupied

theorem State.silent_reports (canonical : u.sessions.wf Session.free Config.sessionCount = true)
    (drains : ∀ h, (u.session h).served = true → (u.session h).state = .draining) : u.Reports u.silent 1 (u.coverage.zone.getD 255) :=
  (u.changeCoverage_reports u.coverage.silenced).trans
    ((State.endOfDrain_closes (u := u.changeCoverage u.coverage.silenced) canonical drains).reports _)

/-! ### What follows the judgement -/

/-- The kinds that tell of the coverage state and of sessions suspended or resumed. -/
def EventKind.ofService (k : EventKind) : Prop := k = .coverageChanged ∨ k = .sessionSuspended ∨ k = .sessionResumed

/-- No event of service is raised between two states. -/
def State.Quiet (s t : State) : Prop := ∃ l, t.router = s.router.occurs l ∧ ∀ e ∈ l, ¬ e.1.ofService

theorem State.Quiet.of_eq (same : t.router = s.router) : s.Quiet t := ⟨[], same, nofun⟩

theorem State.Quiet.raise (s : State) {k : EventKind} (quiet : ¬ k.ofService) (d : Nat) : s.Quiet (s.raise k d) :=
  ⟨[(k, d)], rfl, by simpa using quiet⟩

theorem State.Quiet.trans : s.Quiet u → u.Quiet t → s.Quiet t := by
  rintro ⟨l, first, quiet⟩ ⟨m, second, quiet'⟩
  refine ⟨l ++ m, by rw [second, first, Router.occurs_append], fun e listed => ?_⟩
  exact (List.mem_append.mp listed).elim (quiet e) (quiet' e)

theorem State.Quiet.tells : s.Quiet t → s.Tells t := fun ⟨l, run, _⟩ => ⟨l, run⟩

theorem State.Quiet.unlatched (quiet : s.Quiet t) {k : EventKind} (service : k.ofService) : s.Unlatched t k := by
  obtain ⟨l, run, none_told⟩ := quiet
  exact State.unlatched_of_occurs run fun e listed same => none_told e listed (same ▸ service)

theorem State.Quiet.reports (quiet : s.Quiet t) (d : Nat) : s.Reports t 0 d := by
  obtain ⟨l, run, none_told⟩ := quiet
  exact .of_quiet run (fun e listed same => none_told e listed (.inl same)) d

/-- `u` is `t` after events that do not reach service. -/
structure State.KeepsService (t u : State) : Prop where
  coverage : u.coverage = t.coverage
  sessions : u.sessions = t.sessions
  owed : u.owed = t.owed
  accounts : u.accounts = t.accounts
  agreements : u.agreements = t.agreements
  queue : u.queue = t.queue
  quiet : t.Quiet u

theorem State.KeepsService.trans (first : s.KeepsService t) (second : t.KeepsService u) : s.KeepsService u :=
  ⟨second.coverage.trans first.coverage, second.sessions.trans first.sessions, second.owed.trans first.owed,
    second.accounts.trans first.accounts, second.agreements.trans first.agreements, second.queue.trans first.queue,
    first.quiet.trans second.quiet⟩

theorem State.KeepsService.session (same : t.KeepsService u) (h : Nat) : u.session h = t.session h := by
  simp only [State.session, same.sessions]

theorem State.CoverageIs.congr {c : Coverage} (is : s.CoverageIs t n c) (same : t.KeepsService u) : s.CoverageIs u n c := by
  obtain ⟨fields, told⟩ := is
  refine ⟨by rw [same.coverage, fields], fun p => ?_⟩
  rw [same.coverage, same.quiet.unlatched (.inl rfl) p, told p]

theorem State.KeepsTable.congr (keeps : s.KeepsTable t) (same : t.KeepsService u) : s.KeepsTable u := by
  obtain ⟨sessions, owed, queue, accounts, agreements⟩ := keeps
  exact ⟨same.sessions.trans sessions, same.owed.trans owed, same.queue.trans queue, same.accounts.trans accounts,
    same.agreements.trans agreements⟩

theorem State.Drains.congr (drains : s.Drains t) (same : t.KeepsService u) : s.Drains u := by
  obtain ⟨session, owed, queue, accounts, agreements⟩ := drains
  exact ⟨fun h => (same.session h).trans (session h), same.owed.trans owed, same.queue.trans queue, same.accounts.trans accounts,
    same.agreements.trans agreements⟩

theorem State.ClosesServed.congr (closed : s.ClosesServed t) (sessions : u.sessions = t.sessions) (owed : u.owed = t.owed)
    (accounts : u.accounts = t.accounts) (agreements : u.agreements = t.agreements) (queue : u.queue = t.queue)
    (tells : t.Tells u) : s.ClosesServed u := by
  intro freed waiting freedIs waitingIs
  obtain ⟨records, mark, owes, session, account, agreement, first, fills, waits⟩ := closed freed waiting freedIs waitingIs
  have sameSession : ∀ h, u.session h = t.session h := fun h => by simp only [State.session, sessions]
  have sameAccount : ∀ a, u.account a = t.account a := fun a => by simp only [State.account, accounts]
  have sameAgreement : ∀ i, u.agreement i = t.agreement i := fun i => by simp only [State.agreement, agreements]
  refine ⟨by rw [queue, records], by rw [queue, mark], by rw [owed, owes], fun h => by rw [sameSession, session],
    fun a => by rw [sameAccount, account], fun i => by rw [sameAgreement, agreement], fun empty some_freed => ?_,
    fun below full => ?_, fun none_owed some_wait => ?_⟩
  · exact (first empty some_freed).tells tells
  · exact (fills below (by rw [← queue, full])).tells tells
  · exact (waits none_owed some_wait).tells tells

theorem State.Qualifies.congr (qualifies : s.Qualifies t) (same : t.KeepsService u) : s.Qualifies u := by
  obtain ⟨waits, ramps, radiates⟩ := qualifies
  exact ⟨fun delay => (waits delay).congr same, fun delay ramp => (ramps delay ramp).congr same,
    fun delay ramp => (radiates delay ramp).congr same⟩

theorem State.LosesRadiation.congr (loses : s.LosesRadiation t grace) (same : t.KeepsService u) : s.LosesRadiation u grace := by
  obtain ⟨still, qualifies, serves⟩ := loses
  refine ⟨fun state => ?_, fun state => ?_, fun state => ⟨fun long some_served => ?_, fun ends => ?_⟩⟩
  · exact ⟨(still state).1.congr same, (still state).2.congr same⟩
  · exact ⟨(qualifies state).1.congr same, (qualifies state).2.congr same⟩
  · obtain ⟨is, drains⟩ := (serves state).1 long some_served
    exact ⟨is.congr same, drains.congr same⟩
  · obtain ⟨is, closes⟩ := (serves state).2 ends
    exact ⟨is.congr same, closes.congr same.sessions same.owed same.accounts same.agreements same.queue same.quiet.tells⟩

theorem State.CoverageJudged.congr {was now : Bool} (judged : s.CoverageJudged t was now grace) (same : t.KeepsService u) :
    s.CoverageJudged u was now grace := by
  obtain ⟨still, gains, loses⟩ := judged
  refine ⟨fun eq => ?_, fun f t => ?_, fun t f => (loses t f).congr same⟩
  · exact ⟨(still eq).1.congr same, (still eq).2.congr same⟩
  · obtain ⟨keeps, enters, other⟩ := gains f t
    exact ⟨keeps.congr same, fun state => (enters state).congr same, fun state => (other state).congr same⟩

/-! ### The beginning of a withdrawal (R62) -/

/-- The withdrawal that begins: everyone served drains, and the grace timer runs. -/
def State.withdrawn (s : State) (grace : Nat) : State :=
  let s1 := (s.changeCoverage { s.coverage with state := .withdrawing, rampTimer := none, pacing := 0 }).drainOrder
  { s1 with coverage := { s1.coverage with graceTimer := some (seconds grace), graceInForce := grace } }

/-- Its coverage fields. -/
def Coverage.withdrawn (c : Coverage) (grace : Nat) : Coverage :=
  { c with
    state := .withdrawing, permit := true, rampTimer := none, pacing := 0, graceInForce := grace
    graceTimer := some (grace * Config.periodsPerSecond) }

theorem State.beginWithdrawal_eq (s : State) (grace : Nat) : s.beginWithdrawal grace =
    if (s.withdrawn grace).servedCount = 0 ∨ grace = 0 then (s.withdrawn grace).endWithdrawal else s.withdrawn grace := rfl

theorem State.withdrawn_frame (s : State) (grace : Nat) : s.withdrawn grace = { s with
    sessions := (s.withdrawn grace).sessions, coverage := s.coverage.withdrawn grace
    router := s.router.occurs [(.coverageChanged, s.coverage.zone.getD 255)] } := by
  unfold State.withdrawn
  dsimp only
  rw [State.drainOrder_eq]
  rfl

theorem State.withdrawn_session (canonical : s.sessions.wf Session.free Config.sessionCount = true) (grace h : Nat) :
    (s.withdrawn grace).session h = (s.session h).draining :=
  State.drainOrder_session (s := s.changeCoverage { s.coverage with state := .withdrawing, rampTimer := none, pacing := 0 }) canonical h

theorem State.withdrawn_wf (canonical : s.sessions.wf Session.free Config.sessionCount = true) (grace : Nat) :
    (s.withdrawn grace).sessions.wf Session.free Config.sessionCount = true :=
  State.drainOrder_wf (s := s.changeCoverage { s.coverage with state := .withdrawing, rampTimer := none, pacing := 0 }) canonical

theorem State.withdrawn_reports (s : State) (grace : Nat) : s.Reports (s.withdrawn grace) 1 (s.coverage.zone.getD 255) := by
  refine ⟨[(.coverageChanged, _)], ?_, rfl⟩
  rw [State.withdrawn_frame]

theorem State.withdrawn_coverage (s : State) (grace : Nat) : (s.withdrawn grace).coverage = s.coverage.withdrawn grace := by
  rw [State.withdrawn_frame]

theorem State.withdrawn_radiationAllowed (s : State) (grace : Nat) : (s.withdrawn grace).radiationAllowed = s.radiationAllowed := by
  rw [State.withdrawn_frame]
  rfl

theorem State.Prepares.withdrawn (prep : v.Prepares w) (grace : Nat) : v.Readied (w.withdrawn grace) where
  session h := by rw [State.withdrawn_session prep.canonical', prep.session]
  owed := by rw [State.withdrawn_frame, ← prep.owed]
  queue := by rw [State.withdrawn_frame, ← prep.queue]
  accounts := by rw [State.withdrawn_frame, ← prep.accounts]
  agreements := by rw [State.withdrawn_frame, ← prep.agreements]
  clock := by rw [State.withdrawn_frame, ← prep.clock]
  tells := (prep.quiet 0).tells.trans (w.withdrawn_reports grace).tells

/-- A withdrawal begins, and ends at once with nobody served or no grace (R62, R64). -/
theorem State.Prepares.beginWithdrawal (prep : v.Prepares w) (lost : w.radiationAllowed = false) (grace : Nat) :
    (grace ≠ 0 → v.servedHandles ≠ [] →
      v.CoverageIs (w.beginWithdrawal grace) 1 (v.coverage.withdrawn grace) ∧ v.Drains (w.beginWithdrawal grace))
    ∧ (grace = 0 ∨ v.servedHandles = [] →
      v.CoverageIs (w.beginWithdrawal grace) 2 v.coverage.stopped ∧ v.ClosesServed (w.beginWithdrawal grace)) := by
  have ready := prep.withdrawn grace
  have canonical := State.withdrawn_wf prep.canonical' grace
  have nobody : (w.withdrawn grace).servedCount = 0 ↔ v.servedHandles = [] := by
    rw [State.servedCount_eq_zero_iff canonical, ready.servedHandles]
  have begun : v.Reports (w.withdrawn grace) 1 (w.coverage.zone.getD 255) := by
    simpa using (prep.quiet _).trans (w.withdrawn_reports grace)
  rw [State.beginWithdrawal_eq]
  refine ⟨fun long some_served => ?_, fun ends => ?_⟩
  · rw [if_neg (by rw [nobody, not_or]; exact ⟨some_served, long⟩)]
    refine ⟨State.Reports.coverageIs ?_ ?_, ready.drains⟩
    · rw [State.withdrawn_coverage]
      exact begun
    · rw [State.withdrawn_coverage, prep.coverage]
      rfl
  · rw [if_pos (by rw [nobody]; exact ends.symm), State.endWithdrawal_eq, State.withdrawn_radiationAllowed, lost]
    refine ⟨State.Reports.coverageIs ?_ ?_, ready.silent prep.canonical canonical prep.occupied⟩
    · have zone : (w.withdrawn grace).silent.coverage.zone = w.coverage.zone := by
        rw [State.silent_coverage, State.withdrawn_coverage]
        rfl
      have ended := State.silent_reports canonical ready.wf_drains
      rw [State.withdrawn_coverage] at ended
      rw [if_neg (by simp), zone]
      exact begun.trans ended
    · rw [if_neg (by simp), State.silent_coverage, State.withdrawn_coverage, prep.coverage]
      rfl

/-! ### The judgement (R58) -/

theorem State.Prepares.keepsTable (prep : v.Prepares w) (sessions : w.sessions = v.sessions) : v.KeepsTable w :=
  ⟨sessions, prep.owed, prep.queue, prep.accounts, prep.agreements⟩

theorem State.Prepares.coverageIs (prep : v.Prepares w) : v.CoverageIs w 0 v.coverage := (prep.quiet _).coverageIs prep.coverage

theorem State.Prepares.state (prep : v.Prepares w) : w.coverage.state = v.coverage.state := by rw [prep.coverage]

theorem State.Prepares.gains (prep : v.Prepares w) (sessions : w.sessions = v.sessions) :
    v.KeepsTable w.gainRadiation ∧ (v.coverage.state = .silent → v.Qualifies w.gainRadiation)
      ∧ (v.coverage.state ≠ .silent → v.CoverageIs w.gainRadiation 0 v.coverage) := by
  have enters : v.coverage.state = .silent → w.gainRadiation = w.enterQualifying := fun state => by
    rw [State.gainRadiation, prep.state, state]
  have still : v.coverage.state ≠ .silent → w.gainRadiation = w := fun state => by
    rw [State.gainRadiation, prep.state]
    cases held : v.coverage.state <;> simp_all
  refine ⟨?_, fun state => ?_, fun state => ?_⟩
  · by_cases state : v.coverage.state = .silent
    · rw [enters state, State.enterQualifying_eq]
      exact prep.keepsTable sessions
    · rw [still state]
      exact prep.keepsTable sessions
  · rw [enters state]
    have steps : (w.coverage.qualified w.params).2 = (v.coverage.qualified v.params).2 := by
      unfold Coverage.qualified
      rw [prep.params]
      split
      · rfl
      · split <;> rfl
    refine State.qualifies_of ?_ ?_
    · have fields : w.enterQualifying.coverage = (w.coverage.qualified v.params).1 := by rw [State.enterQualifying_eq, prep.params]
      rw [fields, prep.coverage]
      unfold Coverage.qualified
      split
      · rfl
      · split <;> rfl
    · have zone : w.enterQualifying.coverage.zone = w.coverage.zone := by
        rw [State.enterQualifying_eq]
        exact congrArg Prod.fst (Coverage.qualified_zones _ _)
      have entered : w.Reports w.enterQualifying (w.coverage.qualified w.params).2 (w.coverage.zone.getD 255) := by
        refine ⟨_, by rw [State.enterQualifying_eq], by simp⟩
      rw [zone, ← steps]
      simpa using (prep.quiet _).trans entered
  · rw [still state]
    exact prep.coverageIs

theorem State.Prepares.loses (prep : v.Prepares w) (lost : w.radiationAllowed = false)
    (sessions : w.coverage.state.inService = false → w.sessions = v.sessions) (grace : Nat) :
    v.LosesRadiation (w.loseRadiation grace) grace := by
  refine ⟨fun state => ?_, fun state => ?_, fun state => ?_⟩
  · have still : w.loseRadiation grace = w := by
      rw [State.loseRadiation, prep.state]
      obtain state | state := state <;> rw [state]
    rw [still]
    refine ⟨prep.coverageIs, prep.keepsTable (sessions ?_)⟩
    rw [prep.state]
    obtain state | state := state <;> rw [state] <;> rfl
  · have silenced : w.loseRadiation grace = w.changeCoverage w.coverage.silenced := by
      rw [State.loseRadiation, prep.state, state]
    rw [silenced]
    have keeps := prep.keepsTable (sessions (by rw [prep.state, state]; rfl))
    refine ⟨State.Reports.coverageIs ?_ ?_, keeps⟩
    · have changed : v.Reports (w.changeCoverage w.coverage.silenced) 1 (w.coverage.silenced.zone.getD 255) := by
        simpa using (prep.quiet _).trans (w.changeCoverage_reports w.coverage.silenced)
      exact changed
    · rw [State.changeCoverage_silenced]
      dsimp only
      rw [prep.coverage]
      rfl
  · have begins : w.loseRadiation grace = w.beginWithdrawal grace := by
      rw [State.loseRadiation, prep.state]
      obtain state | state := state <;> rw [state]
    rw [begins]
    exact prep.beginWithdrawal lost grace

/-- The conditions judged afresh, from the state before any order to the sessions. -/
theorem State.Prepares.judged (prep : v.Prepares w) (was : Bool)
    (sessions : w.sessions = v.sessions ∨ was = true ∧ w.radiationAllowed = false ∧ w.coverage.state.inService = true) (grace : Nat) :
    v.CoverageJudged (w.judgeCoverage was grace) was w.radiationAllowed grace := by
  unfold State.judgeCoverage
  refine ⟨fun eq => ?_, fun wasOut nowIn => ?_, fun wasIn nowOut => ?_⟩
  · rw [if_pos eq.symm]
    refine ⟨prep.coverageIs, prep.keepsTable (sessions.resolve_right fun lost => ?_)⟩
    simp [lost] at eq
  · rw [wasOut, nowIn, if_neg (by simp), if_neg (by simp)]
    exact prep.gains (sessions.resolve_right fun lost => by simp [lost] at nowIn)
  · rw [wasIn, nowOut, if_neg (by simp), if_pos rfl]
    exact prep.loses nowOut (fun out => sessions.resolve_right fun lost => by simp [lost] at out) grace

end Judgement

end Sys2Proof.Machine

/-! PROOF. The end of a withdrawal (O26) and *Load zone* (O22). -/

namespace Sys2Proof.Machine

section Laws

variable {s t u w : State}

/-- Whom the ship serves, record by record (R20, R21, R59, R64, R65). -/
theorem State.serviceLaw_iff (canonical : s.sessions.wf Session.free Config.sessionCount = true) : s.ServiceLaw ↔ ∀ h,
    (s.coverage.state = .silent ∨ s.coverage.state = .qualifying → (s.session h).served = false)
    ∧ (s.coverage.state.inService = true → (s.session h).state ≠ .draining)
    ∧ (s.coverage.state = .withdrawing → (s.session h).live = false) := by
  rw [State.ServiceLaw, Table.forall_entries canonical]
  refine ⟨fun law h => ?_, fun law h _ => law h⟩
  by_cases free : s.session h = Session.free
  · rw [free]
    exact ⟨fun _ => rfl, fun _ => by simp [Session.free], fun _ => rfl⟩
  · exact law h free

theorem Session.draining_of_not_live {x : Session} (dead : x.live = false) (served : x.served = true) : x.state = .draining := by
  obtain state | state | state := Session.served_iff.mp served
  · simp [Session.live, state] at dead
  · simp [Session.live, state] at dead
  · exact state

/-- Sessions that all drain are as a drain order would leave them. -/
theorem State.Readied.of_drained (drains : ∀ h, (s.session h).served = true → (s.session h).state = .draining) : s.Readied s :=
  ⟨fun h => (Session.draining_of_all (drains h)).symm, rfl, rfl, rfl, rfl, rfl, .refl s⟩

theorem State.elapse_power {n : Nat} (runs : s.mainRuns = true) : (s.elapse n).power = s.power := by rw [State.elapse_of_runs runs]

end Laws

/-! ### The end of a withdrawal (O26) -/

section End

variable {s u w : State}

/-- The entry into SILENT that ends a withdrawal: the judgement on it (R59). -/
theorem State.endWithdrawal_qualifies (canonical : u.sessions.wf Session.free Config.sessionCount = true)
    (drains : ∀ h, (u.session h).served = true → (u.session h).state = .draining)
    (entry : w = u.changeCoverage u.coverage.silenced) :
    (u.radiationAllowed = false → w.CoverageIs u.endWithdrawal 0 w.coverage)
    ∧ (u.radiationAllowed = true → w.Qualifies u.endWithdrawal) := by
  subst entry
  have quiet : ∀ d, (u.changeCoverage u.coverage.silenced).Reports u.silent 0 d := fun d =>
    (State.endOfDrain_closes (u := u.changeCoverage u.coverage.silenced) canonical drains).reports d
  rw [State.endWithdrawal_eq]
  refine ⟨fun lost => ?_, fun allowed => ?_⟩
  · rw [lost, if_neg (by simp)]
    exact (quiet _).coverageIs (by rw [State.silent_coverage]; rfl)
  · rw [allowed, if_pos rfl]
    obtain ⟨_, _, _, _, _, _, framed⟩ := State.endOfDrain_frame (u.changeCoverage u.coverage.silenced)
    have params : u.silent.params = (u.changeCoverage u.coverage.silenced).params := by rw [State.silent, framed]
    have coverage : u.silent.coverage = (u.changeCoverage u.coverage.silenced).coverage := u.silent_coverage
    have fields : u.silent.enterQualifying.coverage =
        ((u.changeCoverage u.coverage.silenced).coverage.qualified (u.changeCoverage u.coverage.silenced).params).1 := by
      rw [State.enterQualifying_eq, coverage, params]
    have zone : u.silent.enterQualifying.coverage.zone = u.silent.coverage.zone := by
      rw [State.enterQualifying_eq]
      exact congrArg Prod.fst (Coverage.qualified_zones _ _)
    have entered : u.silent.Reports u.silent.enterQualifying (u.silent.coverage.qualified u.silent.params).2
        (u.silent.coverage.zone.getD 255) := ⟨_, by rw [State.enterQualifying_eq], by simp⟩
    refine State.qualifies_of (by rw [fields]) ?_
    rw [zone, ← coverage, ← params]
    simpa using (quiet _).trans entered

end End

/-- Settles O26. -/
theorem graceTimerEndsWithdrawal : Obligations.GraceTimerEndsWithdrawal := by
  refine ⟨fun s w tables entry => ⟨fun out => ?_, fun state none_served => ?_⟩, fun s u w r law runs timed passed entry => ?_⟩
  · obtain ⟨canonical, -⟩ := tables
    refine if_neg fun ends => ?_
    rw [State.servedCount_eq_zero_iff canonical] at ends
    exact out.elim (· ends.1) (· ends.2)
  · obtain ⟨canonical, -⟩ := tables
    have nobody : (s.changeCoverage s.coverage.silenced).servedCount = 0 := (State.servedCount_eq_zero_iff canonical).mpr none_served
    have silent : s.silent = w := by
      rw [State.silent, State.endOfDrain_of_nobody nobody, entry]
      rfl
    refine ⟨if_pos ⟨state, nobody⟩, fun lost => ?_, fun allowed => ?_⟩
    · rw [State.endWithdrawal_eq, lost, if_neg (by simp), silent]
    · rw [State.endWithdrawal_eq, allowed, if_pos rfl, silent]
      refine ⟨w.qualifies_enterQualifying, ?_⟩
      rw [State.enterQualifying_eq]
  · have law' : u.Lawful := passed ▸ law.elapse r
    have zone : u.coverage.zone = s.coverage.zone := by rw [passed, State.elapse_coverage runs]; rfl
    have session : ∀ h, u.session h = s.session h := fun h => by rw [passed, State.elapse_session]
    have allowed_same : u.radiationAllowed = s.radiationAllowed := by rw [passed, State.elapse_radiationAllowed]
    obtain ⟨-, ⟨canonical, -⟩, -, -, -, -, -, -, ⟨-, -, -, grace, -⟩, -, service, -, -, -, -, -, ⟨occupied, -⟩, -⟩ := law'
    have state : u.coverage.state = .withdrawing := by
      refine grace.mp ?_
      rw [passed, State.elapse_coverage runs, Coverage.pass, passTimer_isSome, timed]
      rfl
    have drains : ∀ h, (u.session h).served = true → (u.session h).state = .draining := fun h =>
      Session.draining_of_not_live (((State.serviceLaw_iff canonical).mp service h).2.2 state)
    have entry' : w = u.changeCoverage u.coverage.silenced := by
      rw [entry, ← zone]
      rfl
    have ends : exec .graceTimerExpires s = .next u.endWithdrawal := by
      refine congrArg _ ((State.onExpiry_runs runs timed _).trans ?_)
      rw [← passed, if_pos state]
    have closes : u.ClosesServed u.endWithdrawal := by
      have silent := (State.Readied.of_drained drains).silent canonical canonical occupied
      rw [State.endWithdrawal_eq]
      split
      · refine silent.congr ?_ ?_ ?_ ?_ ?_ ⟨_, by rw [State.enterQualifying_eq]⟩ <;> rw [State.enterQualifying_eq]
      · exact silent
    obtain ⟨stays, qualifies⟩ := State.endWithdrawal_qualifies canonical drains entry'
    rw [allowed_same] at stays qualifies
    have reported : u.Reports u.silent 1 (u.coverage.zone.getD 255) := State.silent_reports canonical drains
    have told : u.Latched u.endWithdrawal .coverageChanged := by
      rw [State.endWithdrawal_eq]
      split
      · exact reported.latched.tells ⟨_, by rw [State.enterQualifying_eq]⟩
      · exact reported.latched
    have fields : u.endWithdrawal.coverage.graceTimer = none ∧ u.endWithdrawal.coverage.graceInForce = 0
        ∧ u.endWithdrawal.coverage.zone = u.coverage.zone
        ∧ (u.radiationAllowed = false → u.endWithdrawal.coverage.state = .silent ∧ u.endWithdrawal.coverage.permit = false)
        ∧ (u.radiationAllowed = true → u.endWithdrawal.coverage.state = .qualifying ∨ u.endWithdrawal.coverage.state = .ramping
          ∨ u.endWithdrawal.coverage.state = .radiating) := by
      rw [State.endWithdrawal_eq]
      split
      next allowed =>
        rw [State.enterQualifying_eq, State.silent_coverage, allowed]
        unfold Coverage.qualified
        split
        · exact ⟨rfl, rfl, rfl, nofun, fun _ => .inl rfl⟩
        · split
          · exact ⟨rfl, rfl, rfl, nofun, fun _ => .inr (.inl rfl)⟩
          · exact ⟨rfl, rfl, rfl, nofun, fun _ => .inr (.inr rfl)⟩
      next lost =>
        rw [State.silent_coverage]
        exact ⟨rfl, rfl, rfl, fun _ => ⟨rfl, rfl⟩, fun allowed => absurd allowed lost⟩
    obtain ⟨noTimer, noGrace, sameZone, silent, service'⟩ := fields
    rw [allowed_same] at silent service'
    obtain ⟨-, -, owed, closed, -⟩ := closes _ _ rfl rfl
    obtain ⟨_, _, _, _, _, _, _, framed⟩ := u.endWithdrawal_frame
    refine ⟨u.endWithdrawal, ends, closes, stays, qualifies, .of_elapse (n := r) runs (passed ▸ told), noTimer, noGrace, silent,
      service', fun h draining => ?_, fun h other => ?_, ?_, ?_, ?_, ?_, ?_, ?_, ?_, ?_, sameZone.trans zone⟩
    · have served : h ∈ u.servedHandles := by
        rw [State.mem_servedHandles canonical, session, Session.served_iff]
        exact .inr (.inr draining)
      rw [← List.take_append_drop (Config.ordinaryLimit - u.queue.records.length) u.servedHandles, List.mem_append] at served
      rw [closed, session]
      by_cases freed : h ∈ u.servedHandles.take (Config.ordinaryLimit - u.queue.records.length)
      · exact .inl (if_pos freed)
      · have waits := served.resolve_left freed
        rw [if_neg freed, if_pos waits, owed]
        exact .inr ⟨rfl, List.mem_append_right _ waits⟩
    · have unserved : h ∉ u.servedHandles := fun listed => by
        have served := (State.mem_servedHandles canonical).mp listed
        exact other (session h ▸ drains h served)
      rw [closed, if_neg fun listed => unserved (List.mem_of_mem_take listed),
        if_neg fun listed => unserved (List.mem_of_mem_drop listed), session]
    all_goals rw [framed, passed]
    · exact State.elapse_power runs
    · exact State.elapse_tariff
    · exact State.elapse_zones
    · exact State.elapse_linkConfig
    · exact State.elapse_params
    · exact State.elapse_inForce
    · dsimp only
      rw [State.elapse_selector runs]
      simp [Selector.pass]
    · dsimp only
      rw [State.elapse_bridge runs]
      rfl

/-! ### The judgement leaves the zone side alone -/

section Zones

variable {s : State}

theorem State.silent_zones (s : State) : s.silent.coverage.zones = s.coverage.zones := by rw [State.silent_coverage]; rfl

theorem State.enterQualifying_zones (s : State) : s.enterQualifying.coverage.zones = s.coverage.zones := by
  rw [State.enterQualifying_eq]
  exact Coverage.qualified_zones _ _

theorem State.endWithdrawal_zones (s : State) : s.endWithdrawal.coverage.zones = s.coverage.zones := by
  rw [State.endWithdrawal_eq]
  split
  · rw [State.enterQualifying_zones, State.silent_zones]
  · exact s.silent_zones

theorem State.beginWithdrawal_zones (s : State) (grace : Nat) : (s.beginWithdrawal grace).coverage.zones = s.coverage.zones := by
  have begun : (s.withdrawn grace).coverage.zones = s.coverage.zones := by rw [State.withdrawn_coverage]; rfl
  rw [State.beginWithdrawal_eq]
  split
  · rw [State.endWithdrawal_zones, begun]
  · exact begun

theorem State.judgeCoverage_zones (s : State) (was : Bool) (grace : Nat) : (s.judgeCoverage was grace).coverage.zones = s.coverage.zones := by
  have loses : (s.loseRadiation grace).coverage.zones = s.coverage.zones := by
    unfold State.loseRadiation
    split
    · rfl
    · rfl
    · exact s.beginWithdrawal_zones grace
    · exact s.beginWithdrawal_zones grace
    · rfl
  have gains : s.gainRadiation.coverage.zones = s.coverage.zones := by
    unfold State.gainRadiation
    split
    · exact s.enterQualifying_zones
    all_goals rfl
  unfold State.judgeCoverage
  split
  · rfl
  · split
    · exact loses
    · exact gains

theorem State.radiationAllowed_iff : s.radiationAllowed = true ↔ ∃ z, s.coverage.zone = some z ∧ (s.zoneRecord z).loaded = true
    ∧ (s.zoneRecord z).policy = .radiate ∧ s.bridge.standing.silence = false ∧ s.bridge.standing.harbor = false
    ∧ s.power.flushing = false := by
  have kind : ∀ r : ZoneRecord, (r.kind == .permissive) = true ↔ r.loaded = true ∧ r.policy = .radiate := fun r => by
    unfold ZoneRecord.kind
    cases r.loaded <;> cases r.policy <;> decide
  unfold State.radiationAllowed
  cases zone : s.coverage.zone with
  | none => simp
  | some z => simp [kind, and_assoc]

end Zones

/-! ### Load zone (O22) -/

section LoadZone

variable {s : State} {zone loaded policy : Byte} {grace : Half} {cls : Byte} {r : ZoneRecord}

theorem exec_loadZone_badParam (running : s.power.supervisor = .running)
    (bad : 16 ≤ zone.toNat ∨ 2 ≤ loaded.toNat ∨ loaded = 1 ∧ (2 ≤ policy.toNat ∨ 8 ≤ cls.toNat)) :
    exec (.loadZone .purser zone loaded policy grace cls) s = .next (s.withFrame .purser (.answered .badParam [])) := by
  change execLoadZone .purser zone loaded policy grace cls s = _
  rw [execLoadZone, State.command_eq running (by simp)]
  obtain beyond | flag | ⟨rfl, policy | cls⟩ := bad
  · rw [zoneOf_of_le beyond]
    rfl
  · rw [boolOf_eq_none_iff.mpr flag]
    cases zoneOf zone <;> rfl
  · rw [policyOf_eq_none_iff.mpr policy]
    cases zoneOf zone <;> rfl
  · cases zoneOf zone with
    | none => rfl
    | some z =>
      cases policyOf policy with
      | none => rfl
      | some k =>
        dsimp only [boolOf_one]
        rw [if_neg (by omega)]
        rfl

/-- The record that *Load zone* writes. -/
def zoneLoaded (loaded policy : Byte) (grace : Half) (cls : Byte) (r : ZoneRecord) : Prop :=
  loaded = 0 ∧ r = ⟨false, .radiate, 0, 0⟩
    ∨ loaded = 1 ∧ policy.toNat < 2 ∧ cls.toNat < 8
      ∧ r = ⟨true, if policy = 0 then .radiate else .noRadiate, min 600 grace.toNat, cls.toNat⟩

theorem exec_loadZone (running : s.power.supervisor = .running) (inside : zone.toNat < 16) (written : zoneLoaded loaded policy grace cls r) :
    exec (.loadZone .purser zone loaded policy grace cls) s =
      .next ((s.loadZone zone.toNat r).withFrame .purser
        (.answered (if loaded = 1 ∧ 600 < grace.toNat then .clamped else .ok) [])) := by
  change execLoadZone .purser zone loaded policy grace cls s = _
  rw [execLoadZone, State.command_eq running (by simp), zoneOf_of_lt inside]
  obtain ⟨rfl, rfl⟩ | ⟨rfl, policy', cls', rfl⟩ := written
  · rfl
  · have named : policyOf policy = some (if policy = 0 then .radiate else .noRadiate) := by
      unfold policyOf
      by_cases zero : policy = 0
      · simp [zero]
      · have one : policy = 1 := BitVec.eq_of_toNat_eq (by
          have positive : policy.toNat ≠ 0 := fun eq => zero (BitVec.eq_of_toNat_eq eq)
          change policy.toNat = 1
          omega)
        simp [one]
    rw [named]
    dsimp only [boolOf_one]
    rw [if_pos (by omega)]
    rw [clampStatus_of_iff decide_eq_false_iff_not, ite_not]
    simp only [true_and]
    rfl

theorem State.loadZone_current {z : Nat} (current : s.coverage.zone = some z) (r : ZoneRecord) : s.loadZone z r =
    (({ s with zones := s.zones.set ZoneRecord.unloaded z r } : State).judgeCoverage s.radiationAllowed r.grace).sendZoneClass
      r.tariffClass := by
  have record : ({ s with zones := s.zones.set ZoneRecord.unloaded z r } : State).zoneGrace (some z) = r.grace :=
    congrArg ZoneRecord.grace (Table.get_set_same s.zones ZoneRecord.unloaded z r)
  unfold State.loadZone
  dsimp only
  rw [if_pos current, record]

end LoadZone

/-- Settles O22. -/
theorem loadZoneWrites : Obligations.LoadZoneWrites := by
  intro s zone loaded policy grace cls r running
  refine ⟨State.radiationAllowed_iff, exec_loadZone_badParam running, fun inside written => ⟨fun other => ?_, fun current u v wrote judged => ?_⟩⟩
  · rw [exec_loadZone running inside written, State.loadZone, if_neg other]
  · subst wrote judged
    refine ⟨by rw [exec_loadZone running inside written, State.loadZone_current current], fun law => ?_⟩
    obtain ⟨-, ⟨canonical, -⟩, -, -, -, -, -, -, -, -, -, -, -, -, -, -, ⟨occupied, -⟩, -⟩ := law
    generalize left : ({ s with zones := s.zones.set ZoneRecord.unloaded zone.toNat r } : State) = u
    have same : u.sessions = s.sessions ∧ u.queue = s.queue ∧ u.coverage = s.coverage := by rw [← left]; exact ⟨rfl, rfl, rfl⟩
    obtain ⟨sessions, queue, coverage⟩ := same
    have prep : u.Prepares u := .refl (by rw [sessions]; exact canonical) (by rw [queue]; exact occupied)
    obtain ⟨_, _, _, _, _, _, _, framed⟩ := u.judgeCoverage_frame s.radiationAllowed r.grace
    have zones := u.judgeCoverage_zones s.radiationAllowed r.grace
    rw [coverage] at zones
    obtain ⟨z, last, candidate, fix⟩ : _ ∧ _ ∧ _ ∧ _ := by simpa only [Coverage.zones, Prod.mk.injEq] using zones
    refine ⟨prep.judged s.radiationAllowed (.inl rfl) r.grace, ?_, ?_⟩
    · rw [framed]
    · dsimp only
      rw [← z, ← last, ← candidate, ← fix]

end Sys2Proof.Machine

/-! PROOF. *Zone report* (O23) and the timers of the candidate and the fix (O24). -/

namespace Sys2Proof.Machine

/-! ### Zone report (O23) -/

section Report

variable {s u : State} {z : Nat} {k : ZoneKind} {c : Candidate}

theorem ZoneRecord.kind_eq (r : ZoneRecord) :
    r.kind = if r.loaded = true ∧ r.policy = .radiate then .permissive else .restrictive := by
  unfold ZoneRecord.kind
  cases r.loaded <;> cases r.policy <;> rfl

/-- The fix timer is started anew by every report of a zone (R52). -/
def State.refixed (s : State) : State :=
  { s with coverage := { s.coverage with fixTimer := some (seconds s.params.fixTimeout) } }

theorem State.takeZone_current (current : s.coverage.zone = some z) : s.takeZone z = s.refixed.reportCurrent := by
  unfold State.takeZone
  rw [current]
  exact if_pos rfl

theorem State.takeZone_other (other : s.coverage.zone ≠ some z)
    (reports : s.coverage.zone.isSome = true ∨ (s.zoneRecord z).kind = .permissive) :
    s.takeZone z = s.refixed.reportOther z (s.zoneRecord z).kind := by
  unfold State.takeZone
  cases zone : s.coverage.zone with
  | none =>
    rw [reports.resolve_left (by simp [zone])]
    rfl
  | some current => exact if_neg fun same => other (by rw [zone, same])

theorem State.takeZone_restrictive (unknown : s.coverage.zone = none) (kind : (s.zoneRecord z).kind = .restrictive) :
    s.takeZone z = s.refixed.qualifyZone z := by
  unfold State.takeZone
  rw [unknown, kind]
  rfl

theorem State.reportCurrent_permissive (held : u.coverage.candidate = some c) (kind : c.kind = .permissive) :
    u.reportCurrent = { u with coverage := { u.coverage with candidate := none } } := by
  obtain ⟨zone, kind', timer⟩ := c
  subst kind
  unfold State.reportCurrent
  rw [held]

theorem State.reportCurrent_still (held : u.coverage.candidate = none ∨ ∃ c, u.coverage.candidate = some c ∧ c.kind = .restrictive) :
    u.reportCurrent = u := by
  unfold State.reportCurrent
  obtain none_held | ⟨⟨zone, kind, timer⟩, held, rfl⟩ := held
  · rw [none_held]
  · rw [held]

theorem State.reportOther_none (held : u.coverage.candidate = none) : u.reportOther z k = u.setCandidate z k := by
  simp only [State.reportOther, held]

theorem State.reportOther_same (held : u.coverage.candidate = some c) (same : c.zone = z) : u.reportOther z k = u := by
  simp only [State.reportOther, held, if_pos same]

theorem State.reportOther_permissive (held : u.coverage.candidate = some c) (other : c.zone ≠ z) (kind : c.kind = .permissive) :
    u.reportOther z k = u.setCandidate z k := by
  simp only [State.reportOther, held, if_neg other, kind]

theorem State.reportOther_kept (held : u.coverage.candidate = some c) (other : c.zone ≠ z) (kind : c.kind = .restrictive) :
    u.reportOther z .permissive = u := by
  simp only [State.reportOther, held, if_neg other, kind]

theorem State.reportOther_moved (held : u.coverage.candidate = some c) (other : c.zone ≠ z) (kind : c.kind = .restrictive) :
    u.reportOther z .restrictive = { u with coverage := { u.coverage with candidate := some { c with zone := z } } } := by
  simp only [State.reportOther, held, if_neg other, kind]

theorem State.zoneBytes_eq (s : State) : s.zoneBytes = [optByte s.coverage.zone, BitVec.ofNat 8 s.coverage.state.code] := by
  rw [State.zoneBytes, beBytes_one]
  rfl

end Report

/-- Settles O23. -/
theorem zoneReportMovesCandidate : Obligations.ZoneReportMovesCandidate := by
  intro s u p b kind set running port kindIs fixed setIs
  have listed : p ∈ [Port.cell, Port.link] := by simpa using port
  have reports : exec (.zoneReport p b) s = .next _ := congrArg Host.Outcome.next (State.command_eq running listed _)
  rw [← ZoneRecord.kind_eq] at kindIs
  have refixed : s.refixed = u := fixed.symm
  have candidate : u.coverage.candidate = s.coverage.candidate := by rw [fixed]
  have setCandidate : u.setCandidate b.toNat kind = set := by
    rw [setIs, fixed]
    rfl
  refine ⟨fun unknown => ?_, fun beyond known => ?_, fun inside => ⟨s.takeZone b.toNat, ?_, fun current => ?_, fun other shown => ?_,
    fun unknown restrictive => ?_⟩⟩
  · rw [reports, if_pos unknown, ← State.zoneBytes_eq]
  · rw [reports, if_neg known, zoneOf_of_le beyond]
    rfl
  · have known : b ≠ 255 := fun same => by simp [same] at inside
    rw [reports, if_neg known, zoneOf_of_lt inside, ← State.zoneBytes_eq]
  · rw [State.takeZone_current current, refixed]
    refine ⟨fun c held permissive => State.reportCurrent_permissive (candidate.trans held) permissive, fun held => ?_⟩
    rw [← candidate] at held
    exact State.reportCurrent_still held
  · rw [State.takeZone_other other (kindIs ▸ shown), refixed, ← kindIs]
    refine ⟨fun held => ?_, fun c held => ⟨fun same => ?_, fun differ permissive => ?_, fun differ restrictive keeps => ?_,
      fun differ restrictive moves => ?_⟩⟩
    · rw [State.reportOther_none (candidate.trans held), setCandidate]
    · exact State.reportOther_same (candidate.trans held) same
    · rw [State.reportOther_permissive (candidate.trans held) differ permissive, setCandidate]
    · rw [keeps]
      exact State.reportOther_kept (candidate.trans held) differ restrictive
    · rw [moves]
      exact State.reportOther_moved (candidate.trans held) differ restrictive
  · rw [State.takeZone_restrictive unknown (kindIs ▸ restrictive), refixed]

end Sys2Proof.Machine

/-! SUPPORT. Which kinds of event the controller and the links raise, and what of service they leave alone. -/

namespace Sys2Proof.Machine

/-! ### Runs of some kinds -/

/-- Between `s` and `t` occurrences of some kinds alone. -/
def State.TellsOf (P : EventKind → Prop) (s t : State) : Prop := ∃ l, t.router = s.router.occurs l ∧ ∀ e ∈ l, P e.1

section TellsOf

variable {P : EventKind → Prop} {s t u : State}

theorem State.TellsOf.of_eq (same : t.router = s.router) : State.TellsOf P s t := ⟨[], same, nofun⟩
theorem State.TellsOf.refl (s : State) : State.TellsOf P s s := .of_eq rfl

theorem State.TellsOf.trans : State.TellsOf P s u → State.TellsOf P u t → State.TellsOf P s t := by
  rintro ⟨l, first, kinds⟩ ⟨m, second, kinds'⟩
  exact ⟨l ++ m, by rw [second, first, Router.occurs_append],
    fun e listed => (List.mem_append.mp listed).elim (kinds e) (kinds' e)⟩

theorem State.TellsOf.raise (s : State) {k : EventKind} (kind : P k) (d : Nat) : State.TellsOf P s (s.raise k d) :=
  ⟨[(k, d)], rfl, by simpa using kind⟩

theorem State.TellsOf.tells : State.TellsOf P s t → s.Tells t := fun ⟨l, run, _⟩ => ⟨l, run⟩

theorem State.TellsOf.unlatched {k : EventKind} (told : State.TellsOf P s t) (out : ¬ P k) : s.Unlatched t k := by
  obtain ⟨l, run, kinds⟩ := told
  exact State.unlatched_of_occurs run fun e listed same => out (same ▸ kinds e listed)

theorem State.TellsOf.quiet (told : State.TellsOf P s t) (out : ∀ k, P k → ¬ k.ofService) : s.Quiet t := by
  obtain ⟨l, run, kinds⟩ := told
  exact ⟨l, run, fun e listed => out e.1 (kinds e listed)⟩

end TellsOf

/-! ### The controller -/

/-- The kinds that the controller and the closings it orders raise. -/
def EventKind.ofCoverage (k : EventKind) : Prop := k = .coverageChanged ∨ k = .recordReady ∨ k = .queueFull ∨ k = .recordOwed

section Controller

variable (s : State)

theorem State.closeSession_told (h : Nat) (reason : CloseReason) : State.TellsOf EventKind.ofCoverage s (s.closeSession h reason) := by
  have of_closes : ∀ {freed waiting}, s.Closes (s.closeSession h reason) reason freed waiting →
      State.TellsOf EventKind.ofCoverage s (s.closeSession h reason) := fun closes => by
    obtain ⟨l, run, kinds, -⟩ := closes.told
    exact ⟨l, run, fun e listed => .inr (kinds e listed)⟩
  by_cases room : s.queue.records.length < Config.ordinaryLimit
  · exact of_closes (.room room reason h)
  · exact of_closes (.full (Nat.not_lt.mp room) reason h)

theorem State.endOfDrain_told : State.TellsOf EventKind.ofCoverage s s.endOfDrain := by
  unfold State.endOfDrain
  generalize (s.handlesOf fun x => x.state == .draining) = hs
  induction hs generalizing s with
  | nil => exact .refl s
  | cons h rest ih => exact (s.closeSession_told h .coverageEnd).trans (ih (s.closeSession h .coverageEnd))

theorem State.changeCoverage_told (c : Coverage) : State.TellsOf EventKind.ofCoverage s (s.changeCoverage c) :=
  ⟨[(.coverageChanged, _)], rfl, by simp [EventKind.ofCoverage]⟩

theorem State.drainOrder_told : State.TellsOf EventKind.ofCoverage s s.drainOrder := .of_eq (by rw [State.drainOrder_eq])

theorem State.silent_told : State.TellsOf EventKind.ofCoverage s s.silent := (s.changeCoverage_told _).trans (State.endOfDrain_told _)

theorem State.enterQualifying_told : State.TellsOf EventKind.ofCoverage s s.enterQualifying := by
  refine ⟨_, by rw [State.enterQualifying_eq], fun e listed => ?_⟩
  rw [(List.mem_replicate.mp listed).2]
  exact .inl rfl

theorem State.endWithdrawal_told : State.TellsOf EventKind.ofCoverage s s.endWithdrawal := by
  rw [State.endWithdrawal_eq]
  split
  · exact s.silent_told.trans (State.enterQualifying_told _)
  · exact s.silent_told

theorem State.withdrawn_told (grace : Nat) : State.TellsOf EventKind.ofCoverage s (s.withdrawn grace) := by
  refine ⟨[(.coverageChanged, _)], by rw [State.withdrawn_frame], by simp [EventKind.ofCoverage]⟩

theorem State.beginWithdrawal_told (grace : Nat) : State.TellsOf EventKind.ofCoverage s (s.beginWithdrawal grace) := by
  rw [State.beginWithdrawal_eq]
  split
  · exact (s.withdrawn_told grace).trans (State.endWithdrawal_told _)
  · exact s.withdrawn_told grace

theorem State.judgeCoverage_told (was : Bool) (grace : Nat) : State.TellsOf EventKind.ofCoverage s (s.judgeCoverage was grace) := by
  have loses : State.TellsOf EventKind.ofCoverage s (s.loseRadiation grace) := by
    unfold State.loseRadiation
    split
    · exact .refl s
    · exact s.changeCoverage_told _
    · exact s.beginWithdrawal_told grace
    · exact s.beginWithdrawal_told grace
    · exact .refl s
  have gains : State.TellsOf EventKind.ofCoverage s s.gainRadiation := by
    unfold State.gainRadiation
    split
    · exact s.enterQualifying_told
    all_goals exact .refl s
  unfold State.judgeCoverage
  split
  · exact .refl s
  · split
    · exact loses
    · exact gains

theorem State.endOfService_told : State.TellsOf EventKind.ofCoverage s s.endOfService := by
  have ends : State.TellsOf EventKind.ofCoverage s (s.changeCoverage s.coverage.silenced).drainOrder.endOfDrain :=
    ((s.changeCoverage_told _).trans (State.drainOrder_told _)).trans (State.endOfDrain_told _)
  unfold State.endOfService
  split
  · exact .refl s
  · exact s.changeCoverage_told _
  all_goals exact ends

theorem State.reportServed_told : State.TellsOf EventKind.ofCoverage s s.reportServed := by
  unfold State.reportServed
  split
  · exact s.endWithdrawal_told
  · exact .refl s

end Controller

/-! ### The links and the rating engine -/

section Quiet

variable (s : State)

theorem State.considerSwap_quiet : s.Quiet s.considerSwap := by
  obtain same | ⟨b, -, -, started⟩ := s.considerSwap_cases
  · exact .of_eq (by rw [same])
  · rw [started]
    exact ⟨[(.swapBegin, _)], rfl, by simp [EventKind.ofService]⟩

theorem State.dropSwap_quiet (i : Slot) : s.Quiet (s.dropSwap i) :=
  ((State.Quiet.of_eq rfl).trans (.raise { s with selector := { s.selector with swap := none } }
    (by simp [EventKind.ofService]) _)).trans (State.considerSwap_quiet _)

theorem State.judgeLinks_quiet (slots : List Slot) : s.Quiet (s.judgeLinks slots) := by
  have judged : s.Quiet (s.judgedLinks slots) := by
    obtain ⟨l, framed⟩ := s.judgedLinks_frame slots
    exact .of_eq (by rw [framed])
  have told : s.Quiet (s.tellCandidate slots) := by
    unfold State.tellCandidate
    split
    · split
      · exact judged.trans (State.dropSwap_quiet _ _)
      · exact judged
    · exact judged
  obtain same | considered := s.judgeLinks_cases slots
  · rw [same]
    exact told
  · rw [considered]
    exact told.trans (State.considerSwap_quiet _)

theorem State.sendComponent_quiet (c : WindowCause) (f : Context → Context) : s.Quiet (s.sendComponent c f) := by
  unfold State.sendComponent
  dsimp only
  split
  · exact .of_eq rfl
  · split
    · exact .of_eq rfl
    · split
      · exact ⟨[(.ratingBoundary, _)], rfl, by simp [EventKind.ofService]⟩
      · exact ⟨[(.ratingBoundary, _)], rfl, by simp [EventKind.ofService]⟩

/-- A component that is sent stands in the newest context (R136 to R140). -/
theorem State.sendComponent_newest (c : WindowCause) (f : Context → Context) :
    (s.sendComponent c f).rating.newest = f s.rating.newest := by
  unfold State.sendComponent
  dsimp only
  split
  next same => exact same.symm
  · split
    next window => simp [Rating.newest, window]
    · split
      · rfl
      · rfl

theorem State.judgeLinks_keepsService (slots : List Slot) : s.KeepsService (s.judgeLinks slots) := by
  obtain ⟨_, _, _, framed⟩ := s.judgeLinks_frame slots
  refine ⟨?_, ?_, ?_, ?_, ?_, ?_, s.judgeLinks_quiet slots⟩ <;> rw [framed]

theorem State.sendComponent_keepsService (c : WindowCause) (f : Context → Context) : s.KeepsService (s.sendComponent c f) := by
  obtain ⟨_, _, framed⟩ := s.sendComponent_frame c f
  refine ⟨?_, ?_, ?_, ?_, ?_, ?_, s.sendComponent_quiet c f⟩ <;> rw [framed]

end Quiet

/-! ### What a judgement makes of a session and of the entries -/

section Judged

variable {s t v : State} {was now : Bool} {grace n : Nat} {c : Coverage}

theorem State.CoverageIs.latched (is : s.CoverageIs t (n + 1) c) : s.Latched t .coverageChanged := by
  obtain ⟨-, told⟩ := is
  intro p on
  have raised : s.Latched ((fun u : State => u.raise .coverageChanged (t.coverage.zone.getD 255))^[n + 1] s) .coverageChanged :=
    State.latched_of_occurs (State.raised_router s _ _ _) (List.mem_replicate.mpr ⟨by omega, rfl⟩)
  have held := raised p on
  rw [PortState.holds_iff, ← told p] at held
  exact PortState.holds_iff.mpr held

/-- A judgement leaves a session it keeps served as it was, or makes it DRAINING. -/
theorem State.CoverageJudged.session (judged : s.CoverageJudged t was now grace)
    (canonical : s.sessions.wf Session.free Config.sessionCount = true) (h : Nat) (served : (t.session h).served = true) :
    t.session h = s.session h ∨ t.session h = (s.session h).draining := by
  have of_keeps : s.KeepsTable t → t.session h = s.session h := fun keeps => by
    obtain ⟨sessions, -⟩ := keeps
    simp only [State.session, sessions]
  obtain ⟨still, gains, loses⟩ := judged
  by_cases same : was = now
  · exact .inl (of_keeps (still same).2)
  · cases wasIs : was with
    | false => exact .inl (of_keeps (gains wasIs (by simp_all)).1)
    | true =>
      obtain ⟨silent, qualifies, serves⟩ := loses wasIs (by simp_all)
      cases state : s.coverage.state with
      | silent => exact .inl (of_keeps (silent (.inl state)).2)
      | withdrawing => exact .inl (of_keeps (silent (.inr state)).2)
      | qualifying => exact .inl (of_keeps (qualifies state).2)
      | ramping | radiating =>
        obtain ⟨begins, ends⟩ := serves (by simp [state])
        by_cases atOnce : grace = 0 ∨ s.servedHandles = []
        · rw [(ends atOnce).2.unserved canonical h] at served
          cases served
        · rw [not_or] at atOnce
          exact .inr ((begins atOnce.1 atOnce.2).2.1 h)

theorem Session.draining_reasons (x : Session) : x.draining.reasons = x.reasons := by
  unfold Session.draining
  split <;> rfl

theorem Session.draining_agreement (x : Session) : x.draining.agreement = x.agreement := by
  unfold Session.draining
  split <;> rfl

end Judged

end Sys2Proof.Machine

/-! PROOF. The candidate qualifies and the fix is lost (3.2, 3.3): O24. -/

namespace Sys2Proof.Machine

/-! ### Time that has passed -/

section Elapse

variable {s t : State} {n : Nat} {k : EventKind}

theorem State.Unlatched.of_elapse (runs : s.mainRuns = true) (quiet : (s.elapse n).Unlatched t k) : s.Unlatched t k := by
  intro p
  rw [quiet p, State.elapse_port runs]
  rfl

theorem State.TellsMoves.of_elapse {old new : SessionState} (runs : s.mainRuns = true) (tells : (s.elapse n).TellsMoves t k old new) :
    s.TellsMoves t k old new := by
  obtain ⟨still, moves⟩ := tells
  simp only [State.elapse_session] at still moves
  refine ⟨fun none_moves => .of_elapse runs (still none_moves), fun some_moves => ?_⟩
  obtain ⟨h, was, now, told⟩ := moves some_moves
  refine ⟨h, was, now, fun p => ?_⟩
  rw [told p, State.elapse_port runs]
  rfl

theorem State.TellsReasons.of_elapse (runs : s.mainRuns = true) (tells : (s.elapse n).TellsReasons t) : s.TellsReasons t :=
  ⟨.of_elapse runs tells.1, .of_elapse runs tells.2⟩

end Elapse

/-! ### A new current zone (R56, R57) -/

section Qualify

variable {s t u v : State} {z : Nat}

/-- The controller with the new zone, E2 raised. -/
def State.zoned (s : State) (z : Nat) : State :=
  ({ s with coverage := { s.coverage with zone := some z, lastZone := some z, candidate := none } } : State).raise .zoneChanged z

/-- The change of zone begins a withdrawal. -/
def State.zoneWithdraws (s : State) (z : Nat) : Bool :=
  s.radiationAllowed && !(s.zoned z).radiationAllowed && s.coverage.state.inService

/-- The new zone taken, and the drain order given where a withdrawal begins. -/
def State.zoneReady (s : State) (z : Nat) : State := if s.zoneWithdraws z then (s.zoned z).drainOrder else s.zoned z

/-- The sessions told of the new zone. -/
def State.zoneTold (s : State) (z : Nat) : State := (s.zoneReady z).zoneReasons z

/-- The new zone judged. -/
def State.zoneCovered (s : State) (z : Nat) : State := (s.zoneTold z).judgeCoverage s.radiationAllowed (s.zoneGrace (some z))

theorem State.qualifyZone_eq (s : State) (z : Nat) :
    s.qualifyZone z = ((s.zoneCovered z).judgeLinks allSlots).sendZoneClass (s.zoneRecord z).tariffClass := rfl

/-- The sessions of a state judged against a zone. -/
def State.zoneSessions (s : State) (z : Nat) : State := { s with sessions := ((s.zoned z).zoneReasons z).sessions }

/-- A session judged against a zone. -/
def State.zoneSession (s : State) (z h : Nat) : Session :=
  if (s.session h).served = true ∧ (s.session h).agreement.isSome = true
  then (s.session h).judged (s.zoneJudged z (s.session h)) else s.session h

theorem State.zoneSession_eq (s : State) (z h : Nat) : s.zoneSession z h =
    match (s.session h).agreement with
    | some i => if (s.session h).served = true then
        (s.session h).judged { (s.session h).reasons with zone := !zoneIn z (s.agreement i).zones } else s.session h
    | none => s.session h := by
  unfold State.zoneSession State.zoneJudged
  cases (s.session h).agreement <;> simp

theorem State.zoneSessions_session (canonical : s.sessions.wf Session.free Config.sessionCount = true) (z h : Nat) :
    (s.zoneSessions z).session h = s.zoneSession z h :=
  (State.rewrites_zoneReasons (s := s.zoned z) canonical z).session h

theorem Session.judged_draining {x : Session} (served : x.served = true) (r : Reasons) :
    x.draining.judged r = (x.judged r).draining := by
  have stays := (Session.judged_stays served r).toFollows.served
  rw [served] at stays
  rw [Session.draining, Session.draining, if_pos served, if_pos stays]
  rfl

/-- The ZONE changes reach a DRAINING session as they reach it live. -/
theorem State.zoneSession_draining (canonical : s.sessions.wf Session.free Config.sessionCount = true) (z h : Nat) :
    s.drainOrder.zoneSession z h = (s.zoneSession z h).draining := by
  have session := State.drainOrder_session canonical h
  have agreements : s.drainOrder.agreements = s.agreements := by rw [State.drainOrder_eq]
  unfold State.zoneSession State.zoneJudged State.agreement
  rw [session, Session.draining_served, Session.draining_agreement, Session.draining_reasons, agreements]
  split
  next told => exact Session.judged_draining told.1 _
  · rfl

theorem State.zoned_frame (s : State) (z : Nat) : s.zoned z = { s with
    coverage := { s.coverage with zone := some z, lastZone := some z, candidate := none }
    router := s.router.occurs [(.zoneChanged, z)] } := rfl

theorem State.zoneReady_frame (s : State) (z : Nat) : ∃ x, s.zoneReady z = { s.zoned z with sessions := x } := by
  unfold State.zoneReady
  split
  · exact ⟨_, State.drainOrder_eq _⟩
  · exact ⟨_, rfl⟩

theorem State.zoneReady_wf (canonical : s.sessions.wf Session.free Config.sessionCount = true) (z : Nat) :
    (s.zoneReady z).sessions.wf Session.free Config.sessionCount = true := by
  unfold State.zoneReady
  split
  · exact State.drainOrder_wf (s := s.zoned z) canonical
  · exact canonical

/-- What the sessions have been told when the new zone is judged. -/
theorem State.zoneTold_frame (s : State) (z : Nat) : ∃ x o, s.zoneTold z = { s.zoned z with sessions := x, router := o } := by
  obtain ⟨x, drained⟩ := s.zoneReady_frame z
  obtain ⟨y, o, told⟩ := State.zoneReasons_frame { s.zoned z with sessions := x } z
  rw [State.zoneTold, drained, told]
  exact ⟨y, o, rfl⟩

theorem State.zoneTold_radiationAllowed (s : State) (z : Nat) : (s.zoneTold z).radiationAllowed = (s.zoned z).radiationAllowed := by
  obtain ⟨_, _, framed⟩ := s.zoneTold_frame z
  rw [framed]
  rfl

theorem State.zoneTold_session (canonical : s.sessions.wf Session.free Config.sessionCount = true) (z h : Nat) :
    (s.zoneTold z).session h = if s.zoneWithdraws z = true then (s.zoneSession z h).draining else s.zoneSession z h := by
  unfold State.zoneTold State.zoneReady
  split
  · rw [(State.rewrites_zoneReasons (State.drainOrder_wf (s := s.zoned z) canonical) z).session]
    exact State.zoneSession_draining (s := s.zoned z) canonical z h
  · exact (State.rewrites_zoneReasons (s := s.zoned z) canonical z).session h

/-- The kinds that the judging of sessions raises. -/
theorem State.zoneTold_kinds (canonical : s.sessions.wf Session.free Config.sessionCount = true) (z : Nat) :
    State.TellsOf (fun k => k = .zoneChanged ∨ k = .sessionSuspended ∨ k = .sessionResumed) s (s.zoneTold z) := by
  obtain ⟨x, drained⟩ := s.zoneReady_frame z
  have judged := State.rewrites_zoneReasons (State.zoneReady_wf canonical z) z
  refine ⟨(.zoneChanged, z) :: _, judged.router.trans (by rw [drained]; rfl), fun e listed => ?_⟩
  obtain rfl | told := List.mem_cons.mp listed
  · exact .inl rfl
  · rw [mem_flatMap_told] at told
    exact told.2.elim (fun move => .inr (.inl move.1)) fun move => .inr (.inr move.1)

theorem State.zoneTold_prepares (canonical : s.sessions.wf Session.free Config.sessionCount = true)
    (occupied : s.queue.records.length ≤ s.queue.mark) (z : Nat) : (s.zoneSessions z).Prepares (s.zoneTold z) := by
  obtain ⟨x, o, framed⟩ := s.zoneTold_frame z
  obtain ⟨l, run, kinds⟩ := State.zoneTold_kinds canonical z
  refine ⟨(State.rewrites_zoneReasons (s := s.zoned z) canonical z).canonical canonical,
    (State.rewrites_zoneReasons (State.zoneReady_wf canonical z) z).canonical (State.zoneReady_wf canonical z),
    occupied, by rw [framed]; rfl, fun h => ?_, by rw [framed]; rfl, by rw [framed]; rfl, by rw [framed]; rfl, by rw [framed]; rfl,
    by rw [framed]; rfl, by rw [framed]; rfl, fun d => .of_quiet run (fun e listed => ?_) d⟩
  · rw [State.zoneTold_session canonical, State.zoneSessions_session canonical]
    split
    · exact Session.draining_idem _
    · rfl
  · obtain kind | kind | kind := kinds e listed <;> simp [kind]

/-- The new zone is judged from the state with its sessions judged. -/
theorem State.zoneCovered_judged (canonical : s.sessions.wf Session.free Config.sessionCount = true)
    (occupied : s.queue.records.length ≤ s.queue.mark) (z : Nat) :
    (s.zoneSessions z).CoverageJudged (s.zoneCovered z) s.radiationAllowed (s.zoned z).radiationAllowed (s.zoneGrace (some z)) := by
  rw [← State.zoneTold_radiationAllowed]
  refine (State.zoneTold_prepares canonical occupied z).judged _ ?_ _
  cases withdraws : s.zoneWithdraws z with
  | false =>
    left
    rw [State.zoneTold, State.zoneReady, withdraws]
    rfl
  | true =>
    right
    obtain ⟨⟨was, now⟩, serves⟩ : (s.radiationAllowed = true ∧ (s.zoned z).radiationAllowed = false) ∧ s.coverage.state.inService = true := by
      simpa [State.zoneWithdraws] using withdraws
    obtain ⟨x, o, framed⟩ := s.zoneTold_frame z
    refine ⟨was, by rw [State.zoneTold_radiationAllowed, now], by rw [framed]; exact serves⟩

/-- What follows the judgement does not reach service. -/
theorem State.qualifyZone_keepsService (s : State) (z : Nat) : (s.zoneCovered z).KeepsService (s.qualifyZone z) :=
  by
  rw [State.qualifyZone_eq]
  exact ((s.zoneCovered z).judgeLinks_keepsService allSlots).trans (State.sendComponent_keepsService _ _ _)

/-- What a change of zone leaves as it was. -/
theorem State.qualifyZone_frame (s : State) (z : Nat) : ∃ c g a q x l k i r o, s.qualifyZone z = { s with
    coverage := c, agreements := g, accounts := a, queue := q, sessions := x, owed := l, selector := k, links := i, rating := r
    router := o } := by
  obtain ⟨_, _, told⟩ := s.zoneTold_frame z
  obtain ⟨_, _, _, _, _, _, _, judged⟩ := (s.zoneTold z).judgeCoverage_frame s.radiationAllowed (s.zoneGrace (some z))
  obtain ⟨_, _, _, linked⟩ := (s.zoneCovered z).judgeLinks_frame allSlots
  obtain ⟨_, _, sent⟩ := ((s.zoneCovered z).judgeLinks allSlots).sendComponent_frame .zoneClass fun c => { c with zoneClass := (s.zoneRecord z).tariffClass }
  rw [State.qualifyZone_eq, State.sendZoneClass, sent, linked, State.zoneCovered, judged, told, State.zoned_frame]
  exact ⟨_, _, _, _, _, _, _, _, _, _, rfl⟩

theorem State.qualifyZone_zones (s : State) (z : Nat) : (s.qualifyZone z).coverage.zones = (some z, some z, none, s.coverage.fixTimer) := by
  obtain ⟨_, _, told⟩ := s.zoneTold_frame z
  rw [(s.qualifyZone_keepsService z).coverage, State.zoneCovered, State.judgeCoverage_zones, told]
  rfl

theorem State.qualifyZone_radiationAllowed (s : State) (z : Nat) : (s.qualifyZone z).radiationAllowed = (s.zoned z).radiationAllowed := by
  obtain ⟨_, _, _, _, _, _, _, _, _, _, framed⟩ := s.qualifyZone_frame z
  refine State.radiationAllowed_congr ?_ ?_ ?_ ?_
  · exact congrArg Prod.fst (s.qualifyZone_zones z)
  all_goals rw [framed]; rfl

theorem State.qualifyZone_judged (canonical : s.sessions.wf Session.free Config.sessionCount = true)
    (occupied : s.queue.records.length ≤ s.queue.mark) (z : Nat) :
    (s.zoneSessions z).CoverageJudged (s.qualifyZone z) s.radiationAllowed (s.qualifyZone z).radiationAllowed (s.zoneRecord z).grace := by
  rw [State.qualifyZone_radiationAllowed]
  exact (State.zoneCovered_judged canonical occupied z).congr (s.qualifyZone_keepsService z)

/-! ### What is told of the sessions -/

/-- The occurrences between a state and its new zone, judged. -/
theorem State.qualifyZone_runs (canonical : s.sessions.wf Session.free Config.sessionCount = true) (z : Nat) :
    ∃ m, (s.qualifyZone z).router = s.router.occurs ((.zoneChanged, z)
        :: ((s.zoneReady z).handlesOf fun x => x.served && x.agreement.isSome).flatMap
          (fun h => ((s.zoneReady z).session h).told ((s.zoneReady z).zoneJudged z ((s.zoneReady z).session h)) h) ++ m)
      ∧ ∀ e ∈ m, e.1 ≠ .sessionSuspended ∧ e.1 ≠ .sessionResumed := by
  obtain ⟨x, drained⟩ := s.zoneReady_frame z
  have judged := State.rewrites_zoneReasons (State.zoneReady_wf canonical z) z
  obtain ⟨m, covered, kinds⟩ := (s.zoneTold z).judgeCoverage_told s.radiationAllowed (s.zoneGrace (some z))
  obtain ⟨m', after, quiet⟩ := (s.qualifyZone_keepsService z).quiet
  have router : (s.zoneReady z).router = s.router.occur .zoneChanged z := by
    rw [drained]
    rfl
  refine ⟨m ++ m', ?_, fun e listed => ?_⟩
  · rw [List.cons_append, Router.occurs_cons, Router.occurs_append, Router.occurs_append, after, State.zoneCovered, covered,
      State.zoneTold, judged.router, router]
  · obtain inM | inM' := List.mem_append.mp listed
    · obtain kind | kind | kind | kind := kinds e inM <;> simp [kind]
    · exact ⟨fun same => quiet e inM' (.inr (.inl same)), fun same => quiet e inM' (.inr (.inr same))⟩

/-- A judgement that begins no withdrawal leaves the sessions alone. -/
theorem State.CoverageJudged.kept {was now : Bool} {grace : Nat} (judged : s.CoverageJudged t was now grace)
    (stays : (was && !now && s.coverage.state.inService) = false) : t.sessions = s.sessions := by
  obtain ⟨still, gains, loses⟩ := judged
  cases was <;> cases now
  · exact (still rfl).2.1
  · exact (gains rfl rfl).1.1
  · obtain ⟨silent, qualifies, -⟩ := loses rfl rfl
    cases state : s.coverage.state with
    | silent => exact (silent (.inl state)).2.1
    | withdrawing => exact (silent (.inr state)).2.1
    | qualifying => exact (qualifies state).2.1
    | ramping | radiating => simp [state, CoverageState.inService] at stays
  · exact (still rfl).2.1

/-- One that does leaves nobody served but DRAINING (R20, R62). -/
theorem State.CoverageJudged.withdrawn {grace : Nat} (judged : s.CoverageJudged t true false grace)
    (canonical : s.sessions.wf Session.free Config.sessionCount = true) (serves : s.coverage.state.inService = true) :
    (t.coverage.state = .withdrawing ∧ t.coverage.graceInForce = grace
        ∧ t.coverage.graceTimer = some (grace * Config.periodsPerSecond) ∧ s.Latched t .coverageChanged
        ∧ ∀ h, (t.session h).live = false)
      ∨ t.coverage.state = .silent ∧ ∀ h, (t.session h).served = false := by
  obtain ⟨-, -, loses⟩ := judged
  have state : s.coverage.state = .ramping ∨ s.coverage.state = .radiating := by
    cases state : s.coverage.state <;> simp_all [CoverageState.inService]
  obtain ⟨begins, ends⟩ := (loses rfl rfl).2.2 state
  by_cases atOnce : grace = 0 ∨ s.servedHandles = []
  · obtain ⟨is, closes⟩ := ends atOnce
    exact .inr ⟨by rw [is.1]; rfl, closes.unserved canonical⟩
  · rw [not_or] at atOnce
    obtain ⟨is, session, -⟩ := begins atOnce.1 atOnce.2
    refine .inl ⟨by rw [is.1], by rw [is.1], by rw [is.1], is.latched, fun h => ?_⟩
    rw [session]
    split
    · rfl
    next unserved =>
      rw [Bool.eq_false_iff, ne_eq, Session.live_iff]
      rw [Session.served_iff] at unserved
      exact fun live => unserved (live.imp_right .inl)

theorem Session.live_eq_false_of_unserved {x : Session} (unserved : x.served = false) : x.live = false := by
  rw [Bool.eq_false_iff, ne_eq, Session.live_iff]
  rw [Session.served_eq_false_iff] at unserved
  obtain state | state := unserved <;> simp [state]

theorem State.qualifyZone_tellsReasons (canonical : s.sessions.wf Session.free Config.sessionCount = true)
    (occupied : s.queue.records.length ≤ s.queue.mark) (z : Nat) : s.TellsReasons (s.qualifyZone z) := by
  obtain ⟨m, run, quiet⟩ := State.qualifyZone_runs canonical z
  have judged := State.qualifyZone_judged canonical occupied z
  rw [State.qualifyZone_radiationAllowed] at judged
  have outside : ∀ e : EventKind × Nat, e.1 = .sessionSuspended ∨ e.1 = .sessionResumed → e ≠ (.zoneChanged, z) ∧ e ∉ m := by
    rintro e kind
    refine ⟨fun same => by simp [same] at kind, fun listed => ?_⟩
    exact kind.elim (quiet e listed).1 (quiet e listed).2
  cases withdraws : s.zoneWithdraws z with
  | false =>
    have kept := judged.kept withdraws
    have ready : s.zoneReady z = s.zoned z := by
      rw [State.zoneReady, withdraws]
      rfl
    rw [ready] at run
    have state : ∀ h, (s.qualifyZone z).session h = s.zoneSession z h := fun h => by
      rw [← State.zoneSessions_session canonical]
      simp only [State.session, kept]
    have listedIff : ∀ h, h ∈ (s.zoned z).handlesOf (fun x => x.served && x.agreement.isSome) ↔
        (s.session h).served = true ∧ (s.session h).agreement.isSome = true := fun h => by
      rw [State.mem_handlesOf (s := s.zoned z) canonical rfl, Bool.and_eq_true]
      rfl
    refine State.tellsReasons_of_told (hs := (s.zoned z).handlesOf fun x => x.served && x.agreement.isSome)
      (r := fun h => s.zoneJudged z (s.session h)) run (fun e kind => ?_) (fun h listed _ => ?_) fun h out => ?_
    · obtain ⟨notZone, notAfter⟩ := outside e kind
      rw [List.mem_append, List.mem_cons]
      simp only [notZone, notAfter, false_or, or_false]
      rfl
    · rw [state, State.zoneSession, if_pos ((listedIff h).mp listed)]
    · rw [state, State.zoneSession, if_neg fun told => ?_]
      exact out.elim (fun unlisted => unlisted ((listedIff h).mpr told)) fun unserved => by simp [unserved] at told
  | true =>
    obtain ⟨⟨was, now⟩, serves⟩ : (s.radiationAllowed = true ∧ (s.zoned z).radiationAllowed = false) ∧ s.coverage.state.inService = true := by
      simpa [State.zoneWithdraws] using withdraws
    rw [was, now] at judged
    have dead : ∀ h, ((s.qualifyZone z).session h).live = false := by
      obtain ⟨-, -, -, -, dead⟩ | ⟨-, unserved⟩ := judged.withdrawn
        ((State.rewrites_zoneReasons (s := s.zoned z) canonical z).canonical canonical) serves
      · exact dead
      · exact fun h => Session.live_eq_false_of_unserved (unserved h)
    have still : ∀ {st : SessionState}, st = .active ∨ st = .suspended → ∀ h, ((s.qualifyZone z).session h).state ≠ st :=
      fun kind h same => by simpa [dead h] using (Session.live_iff (x := (s.qualifyZone z).session h)).mpr (same ▸ kind)
    have silent : ∀ e : EventKind × Nat, e.1 = .sessionSuspended ∨ e.1 = .sessionResumed →
        e ∉ ((s.zoneReady z).handlesOf fun x => x.served && x.agreement.isSome).flatMap
          (fun h => ((s.zoneReady z).session h).told ((s.zoneReady z).zoneJudged z ((s.zoneReady z).session h)) h) := fun e _ listed => by
      obtain ⟨-, moved⟩ := mem_flatMap_told.mp listed
      have drained : ((s.zoneReady z).session e.2) = (s.session e.2).draining := by
        rw [State.zoneReady, withdraws]
        exact State.drainOrder_session (s := s.zoned z) canonical e.2
      have live : ((s.session e.2).draining).state = .active ∨ ((s.session e.2).draining).state = .suspended := by
        rw [drained] at moved
        exact moved.imp (·.2.1) (·.2.1)
      have served : (s.session e.2).draining.served = true := Session.served_iff.mpr (live.imp_right .inl)
      rw [Session.draining_state served] at live
      simp at live
    have none_told : ∀ e : EventKind × Nat, e.1 = .sessionSuspended ∨ e.1 = .sessionResumed → e ∉ ((.zoneChanged, z)
        :: ((s.zoneReady z).handlesOf fun x => x.served && x.agreement.isSome).flatMap
          (fun h => ((s.zoneReady z).session h).told ((s.zoneReady z).zoneJudged z ((s.zoneReady z).session h)) h) ++ m) := fun e kind => by
      obtain ⟨notZone, notAfter⟩ := outside e kind
      rw [List.mem_append, List.mem_cons]
      simp only [notZone, notAfter, silent e kind, or_self, not_false_eq_true]
    exact ⟨State.tellsMoves_of_occurs run fun h => ⟨fun told => absurd told (none_told _ (.inl rfl)), fun moved =>
        absurd moved.2 (still (.inr rfl) h)⟩,
      State.tellsMoves_of_occurs run fun h => ⟨fun told => absurd told (none_told _ (.inr rfl)), fun moved =>
        absurd moved.2 (still (.inl rfl) h)⟩⟩

end Qualify

/-! ### The fix lost (R52) -/

section Fix

variable {s : State}

/-- The controller with no zone, E3 raised. -/
def State.unfixed (s : State) : State :=
  ({ s with coverage := { s.coverage with zone := none, candidate := none, fixTimer := none } } : State).raise .zoneUnknown
    (zoneDetail s.coverage.lastZone)

/-- The condition judged without a zone. -/
def State.fixCovered (s : State) : State := s.unfixed.judgeCoverage s.radiationAllowed (s.zoneGrace s.coverage.lastZone)

theorem State.unfixed_radiationAllowed (s : State) : s.unfixed.radiationAllowed = false := rfl

/-- Without a zone there was no radiation to lose. -/
theorem State.fixCovered_of_unknown (unknown : s.coverage.zone = none) : s.fixCovered = s.unfixed := by
  have lost : s.radiationAllowed = false := by simp [State.radiationAllowed, unknown]
  exact if_pos (by rw [lost, State.unfixed_radiationAllowed])

theorem State.loseFix_eq (s : State) : s.loseFix = if s.coverage.zone.isSome then s.fixCovered.judgeLinks allSlots else s.unfixed := rfl

theorem State.unfixed_prepares (canonical : s.sessions.wf Session.free Config.sessionCount = true)
    (occupied : s.queue.records.length ≤ s.queue.mark) : s.Prepares s.unfixed :=
  ⟨canonical, canonical, occupied, rfl, fun _ => rfl, rfl, rfl, rfl, rfl, rfl, rfl,
    .of_quiet (l := [(.zoneUnknown, _)]) rfl (by simp)⟩

theorem State.loseFix_keepsService (s : State) : s.fixCovered.KeepsService s.loseFix := by
  rw [State.loseFix_eq]
  split
  · exact State.judgeLinks_keepsService _ allSlots
  next unknown =>
    rw [State.fixCovered_of_unknown (by simpa using unknown)]
    exact ⟨rfl, rfl, rfl, rfl, rfl, rfl, .of_eq rfl⟩

theorem State.loseFix_judged (canonical : s.sessions.wf Session.free Config.sessionCount = true)
    (occupied : s.queue.records.length ≤ s.queue.mark) :
    s.CoverageJudged s.loseFix s.radiationAllowed false (s.zoneGrace s.coverage.lastZone) :=
  ((State.unfixed_prepares canonical occupied).judged s.radiationAllowed (.inl rfl) _).congr s.loseFix_keepsService

theorem State.loseFix_zones (s : State) : s.loseFix.coverage.zones = (none, s.coverage.lastZone, none, none) := by
  rw [s.loseFix_keepsService.coverage, State.fixCovered, State.judgeCoverage_zones]
  rfl

theorem State.loseFix_frame (s : State) : ∃ c g a q x l k i o, s.loseFix = { s with
    coverage := c, agreements := g, accounts := a, queue := q, sessions := x, owed := l, selector := k, links := i, router := o } := by
  obtain ⟨_, _, _, _, _, _, _, judged⟩ := s.unfixed.judgeCoverage_frame s.radiationAllowed (s.zoneGrace s.coverage.lastZone)
  obtain ⟨_, _, _, linked⟩ := s.fixCovered.judgeLinks_frame allSlots
  rw [State.loseFix_eq]
  split
  · rw [linked, State.fixCovered, judged]
    exact ⟨_, _, _, _, _, _, _, _, _, rfl⟩
  · exact ⟨_, s.agreements, s.accounts, s.queue, s.sessions, s.owed, s.selector, s.links, _, rfl⟩

/-- The kinds that the loss of the fix raises before the links are judged. -/
theorem State.fixCovered_told (s : State) : State.TellsOf (fun k => k = .zoneUnknown ∨ k.ofCoverage) s s.fixCovered := by
  obtain ⟨l, run, kinds⟩ := s.unfixed.judgeCoverage_told s.radiationAllowed (s.zoneGrace s.coverage.lastZone)
  refine ⟨(.zoneUnknown, zoneDetail s.coverage.lastZone) :: l, run, fun e listed => ?_⟩
  obtain rfl | inL := List.mem_cons.mp listed
  · exact .inl rfl
  · exact .inr (kinds e inL)

theorem State.loseFix_unlatched {k : EventKind} (reason : k = .sessionSuspended ∨ k = .sessionResumed) : s.Unlatched s.loseFix k := by
  intro p
  rw [s.loseFix_keepsService.quiet.unlatched (.inr reason) p]
  refine s.fixCovered_told.unlatched ?_ p
  obtain rfl | rfl := reason <;> simp [EventKind.ofCoverage]

/-- The eligible flags without a zone (R93). -/
theorem State.loseFix_eligible (judged : s.Judged) (i : Slot) : (s.loseFix.link i).eligible =
    eligibleFor (s.linkConfig.get i) none s.bridge.standing.harbor := by
  obtain ⟨_, _, _, _, _, _, _, framed⟩ := s.unfixed.judgeCoverage_frame s.radiationAllowed (s.zoneGrace s.coverage.lastZone)
  rw [State.loseFix_eq]
  split
  · have zone : s.fixCovered.coverage.zone = none := congrArg Prod.fst (State.judgeCoverage_zones _ _ _)
    rw [State.judgeLinks_eligible (by decide), if_pos (mem_allSlots i), State.eligibleNow, zone, State.fixCovered, framed]
    rfl
  next unknown =>
    have zone : s.coverage.zone = none := by simpa using unknown
    have now := judged i
    rwa [State.eligibleNow, zone] at now

end Fix

/-- Settles O24. -/
theorem zoneTimersChangeZone : Obligations.ZoneTimersChangeZone := by
  intro s law runs
  refine ⟨fun c held => ?_, fun r timed => ?_⟩
  · obtain ⟨u, passed⟩ : ∃ u : State, u = s.elapse c.timer := ⟨_, rfl⟩
    have law' : u.Lawful := passed ▸ law.elapse c.timer
    have session : ∀ h, u.session h = s.session h := fun h => by rw [passed, State.elapse_session]
    have agreement : ∀ i, u.agreement i = s.agreement i := fun i => by rw [passed, State.elapse_agreement]
    have record : u.zoneRecord c.zone = s.zoneRecord c.zone := by rw [passed, State.elapse_zoneRecord]
    have allowed : u.radiationAllowed = s.radiationAllowed := by rw [passed, State.elapse_radiationAllowed]
    have state : u.coverage.state = s.coverage.state := by rw [passed, State.elapse_coverage runs]; rfl
    obtain ⟨-, ⟨canonical, -⟩, -, -, -, -, -, -, ⟨-, -, -, -, -, -, -, serving, -⟩, -, -, -, -, -, -, -, ⟨occupied, -⟩, -⟩ := law'
    have judged := State.qualifyZone_judged canonical occupied c.zone
    have zones := u.qualifyZone_zones c.zone
    obtain ⟨zone, last, candidate, -⟩ : _ ∧ _ ∧ _ ∧ _ := by simpa only [Coverage.zones, Prod.mk.injEq] using zones
    have canonicalV := (State.rewrites_zoneReasons (s := u.zoned c.zone) canonical c.zone).canonical canonical
    have qualifies : exec .candidateQualifies s = .next (u.qualifyZone c.zone) := by
      have timed : s.coverage.candidate.map Candidate.timer = some c.timer := by rw [held]; rfl
      refine congrArg _ ((State.onExpiry_runs runs timed _).trans ?_)
      rw [← passed]
      have held' : u.coverage.candidate = some { c with timer := c.timer - c.timer } := by
        rw [passed, State.elapse_coverage runs, Coverage.pass, held]
        rfl
      simp only [held']
    obtain ⟨_, _, _, _, _, _, _, _, _, _, framed⟩ := u.qualifyZone_frame c.zone
    refine ⟨u.zoneSessions c.zone, u.qualifyZone c.zone, ?_, fun h => ?_, ?_, qualifies, zone, last, candidate, ?_, ?_,
      fun h i served under => ?_, .of_elapse (n := c.timer) runs (passed ▸ State.qualifyZone_tellsReasons canonical occupied c.zone),
      fun serves restricted => ?_, ?_, ?_, ?_, ?_, ?_, ?_, ?_⟩
    · rw [passed]
      rfl
    · rw [State.zoneSessions_session canonical, State.zoneSession_eq, session]
      cases (s.session h).agreement with
      | none => rfl
      | some i => simp only [agreement]
    · rwa [allowed, record] at judged
    · refine .of_elapse (n := c.timer) runs (passed ▸ ?_)
      obtain ⟨m, run, -⟩ := State.qualifyZone_runs canonical c.zone
      exact State.latched_of_occurs run (d := c.zone) (by simp)
    · rw [State.qualifyZone_eq, State.sendZoneClass, State.sendComponent_newest, record]
    · have same := judged.session canonicalV h served
      rw [State.zoneSessions_session canonical] at same
      have reasons : ((u.qualifyZone c.zone).session h).reasons = (u.zoneSession c.zone h).reasons
          ∧ ((u.qualifyZone c.zone).session h).agreement = (u.zoneSession c.zone h).agreement
          ∧ ((u.qualifyZone c.zone).session h).served = (u.zoneSession c.zone h).served := by
        obtain kept | drained := same
        · rw [kept]
          exact ⟨rfl, rfl, rfl⟩
        · rw [drained]
          exact ⟨Session.draining_reasons _, Session.draining_agreement _, Session.draining_served _⟩
      obtain ⟨reasons, agreed, served'⟩ := reasons
      rw [served', State.zoneSession_eq] at served
      rw [agreed, State.zoneSession_eq] at under
      rw [reasons, State.zoneSession_eq]
      cases held : (u.session h).agreement with
      | none => simp [held] at under
      | some j =>
        simp only [held] at served under ⊢
        by_cases was : (u.session h).served = true
        · rw [if_pos was] at under ⊢
          have same : j = i := Option.some.inj (held.symm.trans under)
          rw [← same, ← agreement]
          rfl
        · rw [if_neg was] at served
          exact absurd served was
    · have was : u.radiationAllowed = true := serving (passed ▸ (State.elapse_mainRuns.trans runs)) (.inr (by rw [state]; exact serves))
      have now : (u.qualifyZone c.zone).radiationAllowed = false := by
        have restricted' : (u.zoneRecord c.zone).kind = .restrictive := record ▸ restricted
        rw [State.qualifyZone_radiationAllowed]
        change ((match some c.zone with
          | some z => (u.zoneRecord z).kind == .permissive
          | none => false) && !u.bridge.standing.silence && !u.bridge.standing.harbor && !u.power.flushing) = false
        simp [restricted']
      rw [was, now, record] at judged
      obtain ⟨withdraws, grace, timer, told, dead⟩ | silent := judged.withdrawn canonicalV (by rw [← state] at serves; exact serves)
      · exact .inl ⟨withdraws, grace, timer, .of_elapse (n := c.timer) runs (passed ▸ told), dead⟩
      · exact .inr silent
    all_goals rw [framed, passed]
    · exact State.elapse_power runs
    · exact State.elapse_tariff
    · exact State.elapse_zones
    · exact State.elapse_linkConfig
    · exact State.elapse_params
    · dsimp only
      rw [State.elapse_bridge runs]
      rfl
    · exact State.elapse_calendar
  · obtain ⟨u, passed⟩ : ∃ u : State, u = s.elapse r := ⟨_, rfl⟩
    have law' : u.Lawful := passed ▸ law.elapse r
    have runs' : u.mainRuns = true := passed ▸ (State.elapse_mainRuns.trans runs)
    have session : ∀ h, u.session h = s.session h := fun h => by rw [passed, State.elapse_session]
    have allowed : u.radiationAllowed = s.radiationAllowed := by rw [passed, State.elapse_radiationAllowed]
    have last : u.coverage.lastZone = s.coverage.lastZone := by rw [passed, State.elapse_coverage runs]; rfl
    have standing : u.bridge.standing = s.bridge.standing := by rw [passed, State.elapse_bridge runs]; rfl
    obtain ⟨-, ⟨canonical, -⟩, -, -, -, -, -, -, -, -, -, -, -, link, -, -, ⟨occupied, -⟩, -⟩ := law'
    have judged := State.loseFix_judged canonical occupied
    have grace : u.zoneGrace u.coverage.lastZone = match s.coverage.lastZone with
        | some z => (s.zoneRecord z).grace
        | none => 0 := by
      rw [last, passed]
      cases s.coverage.lastZone <;> simp [State.zoneGrace]
    obtain ⟨zone, last', candidate, fix⟩ : _ ∧ _ ∧ _ ∧ _ := by
      simpa only [Coverage.zones, Prod.mk.injEq] using u.loseFix_zones
    obtain ⟨_, _, _, _, _, _, _, _, _, framed⟩ := u.loseFix_frame
    refine ⟨u.loseFix, congrArg _ ((State.onExpiry_runs runs timed _).trans (by rw [passed])), ?_, zone, candidate, fix,
      last'.trans last, ?_, ?_, ?_, fun h served => ?_, ?_, ?_, fun i => ?_, ?_, ?_, ?_, ?_, ?_, ?_, ?_⟩
    · rw [allowed, grace] at judged
      rw [← passed]
      exact judged
    · refine .of_elapse (n := r) runs (passed ▸ ?_)
      have told : u.Latched u.fixCovered .zoneUnknown := by
        obtain ⟨l, run, -⟩ := u.unfixed.judgeCoverage_told u.radiationAllowed (u.zoneGrace u.coverage.lastZone)
        exact State.latched_of_occurs (l := (.zoneUnknown, zoneDetail u.coverage.lastZone) :: l) run List.mem_cons_self
      exact told.tells u.loseFix_keepsService.quiet.tells
    · rw [framed, passed]
      exact State.elapse_inForce
    · rw [framed, passed]
      exact State.elapse_pendingContext
    · obtain same | drained := judged.session canonical h served
      · rw [same, session]
      · rw [drained, Session.draining_reasons, session]
    · exact .of_elapse (n := r) runs (passed ▸ State.loseFix_unlatched (.inl rfl))
    · exact .of_elapse (n := r) runs (passed ▸ State.loseFix_unlatched (.inr rfl))
    · have config : u.linkConfig = s.linkConfig := by rw [passed, State.elapse_linkConfig]
      rw [State.loseFix_eligible (link.judged runs'), standing, config]
      unfold eligibleFor
      cases (s.linkConfig.get i).kind <;> rfl
    all_goals rw [framed, passed]
    · exact State.elapse_power runs
    · exact State.elapse_tariff
    · exact State.elapse_zones
    · exact State.elapse_linkConfig
    · exact State.elapse_params
    · dsimp only
      rw [State.elapse_bridge runs]
      rfl
    · exact State.elapse_calendar

end Sys2Proof.Machine

/-! PROOF. Service ended at once (R65), and the order a train gives (4.3): O28. -/

namespace Sys2Proof.Machine

/-! ### The end of service (R65) -/

section EndOfService

variable {s t v w : State} {n : Nat}

/-- Where the sessions and the controller let nobody be served, the closing of whoever is served does nothing. -/
theorem State.ClosesServed.of_nobody (canonical : s.sessions.wf Session.free Config.sessionCount = true)
    (occupied : s.queue.records.length ≤ s.queue.mark) (none_served : s.servedHandles = []) : s.ClosesServed s := by
  have ready : s.Readied s := State.Readied.of_drained fun h served => by
    have listed := (State.mem_servedHandles canonical).mpr served
    rw [none_served] at listed
    cases listed
  refine ready.closesServed canonical occupied rfl ?_
  rw [none_served, List.take_nil, List.drop_nil]
  exact .refl s .coverageEnd

/-- The tables and the closings of one state are those of another with the same tables. -/
theorem State.ClosesServed.of_prepared (closed : w.ClosesServed t) (prep : v.Prepares w) (sessions : w.sessions = v.sessions) :
    v.ClosesServed t := by
  have session : ∀ h, w.session h = v.session h := fun h => by simp only [State.session, sessions]
  have account : ∀ a, w.account a = v.account a := fun a => by simp only [State.account, prep.accounts]
  have agreement : ∀ i, w.agreement i = v.agreement i := fun i => by simp only [State.agreement, prep.agreements]
  have record : w.coverageRecord = v.coverageRecord := funext fun h => by simp only [State.coverageRecord, session, prep.clock]
  have latched : ∀ {k}, w.Latched t k → v.Latched t k := fun {k} told p on => by
    refine told p ?_
    obtain ⟨l, run⟩ := (prep.quiet 0).tells
    rw [State.port, run, Router.occurs_enabled]
    exact on
  intro freed waiting freedIs waitingIs
  obtain ⟨records, mark, owed, sessions', accounts', agreements', first, fills, owes⟩ := closed freed waiting
    (by rw [prep.servedHandles, prep.queue]; exact freedIs) (by rw [prep.servedHandles, prep.queue]; exact waitingIs)
  simp only [session] at sessions'
  simp only [session, account] at accounts'
  simp only [session, agreement] at agreements'
  rw [record, prep.queue] at records
  rw [prep.queue] at mark first fills
  rw [prep.owed] at owed owes
  exact ⟨records, mark, owed, sessions', accounts', agreements', fun e f => latched (first e f), fun b f => latched (fills b f),
    fun e f => latched (owes e f)⟩

/-- Service ends at once: SILENT, and whoever was served closed (R65). -/
theorem State.Prepares.endOfService (prep : v.Prepares w) (sessions : w.sessions = v.sessions)
    (stopped : v.coverage.state = .silent → v.coverage.stopped = v.coverage)
    (nobody : v.coverage.state = .silent ∨ v.coverage.state = .qualifying → v.servedHandles = []) :
    v.CoverageIs w.endOfService (if v.coverage.state = .silent then 0 else 1) v.coverage.stopped ∧ v.ClosesServed w.endOfService := by
  have none_closed : v.servedHandles = [] → ∀ c, v.ClosesServed (w.changeCoverage c) ∧ v.ClosesServed w := fun none_served c => by
    have same := (State.ClosesServed.of_nobody prep.canonical' (by rw [prep.queue]; exact prep.occupied)
      (prep.servedHandles.trans none_served)).of_prepared prep sessions
    exact ⟨same.congr rfl rfl rfl rfl rfl (w.changeCoverage_told c).tells, same⟩
  have silenced : ∀ u : State, w.changeCoverage w.coverage.silenced = u → v.CoverageIs u 1 v.coverage.stopped := fun u changed => by
    subst changed
    have told : v.Reports (w.changeCoverage w.coverage.silenced) 1 (w.coverage.silenced.zone.getD 255) := by
      simpa using (prep.quiet _).trans (w.changeCoverage_reports w.coverage.silenced)
    refine State.Reports.coverageIs told ?_
    rw [State.changeCoverage_silenced]
    dsimp only
    rw [prep.coverage]
    rfl
  have closes : w.endOfService = (w.changeCoverage w.coverage.silenced).drainOrder.endOfDrain →
      v.CoverageIs w.endOfService 1 v.coverage.stopped ∧ v.ClosesServed w.endOfService := fun eq => by
    rw [eq]
    have canonical := State.drainOrder_wf (s := w.changeCoverage w.coverage.silenced) prep.canonical'
    have framed := State.drainOrder_eq (w.changeCoverage w.coverage.silenced)
    have ready : v.Readied (w.changeCoverage w.coverage.silenced).drainOrder := by
      refine ⟨fun h => ?_, ?_, ?_, ?_, ?_, ?_, (prep.quiet 0).tells.trans
        ((w.changeCoverage_told _).trans (State.drainOrder_told _)).tells⟩
      · rw [State.drainOrder_session (s := w.changeCoverage w.coverage.silenced) prep.canonical']
        exact prep.session h
      · rw [framed, ← prep.owed]
        rfl
      · rw [framed, ← prep.queue]
        rfl
      · rw [framed, ← prep.accounts]
        rfl
      · rw [framed, ← prep.agreements]
        rfl
      · rw [framed, ← prep.clock]
        rfl
    have drained : (w.changeCoverage w.coverage.silenced).Reports (w.changeCoverage w.coverage.silenced).drainOrder 0
        (w.coverage.zone.getD 255) := .of_eq (by rw [framed]) _
    have ended := (State.endOfDrain_closes canonical ready.wf_drains).reports (w.coverage.zone.getD 255)
    have coverage : (w.changeCoverage w.coverage.silenced).drainOrder.endOfDrain.coverage =
        (w.changeCoverage w.coverage.silenced).coverage := by
      obtain ⟨_, _, _, _, _, _, framed'⟩ := (w.changeCoverage w.coverage.silenced).drainOrder.endOfDrain_frame
      rw [framed', framed]
    have changed := (silenced _ rfl).1
    refine ⟨State.Reports.coverageIs ?_ (by rw [coverage]; exact changed), ready.endOfDrain prep.canonical canonical prep.occupied⟩
    have zone : (w.changeCoverage w.coverage.silenced).drainOrder.endOfDrain.coverage.zone = w.coverage.zone := by rw [coverage]; rfl
    have told : v.Reports (w.changeCoverage w.coverage.silenced).drainOrder.endOfDrain 1 (w.coverage.silenced.zone.getD 255) := by
      simpa using (prep.quiet _).trans (((w.changeCoverage_reports w.coverage.silenced).trans drained).trans ended)
    rw [zone]
    exact told
  cases state : v.coverage.state with
  | silent =>
    have still : w.endOfService = w := by rw [State.endOfService, prep.state, state]
    rw [still, if_pos rfl, stopped state]
    exact ⟨prep.coverageIs, (none_closed (nobody (.inl state)) w.coverage).2⟩
  | qualifying =>
    have falls : w.endOfService = w.changeCoverage w.coverage.silenced := by rw [State.endOfService, prep.state, state]
    rw [if_neg (by simp)]
    exact ⟨silenced _ falls.symm, by rw [falls]; exact (none_closed (nobody (.inr state)) w.coverage.silenced).1⟩
  | ramping | radiating | withdrawing =>
    rw [if_neg (by simp)]
    exact closes (by rw [State.endOfService, prep.state, state])

theorem Coverage.stopped_eq {c : Coverage} (state : c.state = .silent) (low : c.permit = false) (restore : c.restoreTimer = none)
    (ramp : c.rampTimer = none) (grace : c.graceTimer = none) (inForce : c.graceInForce = 0) (pacing : c.pacing = 0) :
    c.stopped = c := by
  obtain ⟨zone, last, candidate, fix, _, _, _, _, _, _, _⟩ := c
  subst state low restore ramp grace inForce pacing
  rfl

/-- In SILENT the controller stands as it is left there (R59). -/
theorem State.CoverageLaw.stopped (law : s.CoverageLaw) (state : s.coverage.state = .silent) : s.coverage.stopped = s.coverage := by
  obtain ⟨permit, restore, ramp, grace, pacing, inForce, -⟩ := law
  have low : s.coverage.permit = false := by rw [permit, state]; simp [CoverageState.permits]
  have noRestore : s.coverage.restoreTimer = none := by simpa [state] using restore
  have noRamp : s.coverage.rampTimer = none := by simpa [state] using ramp
  have noGrace : s.coverage.graceTimer = none := by simpa [state] using grace
  have noPacing : s.coverage.pacing = 0 := pacing (by simp [state])
  have noForce : s.coverage.graceInForce = 0 := inForce (by simp [state])
  exact Coverage.stopped_eq state low noRestore noRamp noGrace noForce noPacing

theorem State.ServiceLaw.nobody (law : s.ServiceLaw) (canonical : s.sessions.wf Session.free Config.sessionCount = true)
    (state : s.coverage.state = .silent ∨ s.coverage.state = .qualifying) : s.servedHandles = [] := by
  rw [List.eq_nil_iff_forall_not_mem]
  intro h listed
  rw [State.mem_servedHandles canonical, ((State.serviceLaw_iff canonical).mp law h).1 state] at listed
  cases listed

end EndOfService

/-! ### The order a train gives (O28) -/

section Order

variable {s u : State} {order : Nat} {old : Standing}

/-- The decoder once a train has ended. -/
def State.trainEnded (s : State) : State :=
  { s with bridge := { s.bridge with state := .idle, pulseCount := 0, longLow := false, gapTimer := none } }

/-- The order taken, before its readers act. -/
def State.ordered (s : State) (order : Nat) : State :=
  ({ s with bridge := { s.bridge with standing := s.bridge.standing.after order } } : State).raise .bridgeOrder order

theorem State.takeOrder_eq (s : State) (order : Nat) : s.takeOrder order =
    (((s.ordered order).coverageReads s.radiationAllowed s.bridge.standing).linksRead s.bridge.standing).selectorReads
      s.bridge.standing := rfl

theorem State.linksRead_keepsService (s : State) (old : Standing) : s.KeepsService (s.linksRead old) := by
  unfold State.linksRead
  split
  · exact ⟨rfl, rfl, rfl, rfl, rfl, rfl, .of_eq rfl⟩
  · exact s.judgeLinks_keepsService allSlots

theorem State.considerSwap_keepsService (s : State) : s.KeepsService s.considerSwap := by
  obtain ⟨_, _, _, framed⟩ := s.considerSwap_frame
  refine ⟨?_, ?_, ?_, ?_, ?_, ?_, s.considerSwap_quiet⟩ <;> rw [framed]

theorem State.selectorReads_keepsService (s : State) (old : Standing) : s.KeepsService (s.selectorReads old) := by
  unfold State.selectorReads
  split
  · exact s.considerSwap_keepsService
  · exact ⟨rfl, rfl, rfl, rfl, rfl, rfl, .of_eq rfl⟩

theorem State.readers_keepsService (s : State) (old : Standing) : s.KeepsService ((s.linksRead old).selectorReads old) :=
  (s.linksRead_keepsService old).trans ((s.linksRead old).selectorReads_keepsService old)

theorem State.linksRead_frame (s : State) (old : Standing) : ∃ k l o, s.linksRead old = { s with selector := k, links := l, router := o } := by
  unfold State.linksRead
  split
  · exact ⟨s.selector, s.links, s.router, rfl⟩
  · exact s.judgeLinks_frame allSlots

theorem State.selectorReads_frame (s : State) (old : Standing) :
    ∃ k l o, s.selectorReads old = { s with selector := k, links := l, router := o } := by
  unfold State.selectorReads
  split
  · exact s.considerSwap_frame
  · exact ⟨s.selector, s.links, s.router, rfl⟩

theorem State.coverageReads_frame (s : State) (was : Bool) (old : Standing) : ∃ c g a q x l o, s.coverageReads was old =
    { s with coverage := c, agreements := g, accounts := a, queue := q, sessions := x, owed := l, router := o } := by
  unfold State.coverageReads
  split
  · exact s.endOfService_frame
  · exact s.judgeCoverage_frame _ _

theorem State.takeOrder_frame (s : State) (order : Nat) : ∃ c g a q x l k i o, s.takeOrder order = { s with
    coverage := c, agreements := g, accounts := a, queue := q, sessions := x, owed := l, selector := k, links := i, router := o
    bridge := { s.bridge with standing := s.bridge.standing.after order } } := by
  rw [State.takeOrder_eq]
  obtain ⟨_, _, _, _, _, _, _, covered⟩ := (s.ordered order).coverageReads_frame s.radiationAllowed s.bridge.standing
  obtain ⟨_, _, _, linked⟩ := ((s.ordered order).coverageReads s.radiationAllowed s.bridge.standing).linksRead_frame s.bridge.standing
  obtain ⟨_, _, _, selected⟩ := (((s.ordered order).coverageReads s.radiationAllowed s.bridge.standing).linksRead
    s.bridge.standing).selectorReads_frame s.bridge.standing
  rw [selected, linked, covered]
  exact ⟨_, _, _, _, _, _, _, _, _, rfl⟩

theorem State.endOfService_zones (s : State) : s.endOfService.coverage.zones = s.coverage.zones := by
  have ends : (s.changeCoverage s.coverage.silenced).drainOrder.endOfDrain.coverage.zones = s.coverage.zones := by
    obtain ⟨_, _, _, _, _, _, closed⟩ := (s.changeCoverage s.coverage.silenced).drainOrder.endOfDrain_frame
    rw [closed, State.drainOrder_eq]
    rfl
  unfold State.endOfService
  split
  · rfl
  · rfl
  all_goals exact ends

theorem State.takeOrder_zones (s : State) (order : Nat) : (s.takeOrder order).coverage.zones = s.coverage.zones := by
  rw [State.takeOrder_eq, (State.readers_keepsService _ _).coverage]
  unfold State.coverageReads
  split
  · exact State.endOfService_zones _
  · exact State.judgeCoverage_zones _ _ _

theorem State.takeOrder_radiationAllowed (s : State) (order : Nat) : (s.takeOrder order).radiationAllowed = (s.ordered order).radiationAllowed := by
  obtain ⟨_, _, _, _, _, _, _, _, _, framed⟩ := s.takeOrder_frame order
  refine State.radiationAllowed_congr (congrArg Prod.fst (s.takeOrder_zones order)) ?_ ?_ ?_
  all_goals rw [framed]; rfl

theorem Standing.after_eq (o : Standing) (some_pulses : 1 ≤ order) (few : order < 5) : o.after order =
    if order = 1 then ⟨false, false, false⟩
    else if order = 2 then { o with silence := !o.silence }
    else if order = 3 then { o with harbor := !o.harbor }
    else { o with linkHold := !o.linkHold } := by
  obtain rfl | rfl | rfl | rfl : order = 1 ∨ order = 2 ∨ order = 3 ∨ order = 4 := by omega
  all_goals rfl

/-- SILENCE is newly taken. -/
theorem Standing.silences_iff (o : Standing) (some_pulses : 1 ≤ order) (few : order < 5) :
    ((o.after order).silence && !o.silence) = true ↔ order = 2 ∧ o.silence = false := by
  obtain rfl | rfl | rfl | rfl : order = 1 ∨ order = 2 ∨ order = 3 ∨ order = 4 := by omega
  all_goals simp [Standing.after]

end Order

/-- Settles O28. -/
theorem trainGivesOrder : Obligations.TrainGivesOrder := by
  intro s u r b law runs held timed passed
  subst held
  have law' : u.Lawful := passed ▸ law.elapse r
  have bridge : u.bridge = s.bridge.pass r := by rw [passed, State.elapse_bridge runs]
  have ends : exec .gapTimerExpires s = .next u.endTrain := congrArg _ ((State.onExpiry_runs runs timed _).trans (by rw [passed]))
  have longLow : u.bridge.longLow = s.bridge.longLow := by rw [bridge]; rfl
  have pulses : u.bridge.pulseCount = s.bridge.pulseCount := by rw [bridge]; rfl
  refine ⟨fun long => ?_, fun short five => ?_, fun short notFive => ?_⟩
  · rw [ends, State.endTrain]
    dsimp only
    rw [if_pos (longLow.trans long)]
  · rw [ends, State.endTrain]
    dsimp only
    rw [longLow, short, if_neg (by simp), if_pos (pulses.trans five)]
  · obtain ⟨-, ⟨canonical, -⟩, -, -, -, -, -, -, coverage, -, service, -, -, -, -, -, ⟨occupied, -⟩, -⟩ := law'
    obtain ⟨-, -, -, -, -, -, -, -, -, -, -, -, ⟨most, notTrain, -, -, train, counted, -⟩, -⟩ := law
    have state : s.bridge.state = .train := by
      by_contra out
      rw [(notTrain out).2.2] at timed
      cases timed
    have brief : s.bridge.lowStage = .brief := (train state).2.mp (by rw [timed]; rfl)
    have some_pulses : 1 ≤ s.bridge.pulseCount := (counted state (by simp [brief])).resolve_left (by simp [short])
    have few : s.bridge.pulseCount < 5 := by omega
    have taken : u.endTrain = u.trainEnded.takeOrder s.bridge.pulseCount := by
      rw [State.endTrain, longLow, short, if_neg (by simp), pulses, if_neg notFive, if_neg (by omega)]
      rfl
    generalize order : s.bridge.pulseCount = n at *
    have standing : u.trainEnded.bridge.standing = s.bridge.standing := by
      change u.bridge.standing = _
      rw [bridge]
      rfl
    have allowed : u.trainEnded.radiationAllowed = s.radiationAllowed := by
      change u.radiationAllowed = _
      rw [passed, State.elapse_radiationAllowed]
    obtain ⟨w, ordered⟩ : ∃ w, w = u.trainEnded.ordered n := ⟨_, rfl⟩
    have prep : u.Prepares w := by
      rw [ordered]
      exact ⟨canonical, canonical, occupied, rfl, fun _ => rfl, rfl, rfl, rfl, rfl, rfl, rfl,
        .of_quiet (l := [(.bridgeOrder, n)]) rfl (by simp)⟩
    have sessions : w.sessions = u.sessions := by rw [ordered]; rfl
    have after : w.bridge.standing = s.bridge.standing.after n := by
      rw [ordered]
      change u.trainEnded.bridge.standing.after n = _
      rw [standing]
    have read : u.trainEnded.takeOrder n = ((w.coverageReads s.radiationAllowed s.bridge.standing).linksRead s.bridge.standing).selectorReads
        s.bridge.standing := by
      rw [State.takeOrder_eq, allowed, standing, ordered]
    have same := (w.coverageReads s.radiationAllowed s.bridge.standing).readers_keepsService s.bridge.standing
    rw [← read] at same
    obtain ⟨_, _, _, _, _, _, _, _, _, framed⟩ := u.trainEnded.takeOrder_frame n
    have zone : (u.trainEnded.takeOrder n).coverage.zone = s.coverage.zone := by
      have zones := congrArg Prod.fst (u.trainEnded.takeOrder_zones n)
      refine zones.trans ?_
      change u.coverage.zone = _
      rw [passed, State.elapse_coverage runs]
      rfl
    have coverState : u.coverage.state = s.coverage.state := by rw [passed, State.elapse_coverage runs]; rfl
    refine ⟨u.trainEnded.takeOrder n, ends.trans (congrArg _ taken), ?_, ?_, fun two unsilenced => ?_, fun other => ?_, fun four => ?_,
      ?_, ?_, ?_, ?_, ?_, ?_, ?_, zone⟩
    · refine .of_elapse (n := r) runs (passed ▸ ?_)
      have told : u.Latched w .bridgeOrder := by
        rw [ordered]
        exact State.latched_of_occurs (l := [(.bridgeOrder, n)]) (d := n) rfl (by simp)
      refine told.tells ?_
      have covered : w.Tells (w.coverageReads s.radiationAllowed s.bridge.standing) := by
        unfold State.coverageReads
        split
        · exact w.endOfService_told.tells
        · exact (w.judgeCoverage_told _ _).tells
      exact covered.trans same.quiet.tells
    · rw [framed, standing, Standing.after_eq _ some_pulses few]
      rfl
    · have silences := (Standing.silences_iff s.bridge.standing some_pulses few).mpr ⟨two, unsilenced⟩
      have covered : w.coverageReads s.radiationAllowed s.bridge.standing = w.endOfService := by
        rw [State.coverageReads, after, if_pos silences]
      rw [covered] at same
      obtain ⟨is, closes⟩ := prep.endOfService sessions coverage.stopped (service.nobody canonical)
      rw [coverState] at is
      have is' := is.congr same
      refine ⟨by rw [is'.1]; rfl, by rw [is'.1]; rfl, fun h => ?_, is', closes.congr same.sessions same.owed same.accounts same.agreements
        same.queue same.quiet.tells⟩
      rw [same.session]
      exact closes.unserved canonical h
    · have quiet : ¬ ((s.bridge.standing.after n).silence && !s.bridge.standing.silence) = true := fun silences => by
        have two := (Standing.silences_iff s.bridge.standing some_pulses few).mp silences
        exact other.elim (· two.1) fun silent => by simp [two.2] at silent
      have covered : w.coverageReads s.radiationAllowed s.bridge.standing = w.judgeCoverage s.radiationAllowed (w.zoneGrace w.coverage.zone) := by
        rw [State.coverageReads, after, if_neg quiet]
      rw [covered] at same
      have judged := (prep.judged s.radiationAllowed (.inl sessions) (w.zoneGrace w.coverage.zone)).congr same
      have grace : w.zoneGrace w.coverage.zone = match s.coverage.zone with
          | some z => (s.zoneRecord z).grace
          | none => 0 := by
        have zone' : w.coverage.zone = s.coverage.zone := by
          rw [ordered]
          change u.coverage.zone = _
          rw [passed, State.elapse_coverage runs]
          rfl
        have record : ∀ z, w.zoneRecord z = s.zoneRecord z := fun z => by
          rw [ordered]
          change u.zoneRecord z = _
          rw [passed, State.elapse_zoneRecord]
        rw [zone']
        cases s.coverage.zone <;> simp [State.zoneGrace, record]
      rw [grace] at judged
      rw [State.takeOrder_radiationAllowed, ← ordered]
      exact judged
    · have keeps : w.coverageReads s.radiationAllowed s.bridge.standing = w := by
        have held : (s.bridge.standing.after n).silence = s.bridge.standing.silence
            ∧ (s.bridge.standing.after n).harbor = s.bridge.standing.harbor := by
          rw [four]
          exact ⟨rfl, rfl⟩
        have still : w.radiationAllowed = s.radiationAllowed := by
          rw [← allowed, ordered]
          unfold State.radiationAllowed
          change (_ && !(u.trainEnded.bridge.standing.after n).silence && !(u.trainEnded.bridge.standing.after n).harbor && _) = _
          rw [standing, held.1, held.2]
          rfl
        rw [State.coverageReads, after, if_neg (by simp [held.1]), State.judgeCoverage, if_pos still]
      rw [keeps] at same
      refine ⟨same.coverage.trans (by rw [ordered]; rfl), same.sessions.trans (sessions.trans ?_)⟩
      rw [passed, State.elapse_sessions]
    all_goals rw [framed]
    · change u.power = _
      rw [passed, State.elapse_power runs]
    · change u.tariff = _
      rw [passed, State.elapse_tariff]
    · change u.zones = _
      rw [passed, State.elapse_zones]
    · change u.linkConfig = _
      rw [passed, State.elapse_linkConfig]
    · change u.params = _
      rw [passed, State.elapse_params]
    · change u.clock.calendar = _
      rw [passed, State.elapse_calendar]
    · change u.rating.inForce = _
      rw [passed, State.elapse_inForce]

end Sys2Proof.Machine

/-! SUPPORT. What the coverage controller's orders keep of the books, the queue and the reasons (1.6, 1.8, 3.5). -/

namespace Sys2Proof.Machine

/-- `t` is `s` after some sessions have been drained or closed, and the coverage state changed. -/
structure State.Clears (s t : State) : Prop where
  frame : t = { s with
    coverage := t.coverage, sessions := t.sessions, owed := t.owed, accounts := t.accounts, agreements := t.agreements
    queue := t.queue, router := t.router }
  told : State.TellsOf EventKind.ofCoverage s t
  books : t.Books
  queue : s.QueueLaw → t.QueueLaw
  session : ∀ h, (t.session h).served = true → t.session h = s.session h ∨ t.session h = (s.session h).draining
  account : ∀ a, t.account a = { s.account a with count := (t.account a).count }
  agreement : ∀ i, t.agreement i = { s.agreement i with count := (t.agreement i).count }

section Clears

variable {s t u : State} {c : Coverage} {grace : Nat}

theorem State.Clears.refl (books : s.Books) : s.Clears s :=
  ⟨rfl, .refl s, books, id, fun _ _ => .inl rfl, fun _ => rfl, fun _ => rfl⟩

theorem State.Clears.trans (first : s.Clears u) (second : u.Clears t) : s.Clears t where
  frame := by rw [second.frame, first.frame]
  told := first.told.trans second.told
  books := second.books
  queue := second.queue ∘ first.queue
  session h served := by
    obtain same | drained := second.session h served
    · rw [same] at served ⊢
      exact first.session h served
    · rw [drained, Session.draining_served] at served
      rw [drained]
      obtain same | drained := first.session h served
      · rw [same]
        exact .inr rfl
      · rw [drained, Session.draining_idem]
        exact .inr rfl
  account a := by rw [second.account, first.account]
  agreement i := by rw [second.agreement, first.agreement]

/-- Nothing but the controller and the router. -/
theorem State.Clears.of_coverage (books : s.Books) (frame : t = { s with coverage := t.coverage, router := t.router })
    (told : State.TellsOf EventKind.ofCoverage s t) : s.Clears t := by
  have sessions : t.sessions = s.sessions := by rw [frame]
  have accounts : t.accounts = s.accounts := by rw [frame]
  have agreements : t.agreements = s.agreements := by rw [frame]
  have owed : t.owed = s.owed := by rw [frame]
  have queue : t.queue = s.queue := by rw [frame]
  refine ⟨?_, told, books.congr sessions owed agreements accounts, fun law => ?_, fun h _ => ?_, fun a => ?_, fun i => ?_⟩
  · rw [sessions, accounts, agreements, owed, queue]
    exact frame
  · rw [State.QueueLaw, queue, owed]
    exact law
  · simp only [State.session, sessions, true_or]
  · simp only [State.account, accounts]
  · simp only [State.agreement, agreements]

theorem State.Clears.changeCoverage (books : s.Books) (c : Coverage) : s.Clears (s.changeCoverage c) :=
  .of_coverage books rfl (s.changeCoverage_told c)

theorem State.Clears.enterQualifying (books : s.Books) : s.Clears s.enterQualifying :=
  .of_coverage books (by rw [State.enterQualifying_eq]) s.enterQualifying_told

theorem Session.draining_follows (x : Session) : x.Follows x.draining := by
  unfold Session.draining
  split
  next served =>
    rw [Session.served_iff] at served
    have states : x.state ≠ .free ∧ x.state ≠ .closing := by obtain state | state | state := served <;> simp [state]
    refine ⟨rfl, rfl, rfl, by simp [states], by simp [states], fun ok => .inr ?_⟩
    obtain ⟨_, _, _, closing, basis, has, lapse, part, plan, data, voice, shortfall, some_, most⟩ := ok.lawful states.1
    exact ⟨by simp, nofun, nofun, by simpa [states] using closing, basis, has, lapse, part, plan, data, voice, shortfall, some_, most⟩
  · exact .refl x

theorem State.Clears.drainOrder (books : s.Books) : s.Clears s.drainOrder := by
  have drained := State.rewrites_drainOrder books.sessions
  refine ⟨by rw [State.drainOrder_eq], s.drainOrder_told, books.rewrite drained fun h => ?_, fun law => ?_, fun h _ => ?_,
    fun a => ?_, fun i => ?_⟩
  · rw [Session.drained_eq]
    exact (s.session h).draining_follows
  · rw [State.drainOrder_eq]
    exact law
  · exact .inr (State.drainOrder_session books.sessions h)
  · rw [State.drainOrder_eq]
    rfl
  · rw [State.drainOrder_eq]
    rfl

theorem State.Clears.closeSession (books : s.Books) {h : Nat} (served : (s.session h).served = true) (reason : CloseReason) :
    s.Clears (s.closeSession h reason) := by
  have of_closes : ∀ {freed waiting}, s.Closes (s.closeSession h reason) reason freed waiting → s.Clears (s.closeSession h reason) :=
    fun closes => by
      refine ⟨closes.frame.trans (by rw [closes.frame]), s.closeSession_told h reason, books.closeSession served reason,
        fun law => law.closeSession h reason, fun k still => .inl ?_, fun a => by rw [closes.account], fun i => by rw [closes.agreement]⟩
      by_cases own : k = h
      · rw [own, State.closeSession_session_own] at still
        cases still
      · exact State.closeSession_session_other own
  by_cases room : s.queue.records.length < Config.ordinaryLimit
  · exact of_closes (.room room reason h)
  · exact of_closes (.full (Nat.not_lt.mp room) reason h)

theorem State.Clears.closeAll (books : s.Books) (reason : CloseReason) {hs : List Nat} (once : hs.Nodup)
    (served : ∀ h ∈ hs, (s.session h).served = true) : s.Clears (hs.foldl (fun t h => t.closeSession h reason) s) := by
  induction hs generalizing s with
  | nil => exact .refl books
  | cons h rest ih =>
    obtain ⟨fresh, once⟩ := List.nodup_cons.mp once
    have first := State.Clears.closeSession books (served h List.mem_cons_self) reason
    refine first.trans (ih first.books once fun k listed => ?_)
    rw [State.closeSession_session_other fun same : k = h => fresh (same ▸ listed)]
    exact served k (List.mem_cons_of_mem _ listed)

theorem State.Clears.endOfDrain (books : s.Books) : s.Clears s.endOfDrain := by
  refine .closeAll books .coverageEnd (State.nodup_handlesOf books.sessions _) fun h listed => ?_
  rw [State.mem_handlesOf books.sessions rfl, beq_iff_eq] at listed
  exact Session.served_iff.mpr (.inr (.inr listed))

theorem State.Clears.silent (books : s.Books) : s.Clears s.silent :=
  (State.Clears.changeCoverage books _).trans (.endOfDrain (State.Clears.changeCoverage books _).books)

theorem State.Clears.endWithdrawal (books : s.Books) : s.Clears s.endWithdrawal := by
  have silent := State.Clears.silent books
  rw [State.endWithdrawal_eq]
  split
  · exact silent.trans (.enterQualifying silent.books)
  · exact silent

theorem State.Clears.withdrawn (books : s.Books) (grace : Nat) : s.Clears (s.withdrawn grace) := by
  have changed := State.Clears.changeCoverage books { s.coverage with state := .withdrawing, rampTimer := none, pacing := 0 }
  have drained := changed.trans (.drainOrder changed.books)
  exact drained.trans (.of_coverage drained.books rfl (.of_eq rfl))

theorem State.Clears.beginWithdrawal (books : s.Books) (grace : Nat) : s.Clears (s.beginWithdrawal grace) := by
  have begun := State.Clears.withdrawn books grace
  rw [State.beginWithdrawal_eq]
  split
  · exact begun.trans (.endWithdrawal begun.books)
  · exact begun

theorem State.Clears.judgeCoverage (books : s.Books) (was : Bool) (grace : Nat) : s.Clears (s.judgeCoverage was grace) := by
  have loses : s.Clears (s.loseRadiation grace) := by
    unfold State.loseRadiation
    split
    · exact .refl books
    · exact .changeCoverage books _
    · exact .beginWithdrawal books grace
    · exact .beginWithdrawal books grace
    · exact .refl books
  have gains : s.Clears s.gainRadiation := by
    unfold State.gainRadiation
    split
    · exact .enterQualifying books
    all_goals exact .refl books
  unfold State.judgeCoverage
  split
  · exact .refl books
  · split
    · exact loses
    · exact gains

theorem State.Clears.endOfService (books : s.Books) : s.Clears s.endOfService := by
  have changed := State.Clears.changeCoverage books s.coverage.silenced
  have drained := changed.trans (.drainOrder changed.books)
  have ended := drained.trans (.endOfDrain drained.books)
  unfold State.endOfService
  split
  · exact .refl books
  · exact changed
  all_goals exact ended

theorem State.Clears.reportServed (books : s.Books) : s.Clears s.reportServed := by
  unfold State.reportServed
  split
  · exact .endWithdrawal books
  · exact .refl books

/-- Whoever is still served has the reasons it had. -/
theorem State.Clears.reasoned (clears : s.Clears t) {zone : Option Nat} (reasoned : s.Reasoned zone) : t.Reasoned zone := by
  intro h served
  have suits : s.Suits zone (s.session h) ∧ (t.session h).reasons = (s.session h).reasons ∧ (t.session h).flags = (s.session h).flags
      ∧ (t.session h).agreement = (s.session h).agreement ∧ (t.session h).account = (s.session h).account := by
    obtain same | drained := clears.session h served
    · rw [same] at served ⊢
      exact ⟨reasoned h served, rfl, rfl, rfl, rfl⟩
    · rw [drained, Session.draining_served] at served
      rw [drained, Session.draining, if_pos served]
      exact ⟨reasoned h served, rfl, rfl, rfl, rfl⟩
  obtain ⟨⟨hold, roaming, onboard⟩, reasons, flags, agreement, account⟩ := suits
  refine ⟨by rw [reasons, flags, hold], fun i under => ?_, fun alone => ?_⟩
  · rw [agreement] at under
    rw [reasons, clears.agreement]
    exact roaming i under
  · rw [agreement] at alone
    rw [reasons, account, clears.account]
    exact onboard alone

end Clears

end Sys2Proof.Machine

/-! PROOF. The power-fail flush (10.5): O47. -/

namespace Sys2Proof.Machine

/-! ### The session table emptied (R27) -/

section Empty

variable {s t : State}

theorem State.becomeFree_owed (s : State) (h : Nat) (owed : List Nat) :
    ({ s with owed := owed } : State).becomeFree h = { s.becomeFree h with owed := owed } := by
  have session : ({ s with owed := owed } : State).session h = s.session h := rfl
  unfold State.becomeFree State.countSession
  rw [session]
  cases (s.session h).agreement <;> rfl

/-- A run of sessions that become FREE. -/
theorem State.Books.becomeFreeAll {hs : List Nat} (once : hs.Nodup) (notFree : ∀ h ∈ hs, (s.session h).state ≠ .free) {owed : List Nat}
    (books : ({ s with owed := owed } : State).Books) :
    (∃ left, ({ hs.foldl State.becomeFree s with owed := left } : State).Books)
    ∧ (∀ k, (hs.foldl State.becomeFree s).session k = if k ∈ hs then Session.free else s.session k)
    ∧ (∀ a, (hs.foldl State.becomeFree s).account a =
        { s.account a with count := ((hs.foldl State.becomeFree s).account a).count })
    ∧ ∀ i, (hs.foldl State.becomeFree s).agreement i =
        { s.agreement i with count := ((hs.foldl State.becomeFree s).agreement i).count } := by
  induction hs generalizing s owed with
  | nil => exact ⟨⟨owed, books⟩, fun k => by simp, fun a => rfl, fun i => rfl⟩
  | cons h rest ih =>
    obtain ⟨fresh, once⟩ := List.nodup_cons.mp once
    have first := books.becomeFree (notFree h List.mem_cons_self) (owed.erase h) rfl
    change (({ s with owed := owed.erase h } : State).becomeFree h).Books at first
    rw [State.becomeFree_owed s h (owed.erase h)] at first
    obtain ⟨left, session, account, agreement⟩ := ih (s := s.becomeFree h) once (fun k listed => by
      rw [State.becomeFree_session, if_neg fun same : k = h => fresh (same ▸ listed)]
      exact notFree k (List.mem_cons_of_mem _ listed)) first
    rw [List.foldl_cons]
    refine ⟨left, fun k => ?_, fun a => ?_, fun i => ?_⟩
    · rw [session, State.becomeFree_session]
      by_cases own : k = h
      · simp [own]
      · simp [own]
    · rw [account, State.becomeFree_account]
    · rw [agreement, State.becomeFree_agreement]

/-- The emptied table: nobody is counted, and nothing else of the accounts and agreements has changed. -/
theorem State.Books.emptyTable (books : s.Books) :
    s.emptyTable.Books ∧ s.emptyTable.sessions = Table.empty ∧ s.emptyTable.owed = []
      ∧ (∀ a, s.emptyTable.account a = { s.account a with count := 0 })
      ∧ ∀ i, s.emptyTable.agreement i = { s.agreement i with count := 0 } := by
  have listed : ∀ h, h ∈ s.handlesOf Session.notFree ↔ (s.session h).state ≠ .free := fun h => by
    rw [State.mem_handlesOf books.sessions rfl, Session.notFree_iff]
  obtain ⟨⟨left, books'⟩, session, account, agreement⟩ := State.Books.becomeFreeAll (s := s) (owed := s.owed)
    (State.nodup_handlesOf books.sessions Session.notFree) (fun h => (listed h).mp) books
  have free : ∀ k, ((s.handlesOf Session.notFree).foldl State.becomeFree s).session k = Session.free := fun k => by
    rw [session]
    split
    · rfl
    next unlisted =>
      rw [listed, not_not] at unlisted
      exact (books.ok k).eq_free unlisted
  have none_left : left = [] := List.eq_nil_iff_forall_not_mem.mpr fun h owed => by
    have closing := (books'.owes h).mp owed
    rw [show ({ (s.handlesOf Session.notFree).foldl State.becomeFree s with owed := left } : State).session h = Session.free from free h] at closing
    cases closing
  subst none_left
  have emptied : s.emptyTable.Books := books'
  refine ⟨emptied, Table.eq_empty emptied.sessions free, rfl, fun a => ?_, fun i => ?_⟩
  · have count : (s.emptyTable.account a).count = 0 := by
      by_cases inside : a < Config.accountCount
      · rw [emptied.accountCount a inside, List.countP_eq_zero]
        intro h _
        rw [show s.emptyTable.session h = Session.free from free h]
        simp
      · rw [State.account, Table.get_of_le emptied.accounts (Nat.not_lt.mp inside)]
        rfl
    have kept := account a
    rw [show ((s.handlesOf Session.notFree).foldl State.becomeFree s).account a = s.emptyTable.account a from rfl, count] at kept
    exact kept
  · have count : (s.emptyTable.agreement i).count = 0 := by
      by_cases inside : i < Config.agreementCount
      · rw [emptied.agreementCount i inside, List.countP_eq_zero]
        intro h _
        rw [show s.emptyTable.session h = Session.free from free h]
        simp [Session.free]
      · rw [State.agreement, Table.get_of_le emptied.agreements (Nat.not_lt.mp inside)]
        rfl
    have kept := agreement i
    rw [show ((s.handlesOf Session.notFree).foldl State.becomeFree s).agreement i = s.emptyTable.agreement i from rfl, count] at kept
    exact kept

/-- Where nobody is served, the sessions left are those that wait for a record. -/
theorem State.Books.left_perm (books : s.Books) (unserved : ∀ h, (s.session h).served = false) :
    (s.handlesOf Session.notFree).Perm s.owed := by
  refine (List.perm_ext_iff_of_nodup (State.nodup_handlesOf books.sessions _) books.owedOnce).mpr fun h => ?_
  rw [State.mem_handlesOf books.sessions rfl, Session.notFree_iff, books.owes]
  have state := Session.served_eq_false_iff.mp (unserved h)
  exact ⟨state.resolve_left, fun closing => by simp [closing]⟩

theorem State.Books.lost_eq (books : s.Books) (unserved : ∀ h, (s.session h).served = false) :
    s.sessions.count Session.notFree = s.owed.length := (books.left_perm unserved).length_eq

theorem State.Books.openCharges_eq (books : s.Books) (unserved : ∀ h, (s.session h).served = false) :
    s.openCharges = (s.owed.map fun h => ((s.session h).segments.map Segment.charge).sum).sum := by
  rw [← ((books.left_perm unserved).map _).sum_eq, State.openCharges, State.handlesOf, Table.keys, List.map_map]
  refine congrArg List.sum (List.map_congr_left fun e listed => ?_)
  have held : s.session e.1 = e.2 := ((Table.mem_entries books.sessions).mp (List.mem_of_mem_filter listed)).1
  rw [Function.comp_apply, held]
  rfl

end Empty

/-! ### The POWER_CUT contribution (R165) -/

section Contribute

variable {s : State} {lost charge : Nat}

/-- A record merged into the newest, or appended after it. -/
theorem State.contribute_cases (s : State) (lost charge : Nat) :
    (∃ r cuts before unitemized, s.queue.records.getLast? = some r ∧ r.body = .powerCut cuts before unitemized
      ∧ s.contribute lost charge = { s with queue := ⟨s.queue.records.dropLast ++ [s.stamp
          (.powerCut (min 255 (cuts + 1)) (min 65535 (before + lost)) (min Config.maxValue (unitemized + charge)))], s.queue.mark⟩ })
    ∨ (∀ r cuts before unitemized, s.queue.records.getLast? = some r → r.body ≠ .powerCut cuts before unitemized)
      ∧ s.contribute lost charge = s.appendRecord (s.stamp (.powerCut 1 lost (min Config.maxValue charge))) := by
  unfold State.contribute
  cases newest : s.queue.records.getLast? with
  | none => exact .inr ⟨nofun, rfl⟩
  | some r =>
    obtain ⟨time, notSet, body⟩ := r
    cases body with
    | close => exact .inr ⟨fun r _ _ _ same => by cases same; simp, rfl⟩
    | interim => exact .inr ⟨fun r _ _ _ same => by cases same; simp, rfl⟩
    | powerCut cuts before unitemized => exact .inl ⟨_, cuts, before, unitemized, rfl, rfl, rfl⟩

theorem Queue.newestIsPowerCut_append (records : List ChargeRecord) (time : Calendar) (notSet : Bool) (a b c m : Nat) :
    (⟨records ++ [⟨time, notSet, .powerCut a b c⟩], m⟩ : Queue).newestIsPowerCut = true := by
  simp [Queue.newestIsPowerCut]

theorem Queue.newestIsPowerCut_iff (q : Queue) : q.newestIsPowerCut = true ↔
    ∃ r cuts before unitemized, q.records.getLast? = some r ∧ r.body = .powerCut cuts before unitemized := by
  unfold Queue.newestIsPowerCut
  cases newest : q.records.getLast? with
  | none => simp
  | some r =>
    obtain ⟨time, notSet, body⟩ := r
    cases body <;> simp

theorem State.contribute_newest (s : State) (lost charge : Nat) : (s.contribute lost charge).queue.newestIsPowerCut = true := by
  obtain ⟨_, _, _, _, _, _, eq⟩ | ⟨_, eq⟩ := s.contribute_cases lost charge
  · rw [eq]
    exact Queue.newestIsPowerCut_append _ _ _ _ _ _ _
  · rw [eq, State.appendRecord_eq]
    exact Queue.newestIsPowerCut_append _ _ _ _ _ _ _

theorem State.QueueLaw.contribute (law : s.QueueLaw) (none_owed : s.owed = []) (lost charge : Nat) : (s.contribute lost charge).QueueLaw := by
  obtain ⟨occupied, most, newest, -⟩ := law
  have owed : (s.contribute lost charge).owed = [] := by
    obtain ⟨_, _, framed⟩ := s.contribute_frame lost charge
    rw [framed, none_owed]
  refine ⟨?_, ?_, fun _ => s.contribute_newest lost charge, fun some_owed => absurd owed some_owed⟩
  · obtain ⟨r, _, _, _, held, _, eq⟩ | ⟨_, eq⟩ := s.contribute_cases lost charge
    · rw [eq]
      have some_left : s.queue.records ≠ [] := fun empty => by simp [empty] at held
      have positive := List.length_pos_of_ne_nil some_left
      simp only [List.length_append, List.length_dropLast, List.length_singleton]
      omega
    · rw [eq, State.appendRecord_records, State.appendRecord_mark]
      simp
  · obtain ⟨_, _, _, _, _, _, eq⟩ | ⟨notCut, eq⟩ := s.contribute_cases lost charge
    · rw [eq]
      exact most
    · have room : s.queue.records.length ≤ Config.ordinaryLimit := by
        by_contra full
        obtain ⟨r, cuts, before, unitemized, held, body⟩ := (Queue.newestIsPowerCut_iff _).mp (newest (by omega))
        exact notCut r cuts before unitemized held body
      rw [eq, State.appendRecord_mark]
      omega

theorem State.contribute_told (s : State) (lost charge : Nat) : State.TellsOf EventKind.ofCoverage s (s.contribute lost charge) := by
  obtain ⟨_, _, _, _, _, _, eq⟩ | ⟨_, eq⟩ := s.contribute_cases lost charge
  · exact .of_eq (by rw [eq])
  · refine ⟨_, by rw [eq, State.appendRecord_eq], fun e listed => ?_⟩
    obtain kind | kind := Queue.kind_of_mem_appendTold listed
    · exact .inr (.inl kind)
    · exact .inr (.inr (.inl kind))

end Contribute

/-! ### The flush (R180) -/

section Flush

variable {s t u : State} {n : Nat} {c : Coverage}

/-- The state in FLUSHED before service ends. -/
def State.flushing (s : State) : State := { s with power := { s.power with supervisor := .flushed, flushing := true } }

theorem State.flush_eq (s : State) : s.flush = s.flushing.endOfService.emptyTable.contribute
    (s.flushing.endOfService.sessions.count Session.notFree) s.flushing.endOfService.openCharges := rfl

theorem State.CoverageIs.of_quiet (is : s.CoverageIs t n c) (coverage : u.coverage = t.coverage)
    (quiet : t.Unlatched u .coverageChanged) : s.CoverageIs u n c := by
  obtain ⟨fields, told⟩ := is
  refine ⟨by rw [coverage, fields], fun p => ?_⟩
  rw [coverage, quiet p, told p]

theorem State.appendRecord_coverage_told {r : ChargeRecord} : s.Unlatched (s.appendRecord r) .coverageChanged := by
  refine State.unlatched_of_occurs (l := s.queue.appendTold) (by rw [State.appendRecord_eq]) fun e listed => ?_
  obtain kind | kind := Queue.kind_of_mem_appendTold listed <;> simp [kind]

theorem State.contribute_unlatched (s : State) (lost charge : Nat) : s.Unlatched (s.contribute lost charge) .coverageChanged := by
  obtain ⟨_, _, _, _, _, _, eq⟩ | ⟨_, eq⟩ := s.contribute_cases lost charge
  · rw [eq]
    exact fun p => rfl
  · rw [eq]
    exact State.appendRecord_coverage_told

/-- What the flush of a state with its sessions closed gives. -/
structure State.Flushed (s : State) : Prop where
  books : s.flush.Books
  sessions : s.flush.sessions = Table.empty
  owed : s.flush.owed = []
  queue : s.flush.QueueLaw
  account : ∀ a, s.flush.account a = { s.account a with count := 0 }
  agreement : ∀ i, s.flush.agreement i = { s.agreement i with count := 0 }
  coverage : s.flush.coverage = s.flushing.endOfService.coverage
  frame : s.flush = { s.flushing with
    sessions := s.flush.sessions, owed := s.flush.owed, accounts := s.flush.accounts, agreements := s.flush.agreements
    queue := s.flush.queue, coverage := s.flush.coverage, router := s.flush.router }

theorem State.Flushed.of_books (books : s.Books) (law : s.QueueLaw) : s.Flushed := by
  have books' : s.flushing.Books := books.congr rfl rfl rfl rfl
  have ended := State.Clears.endOfService books'
  have queue : s.flushing.endOfService.QueueLaw := ended.queue law
  obtain ⟨emptied, sessions, owed, account, agreement⟩ := ended.books.emptyTable
  obtain ⟨_, _, _, emptyFrame⟩ := s.flushing.endOfService.emptyTable_frame
  have queue' : s.flushing.endOfService.emptyTable.QueueLaw := by
    obtain ⟨occupied, most, newest, -⟩ := queue
    have same : s.flushing.endOfService.emptyTable.queue = s.flushing.endOfService.queue := by rw [emptyFrame]
    rw [State.QueueLaw, same, owed]
    exact ⟨occupied, most, newest, fun some_owed => absurd rfl some_owed⟩
  obtain ⟨_, _, contributed⟩ := s.flushing.endOfService.emptyTable.contribute_frame
    (s.flushing.endOfService.sessions.count Session.notFree) s.flushing.endOfService.openCharges
  have tables : s.flush.sessions = s.flushing.endOfService.emptyTable.sessions ∧ s.flush.owed = s.flushing.endOfService.emptyTable.owed
      ∧ s.flush.accounts = s.flushing.endOfService.emptyTable.accounts
      ∧ s.flush.agreements = s.flushing.endOfService.emptyTable.agreements
      ∧ s.flush.coverage = s.flushing.endOfService.emptyTable.coverage := by
    rw [State.flush_eq, contributed]
    exact ⟨rfl, rfl, rfl, rfl, rfl⟩
  obtain ⟨sameSessions, sameOwed, sameAccounts, sameAgreements, sameCoverage⟩ := tables
  refine ⟨emptied.congr sameSessions sameOwed sameAgreements sameAccounts, sameSessions.trans sessions, sameOwed.trans owed, ?_,
    fun a => ?_, fun i => ?_, sameCoverage.trans (by rw [emptyFrame]), ?_⟩
  · exact queue'.contribute owed _ _
  · rw [State.account, sameAccounts]
    change s.flushing.endOfService.emptyTable.account a = _
    rw [account, ended.account]
    rfl
  · rw [State.agreement, sameAgreements]
    change s.flushing.endOfService.emptyTable.agreement i = _
    rw [agreement, ended.agreement]
    rfl
  · rw [State.flush_eq, contributed, emptyFrame, ended.frame]

end Flush

end Sys2Proof.Machine

/-! PROOF. The power-fail warning (10.5): O47. -/

namespace Sys2Proof.Machine

section Warning

variable {s t e : State}

/-- The sessions left at the flush, with the charges they had. -/
theorem State.ClosesServed.charges (closed : s.ClosesServed e) (books : e.Books) {left : List Nat}
    (leftIs : left = s.owed ++ s.servedHandles.drop (Config.ordinaryLimit - s.queue.records.length)) :
    e.owed = left ∧ (e.owed.map fun h => ((e.session h).segments.map Segment.charge).sum) =
      left.map fun h => ((s.session h).segments.map Segment.charge).sum := by
  obtain ⟨-, -, owed, session, -⟩ := closed _ _ rfl rfl
  have owedIs : e.owed = left := by rw [owed, leftIs]
  refine ⟨owedIs, ?_⟩
  rw [← owedIs]
  refine List.map_congr_left fun h listed => ?_
  have closing := (books.owes h).mp listed
  rw [session] at closing ⊢
  split at closing
  · cases closing
  next unfreed =>
    rw [if_neg unfreed]
    split <;> rfl

/-- A CLOSE record just appended is no POWER_CUT record. -/
theorem State.cut_of_newest {records : List ChargeRecord} {freed : List Nat} {r : ChargeRecord} {cuts lost before : Nat}
    (newest : (records ++ freed.map s.coverageRecord).getLast? = some r) (cut : r.body = .powerCut cuts lost before) : freed = [] := by
  by_contra some_freed
  have last : r ∈ freed.map s.coverageRecord := by
    have some_mapped : freed.map s.coverageRecord ≠ [] := by simpa using some_freed
    rw [List.getLast?_append_of_ne_nil _ some_mapped] at newest
    exact List.mem_of_getLast? newest
  obtain ⟨h, -, rfl⟩ := List.mem_map.mp last
  cases cut

theorem getElem?_dropLast_append {α : Type} (l m : List α) (x : α) {n : Nat} (inside : n + 1 < l.length) :
    ((l ++ m).dropLast ++ [x])[n]? = l[n]? := by
  have short : n < (l ++ m).dropLast.length := by
    rw [List.length_dropLast, List.length_append]
    omega
  rw [List.getElem?_append_left short, List.getElem?_dropLast, if_pos (by rw [List.length_append]; omega),
    List.getElem?_append_left (by omega)]

end Warning

/-- Settles O47. -/
theorem warningFlushes : Obligations.WarningFlushes := by
  refine ⟨fun s out => congrArg _ (if_neg out), fun s law running => ?_, fun s out => congrArg _ (if_neg out),
    fun s tables flushed => ⟨({ s with pins := { s.pins with warning := false } } : State).beginStart .warm, congrArg _ (if_pos flushed),
      State.beginStart_started (s := { s with pins := { s.pins with warning := false } }) tables .warm⟩⟩
  obtain ⟨-, tables, loaded, -, sessions, count, party, -, coverage, -, service, -, -, -, -, -, queue, -⟩ := law
  obtain ⟨books, -⟩ := State.books_iff.mp ⟨tables, loaded, sessions, count, party⟩
  obtain ⟨w, warned⟩ : ∃ w : State, w = { s with pins := { s.pins with warning := true } } := ⟨_, rfl⟩
  have booksW : w.Books := warned ▸ books.congr rfl rfl rfl rfl
  have flush : w.Flushed := .of_books booksW (warned ▸ queue)
  have prep : s.Prepares w.flushing := by
    rw [warned]
    exact ⟨books.sessions, books.sessions, queue.1, rfl, fun _ => rfl, rfl, rfl, rfl, rfl, rfl, rfl, .of_eq rfl⟩
  obtain ⟨is, closes⟩ := prep.endOfService (by rw [warned]; rfl) coverage.stopped (service.nobody books.sessions)
  have ended := State.Clears.endOfService (s := w.flushing) (booksW.congr rfl rfl rfl rfl)
  obtain ⟨e, endedIs⟩ : ∃ e, e = w.flushing.endOfService := ⟨_, rfl⟩
  rw [← endedIs] at is closes ended
  obtain ⟨_, _, _, emptied⟩ := e.emptyTable_frame
  have unserved := closes.unserved books.sessions
  have lost := ended.books.lost_eq unserved
  have charges := ended.books.openCharges_eq unserved
  have flushIs : w.flush = e.emptyTable.contribute e.owed.length e.openCharges := by rw [State.flush_eq, ← endedIs, lost]
  have clock : e.emptyTable.clock = s.clock := by
    rw [emptied, ended.frame, warned]
    rfl
  have isT : s.CoverageIs w.flush (if s.coverage.state = .silent then 0 else 1) s.coverage.stopped := by
    refine is.of_quiet (flush.coverage.trans (by rw [endedIs])) ?_
    rw [flushIs]
    have quiet := e.emptyTable.contribute_unlatched e.owed.length e.openCharges
    intro p
    rw [quiet p, emptied]
    rfl
  have mark := flush.queue
  obtain ⟨occupied, most, -⟩ := mark
  obtain ⟨records, marked, -⟩ := closes _ _ rfl rfl
  have queueE : e.emptyTable.queue = e.queue := by rw [emptied]
  have power : w.flush.power = { s.power with supervisor := .flushed, flushing := true } := by
    rw [flush.frame, warned]
    rfl
  refine ⟨w.flush, ?_, power, by rw [isT.1]; rfl, by rw [isT.1]; rfl, flush.sessions, flush.owed, fun a => ?_, fun i => ?_, ?_,
    occupied.trans most, fun n inside => ?_, isT, fun room charge closed left roomIs closedIs leftIs chargeIs => ?_, ?_⟩
  · rw [warned]
    exact congrArg _ (if_pos running)
  · rw [flush.account, warned]
    rfl
  · rw [flush.agreement, warned]
    rfl
  · rw [flushIs]
    exact State.contribute_newest _ _ _
  · rw [flushIs]
    obtain ⟨_, _, _, _, _, _, eq⟩ | ⟨_, eq⟩ := e.emptyTable.contribute_cases e.owed.length e.openCharges
    · rw [eq]
      dsimp only
      rw [queueE, records]
      exact getElem?_dropLast_append _ _ _ inside
    · rw [eq, State.appendRecord_records, queueE, records, List.append_assoc, List.getElem?_append_left (by omega)]
  · rw [roomIs] at closedIs leftIs
    obtain ⟨owed, chargesIs⟩ := closes.charges ended.books leftIs
    rw [chargesIs, ← chargeIs] at charges
    rw [← closedIs] at records
    have stamp : ∀ body, e.emptyTable.stamp body = ⟨s.clock.calendar, s.clock.notSet, body⟩ := fun body => by rw [State.stamp, clock]
    rw [owed, charges] at flushIs
    refine ⟨fun r cuts before unitemized newest cut => ?_, fun uncut => ?_⟩
    · obtain ⟨r', cuts', before', unitemized', newest', cut', eq⟩ | ⟨uncut, -⟩ := e.emptyTable.contribute_cases left.length charge
      · rw [queueE, records, newest] at newest'
        obtain rfl := Option.some.inj newest'
        obtain ⟨rfl, rfl, rfl⟩ := RecordBody.powerCut.inj (cut.symm.trans cut')
        have none_freed : s.servedHandles.take (Config.ordinaryLimit - s.queue.records.length) = [] :=
          State.cut_of_newest (closedIs ▸ newest) cut
        rw [flushIs, eq, queueE, records, stamp]
        refine ⟨rfl, ?_⟩
        dsimp only
        rw [marked, records, closedIs, none_freed, List.map_nil, List.append_nil, max_eq_left queue.1]
      · rw [queueE, records] at uncut
        exact absurd cut (uncut r cuts before unitemized newest)
    · obtain ⟨r', cuts', before', unitemized', newest', cut', -⟩ | ⟨-, eq⟩ := e.emptyTable.contribute_cases left.length charge
      · rw [queueE, records] at newest'
        exact absurd cut' (uncut r' cuts' before' unitemized' newest')
      · rw [flushIs, eq, State.appendRecord_records, State.appendRecord_mark, queueE, records, marked, stamp, records]
        refine ⟨rfl, ?_⟩
        omega
  · have frame := flush.frame
    rw [flush.owed] at frame
    rw [power]
    refine frame.trans ?_
    have flushing : w.flushing = { s with
        power := { s.power with supervisor := .flushed, flushing := true }, pins := { s.pins with warning := true } } := by
      rw [warned]
      rfl
    rw [flushing]

end Sys2Proof.Machine

/-! PROOF. The link table in OFF (5.2, 10.1): the refutation of O57. -/

namespace Sys2Proof.Machine

/-- The part in OFF, before it loses its backup domain. Slot 0 is loaded, and its link, in DOWN, still shows a raw figure of 50:
the laws ask the figures of an unloaded slot alone to be 0, and of a link in OFF only that it is in DOWN. -/
def State.darkWithFigure : State :=
  { State.reset with
    power := ⟨.off, .cold, false, 0⟩
    linkConfig := (Slots.all LinkConfig.unloaded).set 0 { LinkConfig.unloaded with loaded := true, rank := 1 }
    links := (Slots.all Link.start).set 0 { Link.start with raw := 50 }
    bridge := Bridge.start
    router := Router.start
    pending := [.backupDomainLost] }

theorem State.darkWithFigure_lawful : State.darkWithFigure.Lawful := by
  refine ⟨?_, ?_, ?_, ?_, ?_, ?_, ?_, ?_, ?_, ?_, ?_, ?_, ?_, ?_, ?_, ?_, ?_, ?_⟩
  · decide
  · decide
  · decide
  · decide
  · decide
  · exact ⟨fun _ _ => rfl, fun _ _ => rfl⟩
  · decide
  · decide
  · decide
  · decide
  · decide
  · decide
  · decide
  · decide
  · decide
  · decide
  · decide
  · decide

/-- The loss of the backup domain unloads slot 0 and leaves its link alone: an unloaded slot in DOWN with a raw figure. -/
theorem step_darkWithFigure :
    ∃ t, step State.darkWithFigure = .next t ∧ (t.linkConfig.get 0).loaded = false ∧ (t.link 0).raw = 50 ∧ (t.link 0).state = .down :=
  ⟨({ State.darkWithFigure with pending := [] } : State).coldBackup, rfl, rfl, rfl, rfl⟩

/-- Refutes O57: *Backup lost* in OFF unloads every slot and leaves the links as they are, so a link of a loaded slot that stands in
DOWN with a raw figure, which the law allows, becomes that of an unloaded slot, whose figures the law wants at 0. -/
theorem not_stepKeepsLinks : ¬ Obligations.StepKeepsLinks := by
  intro keeps
  obtain ⟨t, runs, unloaded, figure, down⟩ := step_darkWithFigure
  obtain ⟨slots, -⟩ := keeps _ t State.darkWithFigure_lawful runs
  obtain ⟨-, -, -, -, -, -, -, figures, -⟩ := slots 0
  obtain ⟨-, zero⟩ | holds := figures unloaded
  · simp [figure] at zero
  · simp [down] at holds

end Sys2Proof.Machine

/-! SUPPORT. What one step can do (11.3): the changes that the commands, the timers and the lines make, in groups by the fields they
reach. Every law that a step keeps is proved over these groups. -/

namespace Sys2Proof.Machine

/-! ### While the main domain runs -/

/-- One port answers, is read, or has its line released; or nothing changes. -/
inductive State.PortMove (s : State) : State → Prop
  | stays : PortMove s s
  | port (p : Port) (x : PortState) (keeps : (s.port p).Lawful → x.Lawful) : PortMove s (s.setPort p x)

/-- A change of the sessions, their accounts and agreements, or the queue (1, 2, 8.4, 9.3). -/
inductive State.SessionMove (s : State) : State → Prop
  | billed (w : Sweep) {t : State} (bills : ({ s with sweep := w } : State).Bills t) : SessionMove s t
  | closed (w : Sweep) {u : State} (bills : ({ s with sweep := w } : State).Bills u) {h : Nat} (served : (u.session h).served = true)
      (reason : CloseReason) (l : List (EventKind × Nat)) (quiet : ∀ e ∈ l, e.1 = .sessionLapsed) :
      SessionMove s ({ u.closeSession h reason with router := (u.closeSession h reason).router.occurs l } : State).reportServed
  | opened (x : IdentityWord) (c : Charging) (h : Nat) (account : Option Nat) (admits : s.Admits) (new : s.lookupIdentity x = none)
      (free : s.freeHandle = some h) (pays : s.resolve x account = .ok c) : SessionMove s (s.openSession x c h)
  | dropped (some_ : s.queue.records ≠ []) : SessionMove s s.dropRecord.1
  | marked : SessionMove s { s with queue := { s.queue with mark := s.queue.records.length } }
  | emptied (i : Nat) (inside : i < Config.agreementCount) (nobody : (s.agreement i).count = 0) :
      SessionMove s (s.setAgreement i Agreement.emptied)
  | loaded (i : Nat) (inside : i < Config.agreementCount) (new : Agreement) (ok : new.Ok) (state : new.state ≠ .empty)
      (count : new.count = (s.agreement i).count) (settles : (s.account new.account).kind = .settlement)
      (code : s.codeTaken i new.codeLength new.code = false)
      (party : (s.agreement i).state = .empty ∨ (s.agreement i).count = 0 ∨ (s.agreement i).account = new.account) :
      SessionMove s (s.loadAgreement i new)
  | written (a : Nat) (inside : a < Config.accountCount) (new : Account) (ok : new.Ok) (count : new.count = (s.account a).count)
      (kind : new.kind = (s.account a).kind ∨ (s.account a).count = 0 ∧ s.agreementsNaming a = 0) :
      SessionMove s (s.writeAccount a new)

/-- A change of the zones or of the coverage controller (3). -/
inductive State.CoverageMove (s : State) : State → Prop
  | zoneLoaded (z : Nat) (inside : z < Config.zoneCount) (r : ZoneRecord)
      (ok : r = ZoneRecord.unloaded ∨ r.loaded = true ∧ r.grace ≤ Config.maxGrace ∧ r.tariffClass ≤ 7) : CoverageMove s (s.loadZone z r)
  | aimed (c : Option Candidate) (f : Timer) (timed : f.isSome = true)
      (candidate : ∀ k ∈ c, k.zone < Config.zoneCount ∧ s.coverage.zone ≠ some k.zone ∧ (s.coverage.zone = none → k.kind = .permissive)) :
      CoverageMove s { s with coverage := { s.coverage with candidate := c, fixTimer := f } }
  | qualified (f : Timer) (timed : f.isSome = true) (z : Nat) (inside : z < Config.zoneCount) :
      CoverageMove s (({ s with coverage := { s.coverage with fixTimer := f } } : State).qualifyZone z)
  | fixLost : CoverageMove s s.loseFix
  | restored (state : s.coverage.state = .qualifying) : CoverageMove s s.enterRamping
  | ramped (state : s.coverage.state = .ramping) : CoverageMove s s.enterRadiating
  | withdrawn (state : s.coverage.state = .withdrawing) : CoverageMove s s.endWithdrawal

/-- A change of the bridge order line or its decoder, short of an order (4.1, 4.2). -/
inductive State.LineMove (s : State) : State → Prop
  | pulsed (e : Nat) (low : s.bridge.lowTimer = some e) (awaits : s.bridge.awaitsPulse = true) : LineMove s s.reachPulse
  | long (e : Nat) (low : s.bridge.lowTimer = some e) (awaits : s.bridge.awaitsLong = true) : LineMove s s.reachLong
  | stuck (e : Nat) (low : s.bridge.lowTimer = some e) (awaits : s.bridge.awaitsStuck = true) : LineMove s s.reachStuck
  | fell (high : s.pins.bridgeHigh = true) : LineMove s { s with pins := { s.pins with bridgeHigh := false }, bridge := s.bridge.fall }
  | rose (low : s.pins.bridgeHigh = false) : LineMove s ({ s with pins := { s.pins with bridgeHigh := true } } : State).endLow
  | recovered (timed : s.bridge.recoveryTimer.isSome = true) :
      LineMove s { s with bridge := { s.bridge with state := .idle, stuckReported := false, recoveryTimer := none } }

/-- A change of a link, its configuration or the selector (5, 6). -/
inductive State.LinkMove (s : State) : State → Prop
  | reported (i : Slot) (present : Bool) (quality loss latency : Nat) : LinkMove s (s.takeReport i present quality loss latency)
  | unloaded (i : Slot) (idle : (s.link i).engaged = false) : LinkMove s (s.unloadLink i)
  | configured (i : Slot) (c : LinkConfig) (loaded : c.loaded = true) (low : 1 ≤ c.rank) (high : c.rank ≤ 15) (cost : c.costClass ≤ 3)
      (keeps : (s.link i).state = .carrying → (s.linkConfig.get i).costClass = c.costClass) : LinkMove s (s.loadLink i c)
  | confirmed (w : Swap) (flies : s.selector.swap = some w) : LinkMove s (s.completeSwap w)
  | stale (i : Slot) : LinkMove s (s.staleLink i)
  | qualified (i : Slot) : LinkMove s (s.qualifyLink i)
  | faulted (i : Slot) : LinkMove s (s.faultTimerLink i)
  | rested (i : Slot) : LinkMove s (s.endHoldoff i)
  | late : LinkMove s s.abandonLate
  | dwelt : LinkMove s ({ s with selector := { s.selector with dwellTimer := none } } : State).considerSwap

/-- A change of the tariff figures or the parameters (8.3, 11.4). -/
inductive State.FigureMove (s : State) : State → Prop
  | priced (t : Tariff) (figures : s.Figures → ({ s with tariff := t } : State).Figures) : FigureMove s { s with tariff := t }
  | set (p : Params) (law : s.ParamsLaw → ({ s with params := p } : State).ParamsLaw) : FigureMove s { s with params := p }

/-- A change of the clock or the settle window (7, 8.2). -/
inductive State.ClockMove (s : State) : State → Prop
  | set (c : Calendar) (valid : c.valid = true) : ClockMove s ({ s with clock := { s.clock with
      calendar := c, subSecond := 0, secondLength := secondLengthAt c.minutes c.seconds s.clock.trim, notSet := false } } : State).settlePeriod
  | windowed (a b : Nat) (first : a ≤ 23) (last : b ≤ 23) :
      ClockMove s ({ s with clock := { s.clock with windowStart := a, windowEnd := b } } : State).settlePeriod
  | trimmed (t : Int) (low : -127 ≤ t) (high : t ≤ 127) : ClockMove s { s with clock := { s.clock with trim := t } }
  | second : ClockMove s s.takeSecond
  | settled : ClockMove s s.settleContext

/-- What a command, a timer or an edge can do while the main domain runs. -/
inductive State.Move (s t : State) : Prop
  | port (move : s.PortMove t)
  | session (move : s.SessionMove t)
  | coverage (move : s.CoverageMove t)
  | line (move : s.LineMove t)
  | train (timed : s.bridge.gapTimer.isSome = true) (move : t = s.endTrain)
  | link (move : s.LinkMove t)
  | figure (move : s.FigureMove t)
  | clock (move : s.ClockMove t)

/-! ### The supervisor, and the clock and the lines while the main domain does not run -/

/-- A change of the supervisor's state, its lines and the domains (10), or of what is left running without the main domain. -/
inductive State.PowerMove (s : State) : State → Prop
  | second (stops : s.mainRuns = false) (n : Nat) : PowerMove s (s.elapse n).takeSecond
  | bridgeLine (stops : s.mainRuns = false) (high : Bool) : PowerMove s { s with pins := { s.pins with bridgeHigh := high } }
  | started (off : s.power.supervisor = .off) (high : s.pins.resetHigh = true) : PowerMove s (s.beginStart s.startKindNow)
  | held (off : s.power.supervisor = .off) (low : s.pins.resetHigh = false) :
      PowerMove s { s with power := { s.power with supervisor := .reset } }
  | lost (on : s.power.supervisor ≠ .off) : PowerMove s s.losePower
  | resetLow (idle : s.power.supervisor = .off ∨ s.power.supervisor = .reset) :
      PowerMove s { s with pins := { s.pins with resetHigh := false } }
  | reset (awake : s.power.supervisor ≠ .off ∧ s.power.supervisor ≠ .reset) :
      PowerMove s ({ s with pins := { s.pins with resetHigh := false } } : State).enterReset
  | resetHigh (other : s.power.supervisor ≠ .reset) : PowerMove s { s with pins := { s.pins with resetHigh := true } }
  | released (reset : s.power.supervisor = .reset) : PowerMove s
      (({ s with pins := { s.pins with resetHigh := true } } : State).beginStart s.startKindNow)
  | warned (other : s.power.supervisor ≠ .running) : PowerMove s { s with pins := { s.pins with warning := true } }
  | flushed (running : s.power.supervisor = .running) : PowerMove s ({ s with pins := { s.pins with warning := true } } : State).flush
  | calmed (other : s.power.supervisor ≠ .flushed) : PowerMove s { s with pins := { s.pins with warning := false } }
  | resumed (flushed : s.power.supervisor = .flushed) :
      PowerMove s (({ s with pins := { s.pins with warning := false } } : State).beginStart .warm)
  | forgotten (off : s.power.supervisor = .off) : PowerMove s s.coldBackup
  | initialized (initializing : s.power.supervisor = .initializing) : PowerMove s s.endInitialization

end Sys2Proof.Machine

/-! SUPPORT. The commands and timers of the session table, its agreements and accounts, and the queue, as moves (1, 2, 8.4, 9.3). -/

namespace Sys2Proof.Machine

/-! ### The flags (1.9) -/

section Flags

variable {s t : State} {h : Nat} {y : Session} {l : List (EventKind × Nat)}

/-- One served session rewritten, so that it stays where it is and its reasons suit it. -/
theorem State.Bills.rewrite (served : (s.session h).served = true) (written : s.Rewrites t (fun k => if k = h then y else s.session k) l)
    (stays : (s.session h).Stays y) (suits : ∀ zone, s.Suits zone (s.session h) → s.Suits zone y) : s.Bills t where
  frame := by rw [written.frame]
  tells := ⟨l, written.router⟩
  books := fun books => books.rewrite written fun k => by
    split
    · next here => exact here ▸ stays.toFollows
    · exact .refl _
  queue := fun law => by
    rw [written.frame]
    exact law
  stays := fun _ k => by
    rw [written.session]
    split
    · next here => exact here ▸ stays
    · exact .refl _
  reasoned := fun _ zone reasoned k => by
    have kept : ∀ {x}, s.Suits zone x → t.Suits zone x := fun suits => suits.congr rfl rfl rfl rfl
      (fun i _ => by rw [written.frame] <;> rfl) fun _ => by rw [written.frame] <;> rfl
    rw [written.session]
    split
    · exact fun _ => kept (suits zone (reasoned h served))
    · exact fun still => kept (reasoned k still)

/-- A session given other flags, and the reason HOLD moved with its flag where the flag moves. -/
theorem State.Bills.reflag (served : (s.session h).served = true) (flags : Flags) {add remove : Reasons} (moves : Prop) [Decidable moves]
    (moved : moves → ∀ r : Reasons, r.change add remove = { r with hold := flags.hold })
    (still : ¬ moves → flags.hold = (s.session h).flags.hold)
    (is : t = if moves then (s.setSession h { s.session h with flags := flags }).changeReasons add remove h
      else s.setSession h { s.session h with flags := flags }) : s.Bills t := by
  have written := State.rewrites_setSession { s.session h with flags := flags } (Session.notFree_of_served served)
  have stays : (s.session h).Stays { s.session h with flags := flags } :=
    .of_lawful (Session.notFree_iff.mp (Session.notFree_of_served served)) rfl rfl rfl rfl fun lawful => lawful
  rw [is]
  split
  · next change =>
    have again := written.trans (State.rewrites_changeReasons _ add remove h)
    rw [State.setSession_session_same, Session.changed_of_served (x := { s.session h with flags := flags }) served, moved change] at again
    have served' : ({ s.session h with flags := flags } : Session).served = true := served
    generalize reasonsIs : ({ (s.session h).reasons with hold := flags.hold } : Reasons) = r at again
    refine .rewrite served (y := ({ s.session h with flags := flags } : Session).judged r) (again.congr fun k => ?_)
      (stays.trans (Session.judged_stays served' r)) fun zone suits => ?_
    · rw [State.setSession_session]
      split <;> rfl
    · subst reasonsIs
      exact ⟨rfl, suits.roaming, suits.onboard⟩
  · next kept =>
    exact .rewrite served written stays fun zone suits => ⟨suits.hold.trans (still kept).symm, suits.roaming, suits.onboard⟩

theorem State.Bills.setFlags (served : (s.session h).served = true) (m : Flags) : s.Bills (s.setFlags h m) := by
  refine .reflag served ((s.session h).flags.union m) (m.hold = true ∧ (s.session h).flags.hold = false) (fun ⟨held, _⟩ r => ?_)
    (fun kept => ?_) (State.setFlags_eq rfl)
  · rw [Reasons.change_addHold]
    simp [Flags.union, held]
  · cases new : m.hold <;> simp_all [Flags.union]

theorem State.Bills.clearFlags (served : (s.session h).served = true) (m : Flags) : s.Bills (s.clearFlags h m) := by
  refine .reflag served ((s.session h).flags.without m) (m.hold = true ∧ (s.session h).flags.hold = true) (fun ⟨held, _⟩ r => ?_)
    (fun kept => ?_) (State.clearFlags_eq rfl)
  · rw [Reasons.change_removeHold]
    simp [Flags.without, held]
  · cases new : m.hold <;> simp_all [Flags.without]

end Flags

/-! ### Commands that name a session by handle (1.5, 1.7, 1.9, 8.4) -/

section Handle

variable {s : State} {h : Nat} {handle : Half}

theorem State.Move.stays (s : State) : s.Move s := .port .stays

theorem State.Move.billed {t : State} (bills : s.Bills t) : s.Move t := .session (.billed s.sweep bills)

theorem State.Move.onServed {rule : Nat → State × Reply} (acts : ∀ h, (s.session h).served = true → s.Move (rule h).1) :
    s.Move (s.onServed handle rule).1 := by
  unfold State.onServed
  split
  · exact .stays s
  · next h _ =>
    split
    · exact .stays s
    · exact .stays s
    · next notFree notClosing =>
      refine acts h ?_
      cases state : (s.session h).state <;> simp_all [Session.served]

theorem State.Move.onFlags {mask : Byte} {rule : Nat → State × Reply} (acts : ∀ h, (s.session h).served = true → s.Move (rule h).1) :
    s.Move (s.onFlags handle mask rule).1 := by
  unfold State.onFlags
  split
  · exact .onServed acts
  · exact .stays s

theorem Session.notFree_state {x : Session} (served : x.served = true) : x.state ≠ .free :=
  Session.notFree_iff.mp (Session.notFree_of_served served)

theorem State.Bills.serves {t : State} (bills : s.Bills t) (books : s.Books) (served : (s.session h).served = true) :
    (t.session h).served = true := by
  rw [(bills.stays books h).toFollows.served, served]

theorem State.Figures.congr {t : State} (figures : s.Figures) (zones : t.zones = s.zones) (tariff : t.tariff = s.tariff)
    (linkConfig : t.linkConfig = s.linkConfig) : t.Figures := by
  obtain ⟨zonesOk, rows, row, surcharge, discount, zone, link⟩ := figures
  constructor
  all_goals simpa only [zones, tariff, linkConfig]

theorem State.Bills.reportUsage (books : s.Books) (figures : s.Figures) (served : (s.session h).served = true) (d v : Half) (m : Byte) :
    s.Bills (s.reportUsage h d v m).1.state := by
  have fresh := State.Bills.refresh (Session.notFree_state served)
  exact fresh.trans (.rateReport (fresh.books books) (figures.congr rfl rfl rfl) (Session.notFree_state (fresh.serves books served)) _ _ _)

/-- A session's final usage rated and its residues rounded up (R18). -/
theorem State.Bills.finalUsage (books : s.Books) (figures : s.Figures) (served : (s.session h).served = true) (d v : Half) (m : Byte) :
    s.Bills (((s.reportUsage h d v m).1.state.roundData h).roundVoice h) := by
  have rated := State.Bills.reportUsage books figures served d v m
  have data := rated.trans (.roundData (rated.books books) (Session.notFree_state (rated.serves books served)))
  exact data.trans (.roundVoice (data.books books) (Session.notFree_state (data.serves books served)))

theorem State.Move.closeServed {t : State} (bills : s.Bills t) (served : (t.session h).served = true) (reason : CloseReason) :
    s.Move (t.closeServed h reason) :=
  .session (.closed s.sweep bills served reason [] (by simp))

/-- A visit of the lapse sweep (R13). -/
theorem State.Move.visit (w : Sweep) (h : Nat) : s.Move (({ s with sweep := w } : State).visit h) := by
  have swept : ∀ {t : State}, ({ s with sweep := w } : State).Bills t → s.Move t := fun bills => .session (.billed w bills)
  unfold State.visit
  dsimp only
  split
  · next served =>
    split
    · next low =>
      refine swept (.setSession (Session.notFree_state served)
        (.of_lawful (Session.notFree_state served) rfl rfl rfl rfl fun lawful => ?_) rfl rfl)
      obtain ⟨a, b, c, e, basis, has, _, rest⟩ := lawful
      exact ⟨a, b, c, e, basis, has, Nat.succ_le_of_lt low, rest⟩
    · exact .session (.closed w (.refl _) served .lapsed [(.sessionLapsed, h)] (by simp))
  · exact swept (.refl _)

end Handle

end Sys2Proof.Machine

/-! SUPPORT. The commands of the tables, the zones, the links, the figures and the clock, as moves (1.4, 2, 3, 5, 6, 7, 8.3, 11.4). -/

namespace Sys2Proof.Machine

section Tables

variable {s : State}

/-- An attach either leaves the table alone, answers ALREADY, or opens a session (R7 to R9). -/
theorem State.Move.attach (x : IdentityWord) (a : Option Nat) : s.Move (s.attach x a).1 := by
  by_cases out : s.coverage.state.inService = true
  swap
  · rw [State.attach_coverage (Bool.not_eq_true _ ▸ out)]
    exact .stays s
  by_cases paced : s.coverage.state = .ramping ∧ s.coverage.pacing = 0
  · rw [State.attach_paced paced.1 paced.2]
    exact .stays s
  have admits : s.Admits := by
    unfold State.Admits
    cases state : s.coverage.state <;> simp_all [CoverageState.inService]
  cases known : s.lookupIdentity x with
  | some h =>
    rw [State.attach_known admits known]
    split
    · next served => exact .billed (.refresh (Session.notFree_state served))
    · exact .stays s
  | none =>
    cases free : s.freeHandle with
    | none =>
      rw [State.attach_full admits known free]
      exact .stays s
    | some h =>
      cases pays : s.resolve x a with
      | error st =>
        rw [State.attach_refused admits known free pays]
        exact .stays s
      | ok c =>
        rw [State.attach_opens admits known free pays]
        have opens : s.SessionMove (s.openSession x c h) := .opened x c h a admits known free pays
        dsimp only
        exact .session opens

theorem agreementOf_inside {b : Byte} {i : Nat} (named : agreementOf b = some i) : i < Config.agreementCount := by
  unfold agreementOf at named
  split at named
  · next inside => exact Option.some.inj named ▸ inside
  · cases named

theorem zoneOf_inside {b : Byte} {z : Nat} (named : zoneOf b = some z) : z < Config.zoneCount := by
  unfold zoneOf at named
  split at named
  · next inside => exact Option.some.inj named ▸ inside
  · cases named

theorem agreementStateOf_ne_empty {b : Byte} {st : AgreementState} (nonzero : b ≠ 0) (named : agreementStateOf b = some st) : st ≠ .empty := by
  rintro rfl
  unfold agreementStateOf at named
  rw [if_neg nonzero] at named
  split at named
  · cases named
  · split at named <;> cases named

/-- A value an *Account set* may write (R38). -/
theorem Account.written_ok (old : Account) {kind : AccountKind} {value threshold plan : Nat} (v : value ≤ Config.maxValue)
    (t : threshold ≤ Config.maxValue) (p : plan ≤ 7) :
    (old.written kind value threshold plan).Ok ∧ (old.written kind value threshold plan).count = old.count
      ∧ (old.written kind value threshold plan).kind = kind := by
  cases kind
  · exact ⟨⟨by simp [Account.written], by simp [Account.written], by simp [Account.written], by simp [Account.written],
      by simp [Account.written]⟩, rfl, rfl⟩
  · exact ⟨⟨v, t, p, by simp [Account.written], by simp [Account.written]⟩, rfl, rfl⟩
  · exact ⟨⟨v, by simp [Account.written], by simp [Account.written], by simp [Account.written], by simp [Account.written]⟩, rfl, rfl⟩

theorem State.Move.adjustAccount (books : s.Books) {a : Nat} (inside : a < Config.accountCount) (open_ : (s.account a).kind ≠ .closed)
    (minus : Bool) (magnitude : Nat) : s.Move (s.adjustAccount a minus magnitude) := by
  rw [State.adjustAccount]
  split
  · exact .stays s
  · obtain ⟨-, threshold, plan, other, -⟩ := books.accountOk a
    exact .session (.written a inside _ ⟨Nat.min_le_left _ _, threshold, plan, other, fun closed => absurd closed open_⟩ rfl (.inl rfl))

end Tables

/-! ### Zones (3) -/

section Zones

variable {s : State}

theorem State.Move.setCandidate {f : Timer} (timed : f.isSome = true) {z : Nat} (inside : z < Config.zoneCount) {k : ZoneKind}
    (other : s.coverage.zone ≠ some z) (known : s.coverage.zone = none → k = .permissive) :
    s.Move (({ s with coverage := { s.coverage with fixTimer := f } } : State).setCandidate z k) := by
  rw [State.setCandidate]
  dsimp only
  split
  · exact .coverage (.qualified f timed z inside)
  · exact .coverage (.aimed (some ⟨z, k, _⟩) f timed fun c held => by
      cases held
      exact ⟨inside, other, known⟩)

theorem State.Move.takeZone (law : s.ZoneLaw) {z : Nat} (inside : z < Config.zoneCount) : s.Move (s.takeZone z) := by
  obtain ⟨-, -, -, candidate⟩ := law
  have timed : (some (seconds s.params.fixTimeout)).isSome = true := rfl
  have kept : s.Move { s with coverage := { s.coverage with fixTimer := some (seconds s.params.fixTimeout) } } :=
    .coverage (.aimed s.coverage.candidate _ timed candidate)
  have reported : ∀ k, s.coverage.zone ≠ some z → (s.coverage.zone = none → k = .permissive) →
      s.Move (({ s with coverage := { s.coverage with fixTimer := some (seconds s.params.fixTimeout) } } : State).reportOther z k) := by
    intro k other known
    unfold State.reportOther
    dsimp only
    split
    · exact .setCandidate timed inside other known
    · next c held =>
      split
      · exact kept
      · split
        · exact .setCandidate timed inside other known
        · exact kept
        · next kind _ =>
          exact .coverage (.aimed (some { c with zone := z }) _ timed fun e aimed => by
            cases aimed
            exact ⟨inside, other, fun none => (candidate c held).2.2 none⟩)
  unfold State.takeZone
  dsimp only
  split
  · next current zone =>
    split
    · unfold State.reportCurrent
      dsimp only
      split
      · exact .coverage (.aimed none _ timed nofun)
      · exact kept
    · next other =>
      exact reported _ (by simp [zone, Ne.symm other]) (by simp [zone])
  · next zone =>
    split
    · exact .coverage (.qualified _ timed z inside)
    · exact reported _ (by simp [zone]) fun _ => rfl

end Zones

/-! ### Figures and parameters (8.3, 11.4) -/

section Figures

variable {s : State}

theorem Params.putPlain_plain (p : Params) {k n : Nat} (listed : k ∈ [3, 4, 5, 6, 7, 8, 9, 10, 11, 12, 14, 15, 16]) (v : Nat) :
    (p.putPlain k v).plain n = if n = k then v else p.plain n := by
  have cases_ : ∀ k ∈ [3, 4, 5, 6, 7, 8, 9, 10, 11, 12, 14, 15, 16], ∀ m ∈ List.range 17,
      ∀ q : Params, (q.putPlain k v).plain m = if m = k then v else q.plain m := by
    intro k listed m small q
    fin_cases listed <;> fin_cases small <;> rfl
  by_cases small : n < 17
  · exact cases_ k listed n (List.mem_range.mpr small) p
  · have beyond : ∀ q : Params, q.plain n = 0 := fun q => by
      unfold Params.plain
      split
      all_goals omega
    have other : n ≠ k := fun same => by simp at listed; omega
    rw [beyond, if_neg other, beyond]

theorem plainRange_listed {k : Nat} {r : Nat × Nat} (range : plainRange k = some r) :
    k ∈ [3, 4, 5, 6, 7, 8, 9, 10, 11, 12, 14, 15, 16] ∧ r.1 ≤ r.2 := by
  unfold plainRange at range
  split at range
  all_goals cases range
  all_goals simp

/-- A parameter number that is written leaves the special parameters alone (R190). -/
theorem Params.putPlain_special (p : Params) {k : Nat} (listed : k ∈ [3, 4, 5, 6, 7, 8, 9, 10, 11, 12, 14, 15, 16]) (v : Nat) :
    (p.putPlain k v).permissiveQual = p.permissiveQual ∧ (p.putPlain k v).restrictiveQual = p.restrictiveQual
      ∧ (p.putPlain k v).healthUpper = p.healthUpper ∧ (p.putPlain k v).healthLower = p.healthLower := by
  fin_cases listed <;> exact ⟨rfl, rfl, rfl, rfl⟩

theorem State.ParamsLaw.write {number : Nat} {value : Half} {p : Params} {old : Nat} {clamped : Bool} (law : s.ParamsLaw)
    (written : s.params.write number value = some (p, old, clamped)) : ({ s with params := p } : State).ParamsLaw := by
  obtain ⟨permissive, restrictive, ordered, plain, healths, upper⟩ := law
  unfold Params.write at written
  dsimp only at written
  split at written
  · cases written
    exact ⟨Nat.min_le_left _ _, (Nat.min_le_left _ _).trans restrictive, Nat.min_le_right _ _, plain, healths, upper⟩
  · split at written
    · cases written
      exact ⟨permissive, (Nat.min_le_left _ _).trans (Nat.min_le_left _ _), Nat.min_le_right _ _, plain, healths, upper⟩
    · split at written
      · split at written
        · cases written
        · next apart =>
          cases written
          exact ⟨permissive, restrictive, ordered, plain, Nat.not_le.mp apart, Nat.min_le_left _ _⟩
      · cases range : plainRange number with
        | none => simp [range] at written
        | some r =>
          obtain ⟨low, high⟩ := r
          simp only [range, Option.some.injEq, Prod.mk.injEq] at written
          obtain ⟨rfl, -, -⟩ := written
          obtain ⟨listed, bounds⟩ := plainRange_listed range
          obtain ⟨samePermissive, sameRestrictive, sameUpper, sameLower⟩ := s.params.putPlain_special listed (clampTo low high value.toNat)
          refine ⟨samePermissive ▸ permissive, sameRestrictive ▸ restrictive, ?_, fun n inList r inRange => ?_, ?_, sameUpper ▸ upper⟩
          · rw [samePermissive, sameRestrictive]
            exact ordered
          · rw [Params.putPlain_plain _ listed]
            split
            · next here =>
              rw [here, range] at inRange
              cases inRange
              exact ⟨Nat.le_max_left _ _, Nat.max_le.mpr ⟨bounds, Nat.min_le_left _ _⟩⟩
            · exact plain n inList r inRange
          · rw [sameUpper, sameLower]
            exact healths

end Figures

/-! ### Links (5, 6) -/

section Links

variable {s : State}

/-- A slot that carries is loaded (R86). -/
theorem State.LinkLaw.loaded_of_carrying (law : s.LinkLaw) {i : Slot} (carries : (s.link i).state = .carrying) :
    (s.linkConfig.get i).loaded = true := by
  obtain ⟨slots, -⟩ := law
  obtain ⟨-, -, -, -, -, -, -, unloaded, -⟩ := slots i
  by_contra not
  obtain ⟨down, -⟩ | holdoff := unloaded (Bool.not_eq_true _ ▸ not)
  · simp [carries] at down
  · simp [carries] at holdoff

end Links

end Sys2Proof.Machine

/-! SUPPORT. What one step leads to (11.3): every command, timer and line is a move. -/

namespace Sys2Proof.Machine

/-! ### The tariff figures (8.3) -/

section Figures

variable {s : State}

theorem State.Figures.priceRow (figures : s.Figures) {plan zoneClass : Nat} (inside : plan ≤ 7 ∧ zoneClass ≤ 7) (r : PriceRow)
    (ok : r.dataPrice ≤ 65535 ∧ 1 ≤ r.dataIncrement ∧ r.dataIncrement ≤ 1024 ∧ r.voicePrice ≤ 65535 ∧ 1 ≤ r.voiceIncrement
      ∧ r.voiceIncrement ≤ 60 ∧ r.messagePrice ≤ 65535) :
    ({ s with tariff := { s.tariff with rows := s.tariff.rows.set PriceRow.cold (rowNumber plan zoneClass) r } } : State).Figures := by
  obtain ⟨zones, rows, row, surcharge, discount, zone, link⟩ := figures
  have canonical := Table.wf_set (k := rowNumber plan zoneClass) rows (by unfold rowNumber; omega) r
  refine ⟨zones, canonical, ?_, surcharge, discount, zone, link⟩
  rw [Table.forall_entries rows] at row
  refine (Table.forall_entries canonical).mpr fun k warm => ?_
  rw [Table.get_set] at warm ⊢
  split at warm
  · next here =>
    rw [if_pos here]
    exact ok
  · next other =>
    rw [if_neg other]
    exact row k warm

theorem State.Figures.surcharges (figures : s.Figures) (a b c d : Nat) :
    ({ s with tariff := { s.tariff with surcharges := ⟨min 400 a, min 400 b, min 400 c, min 400 d⟩ } } : State).Figures := by
  obtain ⟨zones, rows, row, -, discount, zone, link⟩ := figures
  exact ⟨zones, rows, row, by simp [Surcharges.get], discount, zone, link⟩

theorem State.Figures.discounts (figures : s.Figures) (a b c d e f g h : Nat) :
    ({ s with tariff := { s.tariff with discounts := ⟨min 100 a, min 100 b, min 100 c, min 100 d, min 100 e, min 100 f, min 100 g,
      min 100 h⟩ } } : State).Figures := by
  obtain ⟨zones, rows, row, surcharge, -, zone, link⟩ := figures
  exact ⟨zones, rows, row, surcharge, by simp [Discounts.get], zone, link⟩

end Figures

/-! ### Where a step leads -/

/-- `t` follows from `s`: some time passes, a move is made or not, and a port's frame state may change. -/
def State.Leads (s t : State) : Prop :=
  ∃ u v, (∃ n, u = s ∨ u = s.elapse n) ∧ (v = u ∨ u.mainRuns = true ∧ u.Move v ∨ u.PowerMove v)
    ∧ (t = v ∨ ∃ p b f, t = v.setPort p { v.port p with truncated := b, frame := f })

section Leads

variable {s t u : State} {p : Port}

theorem State.Leads.refl (s : State) : s.Leads s := ⟨s, s, ⟨0, .inl rfl⟩, .inl rfl, .inl rfl⟩

theorem State.Leads.move (runs : s.mainRuns = true) (move : s.Move t) : s.Leads t := ⟨s, t, ⟨0, .inl rfl⟩, .inr (.inl ⟨runs, move⟩), .inl rfl⟩

theorem State.Leads.power (move : s.PowerMove t) : s.Leads t := ⟨s, t, ⟨0, .inl rfl⟩, .inr (.inr move), .inl rfl⟩

theorem State.Leads.command {roles : List Port} {rule : State → State × Reply} (acts : s.power.supervisor = .running → s.Move (rule s).1) :
    s.Leads (s.command p roles rule) := by
  have framed : ∀ st, s.Leads (s.withFrame p (.answered st [])) := fun st =>
    ⟨s, s, ⟨0, .inl rfl⟩, .inl rfl, .inr ⟨p, (s.port p).truncated, _, rfl⟩⟩
  by_cases off : s.power.supervisor = .off
  · rw [State.command_off off]
    exact .refl s
  by_cases running : s.power.supervisor = .running
  · by_cases listed : p ∈ roles
    · rw [State.command_eq running listed]
      exact ⟨s, (rule s).1, ⟨0, .inl rfl⟩, .inr (.inl ⟨State.mainRuns_of_running running, acts running⟩), .inr ⟨p, _, _, rfl⟩⟩
    · rw [State.command_unlisted running listed]
      exact framed _
  · rw [State.command_waits (by cases state : s.power.supervisor <;> simp_all)]
    exact framed _

theorem State.Leads.expiry {tm : Timer} {rule : State → State}
    (acts : ∀ r, tm = some r → s.mainRuns = true → (s.elapse r).Move (rule (s.elapse r))) : s.Leads (s.onExpiry tm rule) := by
  cases timed : tm with
  | none =>
    rw [State.onExpiry_stopped rfl]
    exact .refl s
  | some r =>
    cases runs : s.mainRuns with
    | false =>
      rw [State.onExpiry_of_stops runs]
      exact .refl s
    | true =>
      rw [State.onExpiry_runs runs rfl]
      exact ⟨_, _, ⟨r, .inr rfl⟩, .inr (.inl ⟨by rw [State.elapse_mainRuns, runs], acts r timed runs⟩), .inl rfl⟩

theorem State.Leads.low {length : Nat} {ready : Bool} {rule : State → State}
    (acts : ∀ e n, s.bridge.lowTimer = some e → s.mainRuns = true → ready = true → (s.elapse n).Move (rule (s.elapse n))) :
    s.Leads (s.onLow length ready rule) := by
  cases low : s.bridge.lowTimer with
  | none =>
    rw [State.onLow_of_not_ready length rule (.inl low)]
    exact .refl s
  | some e =>
    cases due : s.mainRuns && ready with
    | false =>
      rw [State.onLow_of_not_ready length rule (.inr due)]
      exact .refl s
    | true =>
      obtain ⟨runs, due⟩ := Bool.and_eq_true_iff.mp due
      rw [State.onLow_runs rule low runs due]
      exact ⟨_, _, ⟨_, .inr rfl⟩, .inr (.inl ⟨by rw [State.elapse_mainRuns, runs], acts e _ low runs due⟩), .inl rfl⟩

end Leads

end Sys2Proof.Machine

/-! SUPPORT. The inversion of a step: what each command, timer and line leads to (11.3). -/

namespace Sys2Proof.Machine

section Commands

variable {s t : State} {p : Port}

theorem State.Lawful.books (law : s.Lawful) : s.Books ∧ s.Figures := by
  obtain ⟨-, tables, loaded, -, sessions, counts, parties, -⟩ := law
  exact State.books_iff.mp ⟨tables, loaded, sessions, counts, parties⟩

theorem exec_leads_release (law : s.Lawful) {handle data voice : Half} {messages : Byte}
    (runs : exec (.release p handle data voice messages) s = .next t) : s.Leads t := by
  obtain ⟨books, figures⟩ := law.books
  obtain rfl := Host.Outcome.next.inj runs
  refine .command fun _ => .onServed fun h served => ?_
  have final := State.Bills.finalUsage books figures served data voice messages
  dsimp only
  exact .closeServed final (final.serves books served) .released

theorem exec_leads_keepalive {handle : Half} (runs : exec (.keepalive p handle) s = .next t) : s.Leads t := by
  obtain rfl := Host.Outcome.next.inj runs
  exact .command fun _ => .onServed fun h served => .billed (.refresh (Session.notFree_state served))

theorem exec_leads_usage (law : s.Lawful) {handle data voice : Half} {messages : Byte}
    (runs : exec (.usage p handle data voice messages) s = .next t) : s.Leads t := by
  obtain ⟨books, figures⟩ := law.books
  obtain rfl := Host.Outcome.next.inj runs
  exact .command fun _ => .onServed fun h served => .billed (.reportUsage books figures served data voice messages)

theorem exec_leads_closeSession {handle : Half} (runs : exec (.closeSession p handle) s = .next t) : s.Leads t := by
  obtain rfl := Host.Outcome.next.inj runs
  exact .command fun _ => .onServed fun h served => .closeServed (.refl s) served .purser

theorem exec_leads_setSessionFlags {handle : Half} {mask : Byte} (runs : exec (.setSessionFlags p handle mask) s = .next t) : s.Leads t := by
  obtain rfl := Host.Outcome.next.inj runs
  exact .command fun _ => .onFlags fun h served => .billed (.setFlags served _)

theorem exec_leads_clearSessionFlags {handle : Half} {mask : Byte} (runs : exec (.clearSessionFlags p handle mask) s = .next t) :
    s.Leads t := by
  obtain rfl := Host.Outcome.next.inj runs
  exact .command fun _ => .onFlags fun h served => .billed (.clearFlags served _)

theorem exec_leads_attach {x : IdentityWord} {present index : Byte} (runs : exec (.attach p x present index) s = .next t) : s.Leads t := by
  obtain rfl := Host.Outcome.next.inj runs
  refine .command fun _ => ?_
  split
  · exact .attach _ _
  · exact .stays s

theorem exec_leads_loadAgreement {index state codeLength : Byte} {code : CodeWord} {zones : Half} {plan account : Byte}
    (runs : exec (.loadAgreement p index state codeLength code zones plan account) s = .next t) : s.Leads t := by
  obtain rfl := Host.Outcome.next.inj runs
  refine .command fun _ => ?_
  dsimp only
  split
  · exact .stays s
  · next i named =>
    have inside := agreementOf_inside named
    split
    · split
      · next nobody => exact .session (.emptied i inside nobody)
      · exact .stays s
    · next nonzero =>
      split
      · exact .stays s
      · next st known =>
        split
        · next checks =>
          obtain ⟨valid, planOk, settles, fresh⟩ := checks
          split
          · exact .stays s
          · next free =>
            refine .session (.loaded i inside _ ⟨account.isLt, planOk, fun _ => valid⟩ (agreementStateOf_ne_empty nonzero known) rfl
              settles fresh ?_)
            by_contra party
            push Not at party free
            exact party.2.2 (free party.1 party.2.1).2.2
        · exact .stays s

theorem exec_leads_accountSet {index kind : Byte} {value threshold : Value48} {plan : Byte}
    (runs : exec (.accountSet p index kind value threshold plan) s = .next t) : s.Leads t := by
  have inside : index.toNat < Config.accountCount := index.isLt
  obtain rfl := Host.Outcome.next.inj runs
  refine .command fun _ => ?_
  dsimp only
  split
  · exact .stays s
  · next k known =>
    split
    · exact .stays s
    · next planOk =>
      split
      · exact .stays s
      · next free =>
        obtain ⟨ok, count, kindIs⟩ := Account.written_ok (s.account index.toNat) (kind := k) (value := value.toNat)
          (threshold := threshold.toNat) (plan := plan.toNat) (Nat.le_of_lt_succ value.isLt) (Nat.le_of_lt_succ threshold.isLt)
          (Nat.not_lt.mp planOk)
        refine .session (.written _ inside _ ok count ?_)
        rw [kindIs]
        by_contra busy
        push Not at busy free
        obtain ⟨nobody, none⟩ := free busy.1
        exact busy.2 nobody none

theorem exec_leads_accountAdjust (books : s.Books) {index sign : Byte} {value : Value48}
    (runs : exec (.accountAdjust p index sign value) s = .next t) : s.Leads t := by
  have inside : index.toNat < Config.accountCount := index.isLt
  obtain rfl := Host.Outcome.next.inj runs
  refine .command fun _ => ?_
  dsimp only
  split
  · exact .stays s
  · split
    · exact .stays s
    · split
      · exact .stays s
      · next open_ => exact .adjustAccount books inside open_ _ _

theorem exec_leads_zoneReport (law : s.ZoneLaw) {zone : Byte} (runs : exec (.zoneReport p zone) s = .next t) : s.Leads t := by
  obtain rfl := Host.Outcome.next.inj runs
  refine .command fun _ => ?_
  split
  · exact .stays s
  · split
    · exact .stays s
    · next z named => exact .takeZone law (zoneOf_inside named)

theorem exec_leads_loadZone {zone loaded policy tariffClass : Byte} {grace : Half}
    (runs : exec (.loadZone p zone loaded policy grace tariffClass) s = .next t) : s.Leads t := by
  obtain rfl := Host.Outcome.next.inj runs
  refine .command fun _ => ?_
  split
  · next z named _ => exact .coverage (.zoneLoaded z (zoneOf_inside named) _ (.inl rfl))
  · next z named _ =>
    split
    · split
      · next small => exact .coverage (.zoneLoaded z (zoneOf_inside named) _ (.inr ⟨rfl, Nat.min_le_left _ _, small⟩))
      · exact .stays s
    · exact .stays s
  · exact .stays s

theorem exec_leads_linkReport {slot present quality : Byte} {loss latency : Half}
    (runs : exec (.linkReport p slot present quality loss latency) s = .next t) : s.Leads t := by
  obtain rfl := Host.Outcome.next.inj runs
  refine .command fun _ => ?_
  dsimp only
  split
  · exact .link (.reported _ _ _ _ _)
  · exact .stays s

theorem exec_leads_loadLink (law : s.LinkLaw) {slot loaded kind costClass rank : Byte} {zones : Half}
    (runs : exec (.loadLink p slot loaded kind costClass rank zones) s = .next t) : s.Leads t := by
  obtain rfl := Host.Outcome.next.inj runs
  refine .command fun _ => ?_
  dsimp only
  split
  · split
    · exact .stays s
    · next idle => exact .link (.unloaded _ (Bool.not_eq_true _ ▸ idle))
  · next i _ _ =>
    split
    · split
      · next ranges =>
        obtain ⟨cost, low, high⟩ := ranges
        split
        · exact .stays s
        · next free =>
          refine .link (.configured i _ rfl low high cost fun carries => ?_)
          have loaded := law.loaded_of_carrying carries
          simp only [loaded, Link.engaged, carries] at free
          simp at free
          exact free.2
      · exact .stays s
    · exact .stays s
  · exact .stays s

theorem exec_leads_swapConfirm {slot : Byte} (runs : exec (.swapConfirm p slot) s = .next t) : s.Leads t := by
  obtain rfl := Host.Outcome.next.inj runs
  refine .command fun _ => ?_
  split
  · exact .stays s
  · split
    · next w flies =>
      split
      · exact .link (.confirmed w flies)
      · exact .stays s
    · exact .stays s

theorem exec_leads_loadPriceRow {plan zoneClass voiceIncrement : Byte} {dataPrice dataIncrement voicePrice messagePrice : Half}
    (runs : exec (.loadPriceRow p plan zoneClass dataPrice dataIncrement voicePrice voiceIncrement messagePrice) s = .next t) : s.Leads t := by
  obtain rfl := Host.Outcome.next.inj runs
  refine .command fun _ => ?_
  dsimp only
  split
  · next inside =>
    refine .figure (.priced _ fun figures => figures.priceRow inside _ ?_)
    have prices : ∀ x : Half, x.toNat ≤ 65535 := fun x => Nat.le_of_lt_succ x.isLt
    exact ⟨prices _, Nat.le_max_left _ _, Nat.max_le.mpr ⟨by decide, Nat.min_le_left _ _⟩, prices _, Nat.le_max_left _ _,
      Nat.max_le.mpr ⟨by decide, Nat.min_le_left _ _⟩, prices _⟩
  · exact .stays s

theorem exec_leads_setSurcharges {s0 s1 s2 s3 : Half} (runs : exec (.setSurcharges p s0 s1 s2 s3) s = .next t) : s.Leads t := by
  obtain rfl := Host.Outcome.next.inj runs
  exact .command fun _ => .figure (.priced _ fun figures => figures.surcharges _ _ _ _)

theorem exec_leads_setDiscounts {q0 q1 q2 q3 q4 q5 q6 q7 : Byte}
    (runs : exec (.setDiscounts p q0 q1 q2 q3 q4 q5 q6 q7) s = .next t) : s.Leads t := by
  obtain rfl := Host.Outcome.next.inj runs
  exact .command fun _ => .figure (.priced _ fun figures => figures.discounts _ _ _ _ _ _ _ _)

theorem exec_leads_setParameter {number : Byte} {value : Half} (runs : exec (.setParameter p number value) s = .next t) : s.Leads t := by
  obtain rfl := Host.Outcome.next.inj runs
  refine .command fun _ => ?_
  split
  · exact .stays s
  · next q old clamped written => exact .figure (.set q fun law => law.write written)

theorem exec_leads_setClock {seconds minutes hours date month year dayOfWeek : Byte}
    (runs : exec (.setClock p seconds minutes hours date month year dayOfWeek) s = .next t) : s.Leads t := by
  obtain rfl := Host.Outcome.next.inj runs
  refine .command fun _ => ?_
  dsimp only
  split
  · next valid => exact .clock (.set _ valid)
  · exact .stays s

theorem exec_leads_setTrim {sign magnitude : Byte} (runs : exec (.setTrim p sign magnitude) s = .next t) : s.Leads t := by
  obtain rfl := Host.Outcome.next.inj runs
  refine .command fun _ => ?_
  dsimp only
  split
  · exact .stays s
  · exact .clock (.trimmed _ (by split <;> omega) (by split <;> omega))

theorem exec_leads_setOffPeakWindow {startHour endHour : Byte} (runs : exec (.setOffPeakWindow p startHour endHour) s = .next t) : s.Leads t := by
  obtain rfl := Host.Outcome.next.inj runs
  refine .command fun _ => ?_
  dsimp only
  split
  · next hours => exact .clock (.windowed _ _ hours.1 hours.2)
  · exact .stays s

theorem exec_leads_readStatus (runs : exec (.readStatus p) s = .next t) : s.Leads t := by
  obtain rfl := Host.Outcome.next.inj runs
  exact .command fun _ => .port (.port p _ id)

theorem exec_leads_readEvent (runs : exec (.readEvent p) s = .next t) : s.Leads t := by
  obtain rfl := Host.Outcome.next.inj runs
  refine .command fun _ => ?_
  dsimp only
  split
  · exact .stays s
  · next e first =>
    obtain ⟨l, pending⟩ := List.head?_eq_some_iff.mp first
    exact .port (.port p _ fun law => State.afterRead_lawful (PortState.lawful_iff.mp law).1 pending)

theorem exec_leads_setEventEnables {enables : Quad} (runs : exec (.setEventEnables p enables) s = .next t) : s.Leads t := by
  obtain rfl := Host.Outcome.next.inj runs
  refine .command fun _ => ?_
  split
  · exact .port (.port p _ State.replaceEnables_lawful)
  · exact .stays s

theorem exec_leads_portReset (runs : exec (.portReset p) s = .next t) : s.Leads t := by
  obtain rfl := Host.Outcome.next.inj runs
  exact .command fun _ => .port (.port p _ fun _ => State.portAfterReset_lawful)

theorem exec_leads_dropRecord (runs : exec (.dropRecord p) s = .next t) : s.Leads t := by
  obtain rfl := Host.Outcome.next.inj runs
  refine .command fun _ => ?_
  dsimp only
  split
  · exact .stays s
  · next some_ => exact .session (.dropped fun none => some_ (by simp [none]))

theorem exec_leads_readQueueMark (runs : exec (.readQueueMark p) s = .next t) : s.Leads t := by
  obtain rfl := Host.Outcome.next.inj runs
  exact .command fun _ => .session .marked

theorem exec_leads_read {handle : Half} {x : IdentityWord} {b : Byte} (i : Instr)
    (listed : i ∈ [.readRecord p, .readSessionByHandle p handle, .readSessionByIdentity p x, .readAccount p b, .readAgreement p b,
      .readLink p b, .readZone p b, .readClock p]) (runs : exec i s = .next t) : s.Leads t := by
  simp only [List.mem_cons, List.not_mem_nil, or_false] at listed
  obtain rfl | rfl | rfl | rfl | rfl | rfl | rfl | rfl := listed <;> obtain rfl := Host.Outcome.next.inj runs
  all_goals
    refine .command fun _ => ?_
    have same : ∀ v, v = s → s.Move v := fun v same => same ▸ .stays s
    refine same _ ?_
    repeat' split
    all_goals rfl

theorem State.Leads.framed (s : State) (p : Port) (b : Bool) (f : Frame) : s.Leads (s.setPort p { s.port p with truncated := b, frame := f }) :=
  ⟨s, s, ⟨0, .inl rfl⟩, .inl rfl, .inr ⟨p, b, f, rfl⟩⟩

theorem exec_leads_unknownCommand {code : Byte} (runs : exec (.unknownCommand p code) s = .next t) : s.Leads t := by
  cases unknown : parameterCount code.toNat with
  | some n =>
    change execUnknownCommand p code s = _ at runs
    simp [execUnknownCommand, unknown] at runs
  | none =>
    obtain ⟨meaning, -⟩ | ⟨meaning, -⟩ := exec_unknownCommand (p := p) unknown s
    · obtain rfl := Host.Outcome.next.inj (meaning.symm.trans runs)
      exact .command fun _ => .stays s
    · obtain rfl := Host.Outcome.next.inj (meaning.symm.trans runs)
      exact .framed s p _ _

theorem exec_leads_truncatedFrame (runs : exec (.truncatedFrame p) s = .next t) : s.Leads t := by
  by_cases off : s.power.supervisor = .off
  · change execTruncatedFrame p s = _ at runs
    rw [execTruncatedFrame, if_pos off] at runs
    obtain rfl := Host.Outcome.next.inj runs
    exact .refl s
  · obtain rfl := Host.Outcome.next.inj ((exec_truncatedFrame off p).symm.trans runs)
    exact .framed s p _ _

end Commands

end Sys2Proof.Machine

/-! SUPPORT. The inversion of a step, continued: the timers, the lines and the supervisor; and what every step then keeps. -/

namespace Sys2Proof.Machine

section Events

variable {s t : State}

theorem exec_leads_coverage (law : s.Lawful) (i : Instr)
    (listed : i ∈ [.lapseSweepVisit, .fixTimerExpires, .candidateQualifies, .restoreTimerExpires, .rampTimerExpires, .graceTimerExpires])
    (runs : exec i s = .next t) : s.Leads t := by
  obtain ⟨-, -, -, -, -, -, -, -, coverage, zone, -⟩ := law
  have states : ∀ r, s.mainRuns = true → (s.elapse r).coverage.state = s.coverage.state := fun r runs => by
    rw [State.elapse_coverage runs]
    rfl
  simp only [List.mem_cons, List.not_mem_nil, or_false] at listed
  obtain rfl | rfl | rfl | rfl | rfl | rfl := listed <;> obtain rfl := Host.Outcome.next.inj runs
  · exact .expiry fun r _ _ => .visit _ _
  · exact .expiry fun r _ _ => .coverage .fixLost
  · refine .expiry fun r timed runs => ?_
    have law := zone.elapse runs r
    split
    · exact .stays _
    · next c held =>
      obtain ⟨-, -, fix, candidate⟩ := law
      exact .coverage (.qualified (s.elapse r).coverage.fixTimer (fix (.inr (by rw [held]; rfl))) c.zone (candidate c held).1)
  · refine .expiry fun r timed runs => ?_
    have state : (s.elapse r).coverage.state = .qualifying := (states r runs).trans (coverage.2.1.mp (by rw [timed]; rfl))
    rw [if_pos state]
    exact .coverage (.restored state)
  · refine .expiry fun r timed runs => ?_
    have state : (s.elapse r).coverage.state = .ramping := (states r runs).trans (coverage.2.2.1.mp (by rw [timed]; rfl))
    rw [if_pos state]
    exact .coverage (.ramped state)
  · refine .expiry fun r timed runs => ?_
    have state : (s.elapse r).coverage.state = .withdrawing := (states r runs).trans (coverage.2.2.2.1.mp (by rw [timed]; rfl))
    rw [if_pos state]
    exact .coverage (.withdrawn state)

theorem exec_leads_line (i : Instr)
    (listed : i ∈ [.bridgeLineFall, .bridgeLineRise, .lowReaches30Ms, .longLow, .stuck, .gapTimerExpires, .recoveryTimerExpires])
    (runs : exec i s = .next t) : s.Leads t := by
  have low : ∀ {e n : Nat}, s.bridge.lowTimer = some e → s.mainRuns = true → (s.elapse n).bridge.lowTimer = some (e + n) :=
    fun timed runs => by rw [State.elapse_bridge runs, Bridge.pass, timed]; rfl
  have stage : ∀ {n : Nat}, s.mainRuns = true →
      (s.elapse n).bridge.lowStage = s.bridge.lowStage ∧ (s.elapse n).bridge.state = s.bridge.state := fun runs => by
    rw [State.elapse_bridge runs]
    exact ⟨rfl, rfl⟩
  simp only [List.mem_cons, List.not_mem_nil, or_false] at listed
  obtain rfl | rfl | rfl | rfl | rfl | rfl | rfl := listed <;> obtain rfl := Host.Outcome.next.inj runs
  · split
    · next high =>
      unfold State.edge
      dsimp only
      split
      · next runs => exact .move runs (.line (.fell high))
      · next stops => exact .power (.bridgeLine (Bool.not_eq_true _ ▸ stops) false)
    · exact .refl s
  · split
    · exact .refl s
    · next high =>
      unfold State.edge
      dsimp only
      split
      · next runs => exact .move runs (.line (.rose (Bool.not_eq_true _ ▸ high)))
      · next stops => exact .power (.bridgeLine (Bool.not_eq_true _ ▸ stops) true)
  · refine .low fun e n timed runs ready => .line (.pulsed _ (low timed runs) ?_)
    rwa [Bridge.awaitsPulse, (stage runs).1]
  · refine .low fun e n timed runs ready => .line (.long _ (low timed runs) ?_)
    rwa [Bridge.awaitsLong, (stage runs).1, (stage runs).2]
  · refine .low fun e n timed runs ready => .line (.stuck _ (low timed runs) ?_)
    rwa [Bridge.awaitsStuck, (stage runs).1]
  · refine .expiry fun r timed runs => .train ?_ rfl
    rw [State.elapse_bridge runs, Bridge.pass, timed]
    rfl
  · refine .expiry fun r timed runs => .line (.recovered ?_)
    rw [State.elapse_bridge runs, Bridge.pass, timed]
    rfl

theorem exec_leads_timer {j : Slot} {p : Port} (i : Instr)
    (listed : i ∈ [.staleTimerExpires j, .linkQualificationExpires j, .faultTimerExpires j, .holdoffTimerExpires j, .swapTimerExpires,
      .dwellTimerExpires, .settleWindowExpires, .attentionTimerExpires p, .wholeSecond]) (runs : exec i s = .next t) : s.Leads t := by
  simp only [List.mem_cons, List.not_mem_nil, or_false] at listed
  obtain rfl | rfl | rfl | rfl | rfl | rfl | rfl | rfl | rfl := listed <;> obtain rfl := Host.Outcome.next.inj runs
  · exact .expiry fun _ _ _ => .link (.stale j)
  · exact .expiry fun _ _ _ => .link (.qualified j)
  · exact .expiry fun _ _ _ => .link (.faulted j)
  · exact .expiry fun _ _ _ => .link (.rested j)
  · exact .expiry fun _ _ _ => .link .late
  · exact .expiry fun _ _ _ => .link .dwelt
  · exact .expiry fun _ _ _ => .clock .settled
  · exact .expiry fun _ _ _ => .port (.port p _ PortState.Lawful.release)
  · split
    · cases runs : s.mainRuns with
      | true => exact ⟨_, _, ⟨_, .inr rfl⟩, .inr (.inl ⟨by rw [State.elapse_mainRuns, runs], .clock .second⟩), .inl rfl⟩
      | false => exact .power (.second runs _)
    · exact .refl s

theorem exec_leads_power (i : Instr)
    (listed : i ∈ [.mainPowerRises, .mainPowerFalls, .resetLineFalls, .resetLineRises, .powerFailWarningRises, .powerFailWarningFalls,
      .backupDomainLost, .initializationEnds]) (runs : exec i s = .next t) : s.Leads t := by
  simp only [List.mem_cons, List.not_mem_nil, or_false] at listed
  obtain rfl | rfl | rfl | rfl | rfl | rfl | rfl | rfl := listed <;> obtain rfl := Host.Outcome.next.inj runs
  · cases state : s.power.supervisor with
    | off =>
      dsimp only
      split
      · next high => exact .power (.started state high)
      · next low => exact .power (.held state (Bool.not_eq_true _ ▸ low))
    | _ => exact .refl s
  · split
    · exact .refl s
    · next on => exact .power (.lost on)
  · cases state : s.power.supervisor with
    | off => exact .power (.resetLow (.inl state))
    | reset => exact .power (.resetLow (.inr state))
    | _ => exact .power (.reset (by simp [state]))
  · split
    · next reset => exact .power (.released reset)
    · next other => exact .power (.resetHigh other)
  · split
    · next running => exact .power (.flushed running)
    · next other => exact .power (.warned other)
  · split
    · next flushed => exact .power (.resumed flushed)
    · next other => exact .power (.calmed other)
  · split
    · next off => exact .power (.forgotten off)
    · exact .refl s
  · split
    · next initializing => exact .power (.initialized initializing)
    · exact .refl s

end Events

/-- Whatever a command, a timer or a line does is a move. -/
theorem exec_leads {s t : State} (law : s.Lawful) {i : Instr} (runs : exec i s = .next t) : s.Leads t := by
  obtain ⟨books, -⟩ := law.books
  obtain ⟨-, -, -, -, -, -, -, -, -, zone, -, -, -, link, -⟩ := id law
  cases i with
  | attach => exact exec_leads_attach runs
  | release => exact exec_leads_release law runs
  | keepalive => exact exec_leads_keepalive runs
  | usage => exact exec_leads_usage law runs
  | closeSession => exact exec_leads_closeSession runs
  | setSessionFlags => exact exec_leads_setSessionFlags runs
  | clearSessionFlags => exact exec_leads_clearSessionFlags runs
  | loadAgreement => exact exec_leads_loadAgreement runs
  | accountSet => exact exec_leads_accountSet runs
  | accountAdjust => exact exec_leads_accountAdjust books runs
  | zoneReport => exact exec_leads_zoneReport zone runs
  | loadZone => exact exec_leads_loadZone runs
  | linkReport => exact exec_leads_linkReport runs
  | loadLink => exact exec_leads_loadLink link runs
  | swapConfirm => exact exec_leads_swapConfirm runs
  | loadPriceRow => exact exec_leads_loadPriceRow runs
  | setSurcharges => exact exec_leads_setSurcharges runs
  | setDiscounts => exact exec_leads_setDiscounts runs
  | setParameter => exact exec_leads_setParameter runs
  | setClock => exact exec_leads_setClock runs
  | setTrim => exact exec_leads_setTrim runs
  | setOffPeakWindow => exact exec_leads_setOffPeakWindow runs
  | readStatus => exact exec_leads_readStatus runs
  | readEvent => exact exec_leads_readEvent runs
  | setEventEnables => exact exec_leads_setEventEnables runs
  | portReset => exact exec_leads_portReset runs
  | dropRecord => exact exec_leads_dropRecord runs
  | readQueueMark => exact exec_leads_readQueueMark runs
  | unknownCommand => exact exec_leads_unknownCommand runs
  | truncatedFrame => exact exec_leads_truncatedFrame runs
  | readRecord p => exact exec_leads_read (p := p) (handle := 0) (x := 0) (b := 0) _ (by simp) runs
  | readSessionByHandle p h => exact exec_leads_read (p := p) (handle := h) (x := 0) (b := 0) _ (by simp) runs
  | readSessionByIdentity p x => exact exec_leads_read (p := p) (handle := 0) (x := x) (b := 0) _ (by simp) runs
  | readAccount p b | readAgreement p b | readLink p b | readZone p b =>
    exact exec_leads_read (p := p) (handle := 0) (x := 0) (b := b) _ (by simp) runs
  | readClock p => exact exec_leads_read (p := p) (handle := 0) (x := 0) (b := 0) _ (by simp) runs
  | lapseSweepVisit | fixTimerExpires | candidateQualifies | restoreTimerExpires | rampTimerExpires | graceTimerExpires =>
    exact exec_leads_coverage law _ (by simp) runs
  | bridgeLineFall | bridgeLineRise | lowReaches30Ms | longLow | stuck | gapTimerExpires | recoveryTimerExpires =>
    exact exec_leads_line _ (by simp) runs
  | staleTimerExpires j | linkQualificationExpires j | faultTimerExpires j | holdoffTimerExpires j =>
    exact exec_leads_timer (j := j) (p := .cell) _ (by simp) runs
  | attentionTimerExpires p => exact exec_leads_timer (j := 0) (p := p) _ (by simp) runs
  | swapTimerExpires | dwellTimerExpires | settleWindowExpires | wholeSecond =>
    exact exec_leads_timer (j := 0) (p := .cell) _ (by simp) runs
  | _ => exact exec_leads_power _ (by simp) runs

/-- What every lawful state has, and what every move keeps, holds after a step. -/
theorem step_keeps {P : State → Prop} (lawful : ∀ s : State, s.Lawful → P s)
    (framed : ∀ (s : State) (p : Port) (b : Bool) (f : Frame), P s → P (s.setPort p { s.port p with truncated := b, frame := f }))
    (moves : ∀ s t : State, s.Lawful → s.mainRuns = true → s.Move t → P t) (powers : ∀ s t : State, s.Lawful → s.PowerMove t → P t)
    (s t : State) (law : s.Lawful) (runs : step s = .next t) : P t := by
  have takes : ∀ u : State, u.Lawful → P u.takeDue := fun u law => by
    unfold State.takeDue
    split
    · exact lawful u law
    · exact lawful _ (law.of_pending _)
  unfold step at runs
  split at runs
  · next i rest _ =>
    have rest := law.of_pending rest
    obtain ⟨u, v, ⟨n, before⟩, moved, after⟩ := exec_leads rest runs
    have law' : u.Lawful := by
      obtain rfl | rfl := before
      · exact rest
      · exact rest.elapse n
    have reached : P v := by
      obtain rfl | ⟨runs, move⟩ | move := moved
      · exact lawful _ law'
      · exact moves _ _ law' runs move
      · exact powers _ _ law' move
    obtain rfl | ⟨p, b, f, rfl⟩ := after
    · exact reached
    · exact framed v p b f reached
  · obtain rfl := Host.Outcome.next.inj runs
    unfold State.tick
    split
    · exact takes _ (law.elapse 1)
    · exact takes _ law

end Sys2Proof.Machine

/-! SUPPORT. What an admitted attach keeps of the books and the reasons (1.4). -/

namespace Sys2Proof.Machine

section Resolve

variable {s t : State} {x : IdentityWord} {c : Charging} {account : Option Nat} {h : Nat} {y : Session}

theorem State.matchAgreement_loaded (canonical : s.agreements.wf Agreement.emptied Config.agreementCount = true) {i : Nat}
    (matched : s.matchAgreement x = some i) : i < Config.agreementCount ∧ (s.agreement i).state ≠ .empty := by
  have ofLength : ∀ length, s.matchOfLength length x = some i → (s.agreement i).state ≠ .empty := fun length found => by
    have listed := List.mem_of_mem_head? found
    rw [Table.mem_keys canonical rfl] at listed
    simp only [Bool.and_eq_true, bne_iff_ne, ne_eq] at listed
    exact listed.1.1
  have loaded : (s.agreement i).state ≠ .empty := by
    unfold State.matchAgreement at matched
    split at matched
    · next found =>
      cases matched
      exact ofLength 6 found
    · exact ofLength 5 matched
  exact ⟨Table.lt_of_get_ne canonical fun cold => loaded (by rw [State.agreement, cold]; rfl), loaded⟩

/-- Who pays for a session that an attach admits, and why no reason suspends it (R8). -/
def State.PaysFor (s : State) (c : Charging) : Prop :=
  (∃ a, c = ⟨.onboard, none, a, (s.account a).plan⟩ ∧ (s.account a).kind = .prepaid ∧ (s.account a).value ≠ 0)
    ∨ ∃ i z, c = ⟨.roaming, some i, (s.agreement i).account, (s.agreement i).plan⟩ ∧ i < Config.agreementCount
      ∧ (s.agreement i).state = .opened ∧ s.coverage.zone = some z ∧ zoneIn z (s.agreement i).zones = true

theorem State.paysFor_of_resolve (books : s.Books) (pays : s.resolve x account = .ok c) : s.PaysFor c := by
  cases account with
  | some a =>
    unfold State.resolve State.resolveOnboard at pays
    dsimp only at pays
    split at pays
    · next prepaid =>
      split at pays
      · cases pays
      · next left =>
        cases pays
        exact .inl ⟨a, rfl, prepaid, left⟩
    · cases pays
    · cases pays
  | none =>
    unfold State.resolve State.resolveRoaming at pays
    dsimp only at pays
    split at pays
    · cases pays
    · next i matched =>
      obtain ⟨inside, loaded⟩ := State.matchAgreement_loaded books.agreements matched
      split at pays
      · cases pays
      · next open_ =>
        split at pays
        · cases pays
        · next z zone =>
          split at pays
          · next permits =>
            cases pays
            refine .inr ⟨i, z, rfl, inside, ?_, zone, permits⟩
            cases state : (s.agreement i).state <;> simp_all
          · cases pays

end Resolve

section Opened

variable {s t : State} {x : IdentityWord} {c : Charging} {h : Nat} {y : Session}

theorem State.PaysFor.inside (pays : s.PaysFor c) (books : s.Books) :
    c.account < Config.accountCount ∧ ∀ i ∈ c.agreement, i < Config.agreementCount := by
  obtain ⟨a, rfl, prepaid, -⟩ | ⟨i, z, rfl, inside, opened, -⟩ := pays
  · refine ⟨?_, nofun⟩
    refine Table.lt_of_get_ne books.accounts (cold := Account.closed) fun closed => ?_
    rw [State.account, closed] at prepaid
    cases prepaid
  · exact ⟨(books.agreementOk i).account, fun j own => by cases own; exact inside⟩

theorem State.PaysFor.newSession_lawful (pays : s.PaysFor c) (books : s.Books) (x : IdentityWord) : (s.newSession x c).Lawful := by
  have plan : c.plan ≤ 7 := by
    obtain ⟨a, rfl, -⟩ | ⟨i, z, rfl, -⟩ := pays
    · exact (books.accountOk a).plan
    · exact (books.agreementOk i).plan
  have basis : some c.basis = some .roaming ↔ c.agreement.isSome = true := by
    obtain ⟨a, rfl, -⟩ | ⟨i, z, rfl, -⟩ := pays <;> simp
  exact ⟨nofun, fun _ => rfl, nofun, by simp [State.newSession, Session.free], basis, rfl, Nat.zero_le _, Nat.zero_le _, plan, Nat.zero_le _,
    Nat.zero_le _, Nat.zero_le _, by simp [State.newSession], by simp [State.newSession]; decide⟩

/-- A FREE record taken by a new session, and the counts raised. -/
theorem State.Books.opened (books : s.Books) (inside : h < Config.sessionCount) (free : (s.session h).state = .free)
    (lawful : y.Lawful) (active : y.state = .active) (new : ∀ k, (s.session k).state ≠ .free → (s.session k).identity ≠ y.identity)
    (named : y.account < Config.accountCount ∧ ∀ i ∈ y.agreement, i < Config.agreementCount)
    (roams : ∀ i ∈ y.agreement, (s.agreement i).state ≠ .empty ∧ (s.agreement i).account = y.account)
    (pays : y.agreement = none → (s.account y.account).kind = .prepaid)
    (session : ∀ k, t.session k = if k = h then y else s.session k)
    (account : ∀ a, t.account a = { s.account a with count := (s.account a).count + if a = y.account then 1 else 0 })
    (agreement : ∀ i, t.agreement i = { s.agreement i with count := (s.agreement i).count + if y.agreement = some i then 1 else 0 })
    (owed : t.owed = s.owed) (sessionsWf : t.sessions.wf Session.free Config.sessionCount = true)
    (agreementsWf : t.agreements.wf Agreement.emptied Config.agreementCount = true)
    (accountsWf : t.accounts.wf Account.closed Config.accountCount = true) : t.Books := by
  have isFree := (books.ok h).eq_free free
  have notFree : y.state ≠ .free := by simp [active]
  have counted (p : Session → Bool) (unlisted : p Session.free = false) :
      ((List.range Config.sessionCount).countP fun k => p (t.session k)) =
        ((List.range Config.sessionCount).countP fun k => p (s.session k)) + if p y = true then 1 else 0 := by
    have moved := countP_update (List.nodup_range (n := Config.sessionCount)) (List.mem_range.mpr inside)
      (p := fun k => p (t.session k)) (q := fun k => p (s.session k))
      fun k other => by rw [session, if_neg other]
    simp only [session, if_true, isFree, unlisted] at moved ⊢
    simp only [Bool.false_eq_true, if_false] at moved
    omega
  refine ⟨sessionsWf, agreementsWf, accountsWf, fun k => ?_, fun k => ?_, fun i => ?_, fun a => ?_,
    fun j k jFree kFree same => ?_, owed ▸ books.owedOnce, fun k => ?_, fun i small => ?_, fun a small => ?_,
    fun i loaded => ?_, fun i j iLoaded jLoaded length code => ?_, fun k i under => ?_, fun k kFree alone => ?_⟩
  · rw [session]
    split
    · exact .inr lawful
    · exact books.ok k
  · rw [session]
    split
    · exact named
    · exact books.named k
  · obtain ⟨a, p, c⟩ := books.agreementOk i
    rw [agreement]
    exact ⟨a, p, c⟩
  · obtain ⟨v, th, p, o, c⟩ := books.accountOk a
    rw [account]
    exact ⟨v, th, p, o, c⟩
  · rw [session] at jFree kFree same
    rw [session] at same
    split at jFree <;> split at kFree
    · simp [*]
    · next here other => exact absurd (by simpa [*] using same.symm) (new k kFree)
    · next other here => exact absurd (by simp only [if_neg other, if_pos here] at same; exact same) (new j jFree)
    · exact books.identity j k jFree kFree (by simpa [*] using same)
  · rw [owed, session, books.owes]
    split
    · next here => simp [here, free, active]
    · rfl
  · rw [agreement, counted (fun x => x.agreement == some i) rfl, books.agreementCount i small]
    simp
  · rw [account, counted (fun x => x.notFree && x.account == a) rfl, books.accountCount a small]
    simp [Session.notFree_iff.mpr notFree, eq_comm (a := a)]
  · rw [agreement] at loaded ⊢
    rw [account]
    exact books.settles i loaded
  · rw [agreement] at iLoaded length code
    rw [agreement] at jLoaded length code
    exact books.codes i j iLoaded jLoaded length code
  · rw [session] at under ⊢
    rw [agreement]
    split at under
    · next here =>
      rw [if_pos here]
      exact roams i under
    · next other =>
      rw [if_neg other]
      exact books.roams k i under
  · rw [session] at kFree alone ⊢
    rw [account]
    split at kFree
    · next here =>
      rw [if_pos here] at alone ⊢
      exact pays alone
    · next other =>
      rw [if_neg other] at alone ⊢
      exact books.pays k kFree alone

theorem State.Books.openSession (books : s.Books) (new : s.lookupIdentity x = none) (free : s.freeHandle = some h) (pays : s.PaysFor c) :
    (s.openSession x c h).Books := by
  unfold State.freeHandle at free
  have found := List.find?_some free
  have inside : h < Config.sessionCount := List.mem_range.mp (List.mem_of_find?_eq_some free)
  have unknown : ∀ k, (s.session k).state ≠ .free → (s.session k).identity ≠ x := fun k notFree same => by
    rw [State.lookupIdentity, List.head?_eq_none_iff, List.eq_nil_iff_forall_not_mem] at new
    refine new k ((Table.mem_keys books.sessions rfl).mpr ?_)
    rw [Bool.and_eq_true, beq_iff_eq]
    exact ⟨Session.notFree_iff.mpr notFree, same⟩
  have isFree : (s.session h).state = .free := by
    by_contra notFree
    rw [Session.notFree_iff.mpr notFree] at found
    cases found
  have wf := State.countSession_wf (s := s.setSession h (s.newSession x c)) (x := s.newSession x c) (f := fun n => n + 1) books.accounts
    books.agreements (pays.inside books)
  obtain ⟨g, a, counted⟩ := State.countSession_frame (s.setSession h (s.newSession x c)) (s.newSession x c) fun n => n + 1
  refine books.opened (y := s.newSession x c) inside isFree (pays.newSession_lawful books x) rfl unknown (pays.inside books) ?_ ?_ (s.openSession_session x c h)
    (s.openSession_account x c h) (s.openSession_agreement x c h) ?_ ?_ ?_ ?_
  · intro i own
    obtain ⟨a, rfl, -⟩ | ⟨j, z, rfl, -, opened, -⟩ := pays
    · cases own
    · cases own
      exact ⟨by simp [opened], rfl⟩
  · intro alone
    obtain ⟨a, rfl, prepaid, -⟩ | ⟨j, z, rfl, -⟩ := pays
    · exact prepaid
    · cases alone
  · obtain ⟨_, _, _, _, _, framed⟩ := s.openSession_frame x c h
    rw [framed]
  · rw [State.openSession_eq, counted]
    exact Table.wf_set books.sessions inside _
  · rw [State.openSession_eq]
    exact wf.2
  · rw [State.openSession_eq]
    exact wf.1

/-- A new session has no reasons, and none would suspend it. -/
theorem State.PaysFor.reasoned (pays : s.PaysFor c) (reasoned : s.Reasoned s.coverage.zone) :
    (s.openSession x c h).Reasoned s.coverage.zone := by
  intro k served
  rw [State.openSession_session] at served ⊢
  split
  · obtain ⟨a, rfl, prepaid, left⟩ | ⟨i, z, rfl, -, opened, zone, permits⟩ := pays
    · refine ⟨rfl, nofun, fun _ => ⟨?_, rfl, rfl⟩⟩
      rw [State.openSession_account]
      simp [State.newSession, Session.free, Reasons.none, left]
    · refine ⟨rfl, fun j own => ?_, nofun⟩
      cases own
      rw [State.openSession_agreement]
      refine ⟨rfl, by simp [State.newSession, Session.free, Reasons.none, opened], fun w held => ?_⟩
      rw [zone] at held
      cases held
      simp [State.newSession, Session.free, Reasons.none, permits]
  · next other =>
    rw [if_neg other] at served
    obtain ⟨hold, roaming, onboard⟩ := reasoned k served
    refine ⟨hold, fun i own => ?_, fun alone => ?_⟩
    · rw [State.openSession_agreement]
      exact roaming i own
    · rw [State.openSession_account]
      exact onboard alone

end Opened

end Sys2Proof.Machine

/-! SUPPORT. What a load of an agreement and a record written to an account keep of the books and the reasons (2.3, 2.6, 2.7). -/

namespace Sys2Proof.Machine

/-! ### Agreements -/

section Agreement

variable {s t : State} {i : Nat} {new : Agreement}

/-- An agreement with the count 0 has no session under it (R28). -/
theorem State.Books.nobody_under (books : s.Books) (inside : i < Config.agreementCount) (nobody : (s.agreement i).count = 0) (h : Nat) :
    (s.session h).agreement ≠ some i := by
  intro under
  have notFree : (s.session h).state ≠ .free := fun free => by
    rw [(books.ok h).eq_free free] at under
    cases under
  rw [books.agreementCount i inside, List.countP_eq_zero] at nobody
  simpa [under] using nobody h (List.mem_range.mpr (books.inside notFree))

theorem State.Books.setAgreement (books : s.Books) (inside : i < Config.agreementCount) (ok : new.Ok) (count : new.count = (s.agreement i).count)
    (settles : new.state ≠ .empty → (s.account new.account).kind = .settlement)
    (fresh : new.state ≠ .empty → ∀ j, j ≠ i → (s.agreement j).state ≠ .empty → ¬ ((s.agreement j).codeLength = new.codeLength
      ∧ (s.agreement j).code = new.code))
    (party : ∀ h, (s.session h).agreement = some i → new.state ≠ .empty ∧ new.account = (s.session h).account) :
    (s.setAgreement i new).Books := by
  have agreement : ∀ j, (s.setAgreement i new).agreement j = if j = i then new else s.agreement j := fun j => State.setAgreement_agreement s i j new
  have account : (s.setAgreement i new).account = s.account := rfl
  have session : (s.setAgreement i new).session = s.session := rfl
  refine ⟨books.sessions, Table.wf_set books.agreements inside new, books.accounts, books.ok, books.named, fun j => ?_, books.accountOk,
    books.identity, books.owedOnce, books.owes, fun j small => ?_, books.accountCount, fun j loaded => ?_, fun j k jLoaded kLoaded length code => ?_,
    fun h j under => ?_, books.pays⟩
  · rw [agreement]
    split
    · exact ok
    · exact books.agreementOk j
  · rw [agreement, session]
    split
    · next here => rw [count, ← here, books.agreementCount j small]
    · exact books.agreementCount j small
  · rw [agreement] at loaded ⊢
    rw [account]
    split at loaded
    · next here =>
      rw [if_pos here]
      exact settles loaded
    · next other =>
      rw [if_neg other]
      exact books.settles j loaded
  · simp only [agreement] at jLoaded kLoaded length code
    split at jLoaded <;> split at kLoaded
    · next here there => rw [here, there]
    · next here other =>
      simp only [if_pos here, if_neg other] at length code
      exact absurd ⟨length.symm, code.symm⟩ (fresh jLoaded k other kLoaded)
    · next other here =>
      simp only [if_pos here, if_neg other] at length code
      exact absurd ⟨length, code⟩ (fresh kLoaded j other jLoaded)
    · next other other' =>
      simp only [if_neg other, if_neg other'] at length code
      exact books.codes j k jLoaded kLoaded length code
  · rw [session] at under ⊢
    rw [agreement]
    split
    · next here => exact party h (here ▸ under)
    · exact books.roams h j under

theorem State.Reasoned.setAgreement (reasoned : s.Reasoned s.coverage.zone) (nobody : ∀ h, (s.session h).agreement ≠ some i) :
    (s.setAgreement i new).Reasoned s.coverage.zone := fun h served =>
  (reasoned h served).congr rfl rfl rfl rfl (fun j under => by
    rw [State.setAgreement_agreement, if_neg]
    rintro rfl
    exact nobody h under) fun _ => rfl

theorem State.Books.judged_reasons (books : s.Books) {h : Nat} (served : (s.session h).served = true) :
    (s.session h).judged (s.session h).reasons = s.session h := by
  obtain ⟨-, active, suspended, -⟩ := (books.ok h).lawful (Session.notFree_state served)
  exact Session.judged_self served active suspended

/-- A load that passes the checks of R30 keeps the books, and each session under the agreement has the reasons it gives. -/
theorem State.Books.loadAgreement (books : s.Books) (inside : i < Config.agreementCount) (ok : new.Ok) (state : new.state ≠ .empty)
    (count : new.count = (s.agreement i).count) (settles : (s.account new.account).kind = .settlement)
    (code : s.codeTaken i new.codeLength new.code = false)
    (party : (s.agreement i).state = .empty ∨ (s.agreement i).count = 0 ∨ (s.agreement i).account = new.account) :
    (s.loadAgreement i new).Books ∧ (s.Reasoned s.coverage.zone → (s.loadAgreement i new).Reasoned s.coverage.zone) := by
  have payer : ∀ h, (s.session h).agreement = some i → (s.agreement i).state ≠ .empty ∧ new.account = (s.session h).account := fun h under => by
    obtain ⟨loaded, account⟩ := books.roams h i under
    obtain empty | nobody | same := party
    · exact absurd empty loaded
    · exact absurd under (books.nobody_under inside nobody h)
    · exact ⟨loaded, same.symm.trans account⟩
  have taken : ∀ j, j ≠ i → (s.agreement j).state ≠ .empty → ¬ ((s.agreement j).codeLength = new.codeLength ∧ (s.agreement j).code = new.code) := by
    intro j other loaded ⟨length, same⟩
    have listed : j ∈ s.agreements.keys fun g => g.state != .empty && g.codeLength == new.codeLength && g.code == new.code := by
      rw [Table.mem_keys books.agreements rfl]
      simp only [State.agreement] at loaded length same
      simp [loaded, length, same]
    rw [State.codeTaken, List.any_eq_false] at code
    exact code j listed (by simpa using other)
  have set := books.setAgreement inside ok count (fun _ => settles) (fun _ => taken) fun h under => ⟨state, (payer h under).2⟩
  have written := State.rewrites_loadAgreement books.sessions (fun h => books.judged_reasons) i new
  refine ⟨set.rewrite written fun h => ?_, fun reasoned h served => ?_⟩
  · rw [State.setAgreement_session]
    split
    · next judged => exact (Session.judged_stays judged.1 _).toFollows
    · exact .refl _
  · have agreement : ∀ j, (s.loadAgreement i new).agreement j = if j = i then new else s.agreement j := fun j => by
      rw [written.frame]
      exact State.setAgreement_agreement s i j new
    have account : ∀ a, (s.loadAgreement i new).account a = s.account a := fun a => by rw [written.frame]; rfl
    rw [written.session] at served ⊢
    split at served
    · next judged =>
      rw [if_pos judged]
      obtain ⟨hold, roaming, onboard⟩ := reasoned h judged.1
      obtain ⟨credit, suspended, zone⟩ := roaming i judged.2
      refine ⟨hold, fun j under => ?_, fun alone => ?_⟩
      swap
      · have roams : (s.session h).agreement = none := alone
        rw [judged.2] at roams
        cases roams
      obtain rfl : j = i := Option.some.inj ((under : (s.session h).agreement = some j).symm.trans judged.2)
      obtain ⟨loaded, -⟩ := payer h judged.2
      rw [agreement, if_pos rfl]
      refine ⟨credit, ?_, fun z held => ?_⟩
      · change (s.reloadReasons (s.agreement j) new (s.session h).reasons).agreement = _
        unfold State.reloadReasons
        dsimp only
        rw [suspended]
        cases old : (s.agreement j).state <;> cases now : new.state <;> simp_all
      · change (s.reloadReasons (s.agreement j) new (s.session h).reasons).zone = _
        unfold State.reloadReasons
        dsimp only
        rw [Option.mem_def.mp held]
        dsimp only
        split
        · next same =>
          rw [zone z held, same.resolve_left loaded]
        · rfl
    · next other =>
      rw [if_neg other]
      refine (reasoned h served).congr rfl rfl rfl rfl (fun j under => ?_) fun _ => by rw [account]
      rw [agreement, if_neg]
      rintro rfl
      exact other ⟨served, under⟩

end Agreement

/-! ### Accounts -/

section Account

variable {s t : State} {a : Nat} {new : Account}

/-- An account with the count 0 has no session on it (R37). -/
theorem State.Books.nobody_on (books : s.Books) (inside : a < Config.accountCount) (nobody : (s.account a).count = 0) {h : Nat}
    (notFree : (s.session h).state ≠ .free) : (s.session h).account ≠ a := by
  intro on
  rw [books.accountCount a inside, List.countP_eq_zero] at nobody
  simpa [on, Session.notFree_iff.mpr notFree] using nobody h (List.mem_range.mpr (books.inside notFree))

/-- A record written to an account that nobody is on and no agreement names. -/
theorem State.Books.replaceAccount (books : s.Books) (inside : a < Config.accountCount) (ok : new.Ok) (count : new.count = (s.account a).count)
    (nobody : (s.account a).count = 0) (unnamed : ∀ i, (s.agreement i).state ≠ .empty → (s.agreement i).account ≠ a) :
    (s.setAccount a new).Books := by
  have account : ∀ b, (s.setAccount a new).account b = if b = a then new else s.account b := fun b => State.setAccount_account s a b new
  have agreement : (s.setAccount a new).agreement = s.agreement := rfl
  have session : (s.setAccount a new).session = s.session := rfl
  refine ⟨books.sessions, books.agreements, Table.wf_set books.accounts inside new, books.ok, books.named, books.agreementOk, fun b => ?_,
    books.identity, books.owedOnce, books.owes, books.agreementCount, fun b small => ?_, fun i loaded => ?_, books.codes, books.roams,
    fun h notFree alone => ?_⟩
  · rw [account]
    split
    · exact ok
    · exact books.accountOk b
  · rw [account, session]
    split
    · next here => rw [count, ← here, books.accountCount b small]
    · exact books.accountCount b small
  · rw [agreement] at loaded ⊢
    rw [account, if_neg (unnamed i loaded)]
    exact books.settles i loaded
  · rw [session] at notFree alone ⊢
    rw [account, if_neg (books.nobody_on inside nobody notFree)]
    exact books.pays h notFree alone

theorem State.Reasoned.replaceAccount (books : s.Books) (reasoned : s.Reasoned s.coverage.zone) (inside : a < Config.accountCount)
    (nobody : (s.account a).count = 0) : (s.setAccount a new).Reasoned s.coverage.zone := fun h served =>
  (reasoned h served).congr rfl rfl rfl rfl (fun _ _ => rfl) fun _ => by
    rw [State.setAccount_account, if_neg (books.nobody_on inside nobody (Session.notFree_state served))]

/-- A record that *Account set* or *Account adjust* writes (R38 to R40). -/
theorem State.Books.writeAccount (books : s.Books) (inside : a < Config.accountCount) (ok : new.Ok) (count : new.count = (s.account a).count)
    (kind : new.kind = (s.account a).kind ∨ (s.account a).count = 0 ∧ s.agreementsNaming a = 0) :
    (s.writeAccount a new).Books ∧ (s.Reasoned s.coverage.zone → (s.writeAccount a new).Reasoned s.coverage.zone) := by
  have of_bills : s.Bills (s.writeAccount a new) →
      (s.writeAccount a new).Books ∧ (s.Reasoned s.coverage.zone → (s.writeAccount a new).Reasoned s.coverage.zone) :=
    fun bills => ⟨bills.books books, bills.reasoned books _⟩
  by_cases same : new.kind = (s.account a).kind
  · cases prepaid : new.kind with
    | prepaid =>
      rw [State.writeAccount_of_prepaid _ _ prepaid] at of_bills ⊢
      exact of_bills (.creditEffect (fun _ => inside) (fun _ => ok) count same (same ▸ prepaid) (.of_eq rfl) rfl books.sessions)
    | _ =>
      rw [State.writeAccount_of_not_prepaid _ _ (by simp [prepaid])] at of_bills ⊢
      exact of_bills (.setAccount (fun _ => inside) (fun _ => ok) count same (by simp [← same, prepaid]) (.of_eq rfl) rfl)
  · obtain ⟨nobody, unnamed⟩ := kind.resolve_left same
    have set := books.replaceAccount inside ok count nobody fun i loaded named => by
      have none := (Table.count_eq_zero_iff books.agreements rfl).mp unnamed i
      simp only [State.agreement] at loaded named
      simp [loaded, named] at none
    by_cases prepaid : new.kind = .prepaid
    · have unmoved : ∀ h, ¬ ((s.session h).served = true ∧ (s.session h).account = a) := fun h ⟨served, on⟩ =>
        books.nobody_on inside nobody (Session.notFree_state served) on
      have effect := State.rewrites_creditEffect (s := s.setAccount a new) books.sessions a new.value
      have session : ∀ h, ((s.setAccount a new).creditEffect a new.value).session h = s.session h := fun h => by
        rw [effect.session]
        exact if_neg (unmoved h)
      rw [State.writeAccount_of_prepaid _ _ prepaid]
      refine ⟨set.rewrite effect fun h => ?_, fun reasoned h served => ?_⟩
      · rw [← effect.session, session]
        exact .refl _
      · rw [session] at served ⊢
        refine (State.Reasoned.replaceAccount (new := new) books reasoned inside nobody h served).congr rfl rfl rfl rfl (fun i _ => ?_) fun _ => ?_
        · rw [effect.frame] <;> rfl
        · rw [effect.frame] <;> rfl
    · rw [State.writeAccount_of_not_prepaid _ _ prepaid]
      exact ⟨set, fun reasoned => reasoned.replaceAccount books inside nobody⟩

end Account

end Sys2Proof.Machine

/-! SUPPORT. The books, the queue and the reasons over the moves of the session table (1, 2, 9.3). -/

namespace Sys2Proof.Machine

/-- What changes between `s` and `t` keeps the books, the queue's bounds, and the reasons a zone gives. -/
structure State.Tends (s t : State) : Prop where
  books : s.Books → t.Books
  queue : s.Books → s.QueueLaw → t.QueueLaw
  reasoned : s.Books → ∀ zone, s.Reasoned zone → t.Reasoned zone

section Tends

variable {s t u : State} {zone : Option Nat}

theorem State.Reasoned.congr (reasoned : s.Reasoned zone) (sessions : t.sessions = s.sessions) (accounts : t.accounts = s.accounts)
    (agreements : t.agreements = s.agreements) : t.Reasoned zone := fun h served => by
  have session : t.session h = s.session h := by simp [State.session, sessions]
  rw [session] at served ⊢
  exact (reasoned h served).congr rfl rfl rfl rfl (fun i _ => by simp [State.agreement, agreements]) fun _ => by
    simp [State.account, accounts]

theorem State.Tends.refl (s : State) : s.Tends s := ⟨id, fun _ => id, fun _ _ => id⟩

theorem State.Tends.trans (first : s.Tends u) (second : u.Tends t) : s.Tends t :=
  ⟨second.books ∘ first.books, fun books => second.queue (first.books books) ∘ first.queue books,
    fun books zone => second.reasoned (first.books books) zone ∘ first.reasoned books zone⟩

/-- The tables and the queue as they were. -/
theorem State.Tends.of_same (sessions : t.sessions = s.sessions) (owed : t.owed = s.owed) (accounts : t.accounts = s.accounts)
    (agreements : t.agreements = s.agreements) (queue : t.queue = s.queue) : s.Tends t :=
  ⟨fun books => books.congr sessions owed agreements accounts, fun _ law => by simpa only [State.QueueLaw, queue, owed] using law,
    fun _ _ reasoned => reasoned.congr sessions accounts agreements⟩

theorem State.Tends.of_bills (bills : s.Bills t) : s.Tends t := ⟨bills.books, fun _ => bills.queue, bills.reasoned⟩

theorem State.Tends.of_clears (clears : s.Books → s.Clears t) : s.Tends t :=
  ⟨fun books => (clears books).books, fun books => (clears books).queue, fun books _ => (clears books).reasoned⟩

theorem State.Reasoned.dropRecord (reasoned : s.Reasoned zone) (law : s.QueueLaw) (some_ : s.queue.records ≠ []) :
    s.dropRecord.1.Reasoned zone := by
  obtain ⟨r, records, oldest⟩ := List.exists_cons_of_ne_nil some_
  obtain ⟨-, dropped⟩ | ⟨h, rest, -, -, dropped⟩ := State.dropRecord_cases law oldest
  · rw [dropped]
    exact reasoned.congr rfl rfl rfl
  · rw [dropped]
    intro k served
    have session : (s.slotGranted h rest records).session k = if k = h then Session.free else s.session k :=
      State.becomeFree_session _ h k
    rw [session] at served ⊢
    split at served
    · cases served
    · next other =>
      rw [if_neg other]
      obtain ⟨hold, roaming, onboard⟩ := reasoned k served
      refine ⟨hold, fun i under => ?_, fun alone => ?_⟩
      · rw [show (s.slotGranted h rest records).agreement i = _ from State.becomeFree_agreement _ h i]
        exact roaming i under
      · rw [show (s.slotGranted h rest records).account _ = _ from State.becomeFree_account _ h _]
        exact onboard alone

/-- A session closed and the served count reported (R14, R21). -/
theorem State.Tends.closeServed (books : s.Books) {h : Nat} (served : (s.session h).served = true) (reason : CloseReason)
    (l : List (EventKind × Nat)) :
    s.Tends ({ s.closeSession h reason with router := (s.closeSession h reason).router.occurs l } : State).reportServed := by
  have closed : s.Tends { s.closeSession h reason with router := (s.closeSession h reason).router.occurs l } :=
    (State.Tends.of_clears fun _ => .closeSession books served reason).trans (.of_same rfl rfl rfl rfl rfl)
  exact closed.trans (.of_clears .reportServed)

end Tends

/-- The books, the queue's bounds, and each served session's reasons as the current zone gives them. -/
structure State.Purse (s : State) : Prop where
  books : s.Books
  queue : s.QueueLaw
  reasoned : s.Reasoned s.coverage.zone

section Moves

variable {s t : State}

theorem State.Tends.purse (tends : s.Tends t) (purse : s.Purse) (zone : t.coverage.zone = s.coverage.zone) : t.Purse :=
  ⟨tends.books purse.books, tends.queue purse.books purse.queue, zone ▸ tends.reasoned purse.books _ purse.reasoned⟩

theorem State.reportServed_zones (s : State) : s.reportServed.coverage.zones = s.coverage.zones := by
  unfold State.reportServed
  split
  · exact s.endWithdrawal_zones
  · rfl

theorem State.closeSession_coverage (s : State) (h : Nat) (reason : CloseReason) : (s.closeSession h reason).coverage = s.coverage := by
  obtain ⟨_, _, _, _, _, _, framed⟩ := s.closeSession_frame h reason
  rw [framed]

theorem State.Bills.coverage (bills : s.Bills t) : t.coverage = s.coverage := by rw [bills.frame]

/-- A move of the session table leaves the zone side of the controller alone. -/
theorem State.SessionMove.zones (move : s.SessionMove t) : t.coverage.zones = s.coverage.zones := by
  cases move with
  | billed w bills => rw [bills.coverage]
  | closed w bills served reason l =>
    rw [State.reportServed_zones]
    dsimp only
    rw [State.closeSession_coverage, bills.coverage]
  | opened x c h =>
    rw [State.openSession_eq]
    rfl
  | dropped =>
    obtain ⟨_, _, _, _, _, _, framed⟩ := ({ s with queue := { s.queue with records := s.queue.records.tail } } : State).grantOwed_frame s.owed
    rw [State.dropRecord, framed]
  | marked => rfl
  | emptied => rfl
  | loaded i _ new =>
    rw [State.loadAgreement]
    split
    · rfl
    · obtain ⟨_, _, framed⟩ := State.changeReasonsOf_frame (s.setAgreement i new) _ _ _
      rw [framed]
      rfl
  | written a _ new =>
    obtain ⟨_, _, framed⟩ := s.writeAccount_frame a new
    rw [framed]
    rfl

theorem State.SessionMove.purse (move : s.SessionMove t) (purse : s.Purse) : t.Purse := by
  have zone : t.coverage.zone = s.coverage.zone := congrArg Prod.fst move.zones
  obtain ⟨books, queue, reasoned⟩ := purse
  have swept : ∀ w : Sweep, s.Tends { s with sweep := w } := fun w => .of_same rfl rfl rfl rfl rfl
  cases move with
  | billed w bills => exact ((swept w).trans (.of_bills bills)).purse ⟨books, queue, reasoned⟩ zone
  | closed w bills served reason l =>
    have billed := (swept w).trans (.of_bills bills)
    exact (billed.trans (.closeServed (billed.books books) served reason l)).purse ⟨books, queue, reasoned⟩ zone
  | opened x c h account admits new free pays =>
    have pays := State.paysFor_of_resolve books pays
    obtain ⟨_, _, _, _, _, framed⟩ := s.openSession_frame x c h
    refine ⟨books.openSession new free pays, ?_, ?_⟩
    · rw [framed]
      exact queue
    · rw [zone]
      exact pays.reasoned reasoned
  | dropped some_ =>
    obtain ⟨books', queue'⟩ := books.dropRecord queue some_
    exact ⟨books', queue', zone ▸ reasoned.dropRecord queue some_⟩
  | marked =>
    obtain ⟨mark, most, cut, owes⟩ := queue
    exact ⟨books.congr rfl rfl rfl rfl, ⟨le_rfl, mark.trans most, cut, owes⟩, reasoned.congr rfl rfl rfl⟩
  | emptied i inside nobody =>
    exact ⟨books.setAgreement inside Agreement.emptied_ok nobody.symm (fun loaded => absurd rfl loaded) (fun loaded => absurd rfl loaded)
      fun h under => absurd under (books.nobody_under inside nobody h), queue, reasoned.setAgreement (books.nobody_under inside nobody)⟩
  | loaded i inside new ok state count settles code party =>
    obtain ⟨books', reasoned'⟩ := books.loadAgreement inside ok state count settles code party
    refine ⟨books', ?_, zone ▸ reasoned' reasoned⟩
    rw [State.loadAgreement]
    split
    · exact queue
    · obtain ⟨_, _, framed⟩ := State.changeReasonsOf_frame (s.setAgreement i new) _ _ _
      rw [framed]
      exact queue
  | written a inside new ok count kind =>
    obtain ⟨books', reasoned'⟩ := books.writeAccount inside ok count kind
    obtain ⟨_, _, framed⟩ := s.writeAccount_frame a new
    refine ⟨books', ?_, zone ▸ reasoned' reasoned⟩
    rw [framed]
    exact queue

end Moves

end Sys2Proof.Machine

/-! SUPPORT. What each group of moves leaves unchanged (3 to 8). -/

namespace Sys2Proof.Machine

section Frames

variable {s t : State}

theorem State.PortMove.frame (move : s.PortMove t) : t = { s with router := t.router } := by
  cases move <;> rfl

theorem State.LineMove.frame (move : s.LineMove t) : t = { s with
    bridge := t.bridge, pins := { s.pins with bridgeHigh := t.pins.bridgeHigh }, router := t.router } := by
  cases move with
  | stuck =>
    obtain ⟨_, _, framed⟩ := s.reachStuck_frame
    rw [framed]
  | rose =>
    obtain ⟨_, _, framed⟩ := ({ s with pins := { s.pins with bridgeHigh := true } } : State).endLow_frame
    rw [framed]
  | _ => rfl

theorem State.LinkMove.frame (move : s.LinkMove t) : t = { s with
    links := t.links, selector := t.selector, linkConfig := t.linkConfig, rating := t.rating, router := t.router } := by
  cases move with
  | reported i present quality loss latency =>
    obtain ⟨_, _, _, framed⟩ := s.takeReport_frame i present quality loss latency
    rw [framed]
  | unloaded => rfl
  | configured i c =>
    obtain ⟨_, _, _, framed⟩ := ({ s with linkConfig := s.linkConfig.set i c } : State).judgeLinks_frame [i]
    rw [State.loadLink]
    split
    · rfl
    · rw [framed]
  | confirmed w =>
    obtain ⟨_, _, _, _, framed⟩ := s.completeSwap_frame w
    rw [framed]
  | stale => rfl
  | qualified i =>
    rw [State.qualifyLink]
    split
    · obtain ⟨_, _, _, framed⟩ := (s.setLink i { s.link i with state := .standby, qualTimer := none }).considerSwap_frame
      rw [framed]
      rfl
    · rfl
  | faulted i =>
    rw [State.faultTimerLink]
    split
    · obtain ⟨_, _, _, framed⟩ := s.faultLink_frame i false
      rw [framed]
    · rfl
  | rested i =>
    rw [State.endHoldoff]
    dsimp only
    repeat' split
    all_goals rfl
  | late =>
    obtain ⟨_, _, _, framed⟩ := s.abandonLate_frame
    rw [framed]
  | dwelt =>
    obtain ⟨_, _, _, framed⟩ := ({ s with selector := { s.selector with dwellTimer := none } } : State).considerSwap_frame
    rw [framed]

theorem State.FigureMove.frame (move : s.FigureMove t) : t = { s with tariff := t.tariff, params := t.params } := by
  cases move <;> rfl

theorem State.ClockMove.frame (move : s.ClockMove t) : t = { s with
    clock := t.clock, period := t.period, rating := t.rating, router := t.router
    coverage := { s.coverage with pacing := t.coverage.pacing } } := by
  have settled : ∀ c : Clock, ({ s with clock := c } : State).settlePeriod = { s with
      clock := c, period := ({ s with clock := c } : State).settlePeriod.period
      rating := ({ s with clock := c } : State).settlePeriod.rating, router := ({ s with clock := c } : State).settlePeriod.router } :=
    fun c => by
      obtain ⟨_, _, _, framed⟩ := ({ s with clock := c } : State).settlePeriod_frame
      rw [framed]
  cases move with
  | set c => exact (settled _).trans (by rw [settled])
  | windowed a b => exact (settled _).trans (by rw [settled])
  | trimmed => rfl
  | second =>
    have refilled : ∀ u : State, u.refillPacing = { u with coverage := { u.coverage with pacing := u.refillPacing.coverage.pacing } } :=
      fun u => by
        unfold State.refillPacing
        split <;> rfl
    unfold State.takeSecond
    dsimp only
    split
    · split
      · rw [refilled, settled]
      · rw [refilled]
    · rfl
  | settled => rfl

theorem State.trainEnded_cases (s : State) : s.endTrain = s.trainEnded ∨ (∃ d, s.endTrain = s.trainEnded.raise .bridgeBad d)
    ∨ ∃ order, 1 ≤ order ∧ s.endTrain = s.trainEnded.takeOrder order := by
  unfold State.endTrain
  dsimp only
  split
  · exact .inr (.inl ⟨1, rfl⟩)
  · split
    · exact .inr (.inl ⟨2, rfl⟩)
    · split
      · exact .inl rfl
      · next some_ => exact .inr (.inr ⟨_, Nat.pos_of_ne_zero some_, rfl⟩)

end Frames

/-! ### The books, the queue and the reasons -/

section Purse

variable {s t : State} {z : Nat}

theorem State.Tends.of_keeps (keeps : s.KeepsService t) : s.Tends t :=
  .of_same keeps.sessions keeps.owed keeps.accounts keeps.agreements keeps.queue

/-- The ZONE changes leave the served sessions with the reasons of the new zone (R57). -/
theorem State.Reasoned.zoneReasons {zone : Option Nat} (books : s.Books) (reasoned : s.Reasoned zone) (z : Nat) :
    (s.zoneReasons z).Books ∧ (s.zoneReasons z).Reasoned (some z) := by
  have written := State.rewrites_zoneReasons books.sessions z
  refine ⟨books.rewrite written fun h => ?_, fun h served => ?_⟩
  · split
    · next judged => exact (Session.judged_stays judged.1 _).toFollows
    · exact .refl _
  · have agreement : ∀ i, (s.zoneReasons z).agreement i = s.agreement i := fun i => by rw [written.frame] <;> rfl
    have account : ∀ a, (s.zoneReasons z).account a = s.account a := fun a => by rw [written.frame] <;> rfl
    rw [written.session] at served ⊢
    split at served
    · next judged =>
      rw [if_pos judged]
      obtain ⟨i, under⟩ := Option.isSome_iff_exists.mp judged.2
      obtain ⟨hold, roaming, -⟩ := reasoned h judged.1
      obtain ⟨credit, suspended, -⟩ := roaming i under
      have reasons : s.zoneJudged z (s.session h) = { (s.session h).reasons with zone := !zoneIn z (s.agreement i).zones } := by
        rw [State.zoneJudged, under]
      rw [reasons]
      refine ⟨hold, fun j own => ?_, fun alone => ?_⟩
      · obtain rfl : j = i := Option.some.inj ((own : (s.session h).agreement = some j).symm.trans under)
        rw [agreement]
        exact ⟨credit, suspended, fun w held => by cases held; rfl⟩
      · have none : (s.session h).agreement = none := alone
        rw [under] at none
        cases none
    · next other =>
      rw [if_neg other]
      obtain ⟨hold, -, onboard⟩ := reasoned h served
      have alone : (s.session h).agreement = none := by
        by_contra roams
        exact other ⟨served, Option.isSome_iff_ne_none.mpr roams⟩
      refine ⟨hold, fun i own => ?_, fun _ => ?_⟩
      · rw [alone] at own
        cases own
      · rw [account]
        exact onboard alone

theorem State.Purse.qualifyZone (purse : s.Purse) (z : Nat) : (s.qualifyZone z).Purse := by
  obtain ⟨books, queue, reasoned⟩ := purse
  have ready : s.Tends (s.zoneReady z) := by
    have zoned : s.Tends (s.zoned z) := .of_same rfl rfl rfl rfl rfl
    unfold State.zoneReady
    split
    · exact zoned.trans (.of_clears .drainOrder)
    · exact zoned
  obtain ⟨books', reasoned'⟩ := (ready.reasoned books _ reasoned).zoneReasons (ready.books books) z
  obtain ⟨_, _, told⟩ := (s.zoneReady z).zoneReasons_frame z
  have queue' : (s.zoneTold z).QueueLaw := by
    rw [State.zoneTold, told]
    exact ready.queue books queue
  have covered := (State.Tends.of_clears fun books => .judgeCoverage books s.radiationAllowed (s.zoneGrace (some z))).trans
    (.of_keeps (s.qualifyZone_keepsService z)) (s := s.zoneTold z)
  have zone : (s.qualifyZone z).coverage.zone = some z := congrArg Prod.fst (s.qualifyZone_zones z)
  exact ⟨covered.books books', covered.queue books' queue', zone ▸ covered.reasoned books' _ reasoned'⟩

theorem State.Purse.loseFix (purse : s.Purse) : s.loseFix.Purse := by
  obtain ⟨books, queue, reasoned⟩ := purse
  have covered := ((State.Tends.of_same rfl rfl rfl rfl rfl : s.Tends s.unfixed).trans
    (.of_clears fun books => .judgeCoverage books s.radiationAllowed (s.zoneGrace s.coverage.lastZone))).trans
    (.of_keeps s.loseFix_keepsService)
  have zone : s.loseFix.coverage.zone = none := congrArg Prod.fst s.loseFix_zones
  refine ⟨covered.books books, covered.queue books queue, zone ▸ covered.reasoned books none fun h served => ?_⟩
  obtain ⟨hold, roaming, onboard⟩ := reasoned h served
  exact ⟨hold, fun i under => ⟨(roaming i under).1, (roaming i under).2.1, nofun⟩, onboard⟩

theorem State.Purse.takeOrder (purse : s.Purse) (order : Nat) : (s.takeOrder order).Purse := by
  have ordered : s.Tends (s.ordered order) := .of_same rfl rfl rfl rfl rfl
  have read : (s.ordered order).Tends ((s.ordered order).coverageReads s.radiationAllowed s.bridge.standing) := by
    unfold State.coverageReads
    split
    · exact .of_clears .endOfService
    · exact .of_clears fun books => .judgeCoverage books _ _
  have linked := (State.linksRead_keepsService ((s.ordered order).coverageReads s.radiationAllowed s.bridge.standing) s.bridge.standing)
  have selected := State.selectorReads_keepsService
    (((s.ordered order).coverageReads s.radiationAllowed s.bridge.standing).linksRead s.bridge.standing) s.bridge.standing
  exact (((ordered.trans read).trans (.of_keeps linked)).trans (.of_keeps selected)).purse purse
    (congrArg Prod.fst (s.takeOrder_zones order))

theorem State.Purse.of_same (purse : s.Purse) (sessions : t.sessions = s.sessions) (owed : t.owed = s.owed) (accounts : t.accounts = s.accounts)
    (agreements : t.agreements = s.agreements) (queue : t.queue = s.queue) (zone : t.coverage.zone = s.coverage.zone) : t.Purse :=
  (State.Tends.of_same sessions owed accounts agreements queue).purse purse zone

theorem State.CoverageMove.purse (move : s.CoverageMove t) (purse : s.Purse) : t.Purse := by
  cases move with
  | zoneLoaded z inside r =>
    have loaded : s.Tends { s with zones := s.zones.set ZoneRecord.unloaded z r } := .of_same rfl rfl rfl rfl rfl
    by_cases current : s.coverage.zone = some z
    · rw [State.loadZone_current current]
      have judged := State.judgeCoverage_zones { s with zones := s.zones.set ZoneRecord.unloaded z r } s.radiationAllowed r.grace
      have sent := State.sendComponent_keepsService (({ s with zones := s.zones.set ZoneRecord.unloaded z r } : State).judgeCoverage
        s.radiationAllowed r.grace) .zoneClass fun c => { c with zoneClass := r.tariffClass }
      refine ((loaded.trans (.of_clears fun books => .judgeCoverage books _ _)).trans (.of_keeps sent)).purse purse ?_
      exact (congrArg Coverage.zone sent.coverage).trans (congrArg Prod.fst judged)
    · rw [State.loadZone, if_neg current]
      exact purse.of_same rfl rfl rfl rfl rfl rfl
  | aimed => exact purse.of_same rfl rfl rfl rfl rfl rfl
  | qualified f timed z =>
    have fixed : ({ s with coverage := { s.coverage with fixTimer := f } } : State).Purse := purse.of_same rfl rfl rfl rfl rfl rfl
    exact fixed.qualifyZone z
  | fixLost => exact purse.loseFix
  | restored =>
    refine purse.of_same ?_ ?_ ?_ ?_ ?_ ?_
    all_goals
      unfold State.enterRamping
      dsimp only
      split <;> rfl
  | ramped => exact purse.of_same rfl rfl rfl rfl rfl rfl
  | withdrawn => exact (State.Tends.of_clears .endWithdrawal).purse purse (congrArg Prod.fst s.endWithdrawal_zones)

theorem State.Purse.endTrain (purse : s.Purse) : s.endTrain.Purse := by
  have ended : s.trainEnded.Purse := purse.of_same rfl rfl rfl rfl rfl rfl
  obtain same | ⟨d, same⟩ | ⟨order, -, same⟩ := s.trainEnded_cases
  · exact same ▸ ended
  · rw [same]
    exact ended.of_same rfl rfl rfl rfl rfl rfl
  · rw [same]
    exact ended.takeOrder order

theorem State.Move.purse (move : s.Move t) (purse : s.Purse) : t.Purse := by
  cases move with
  | session move => exact move.purse purse
  | coverage move => exact move.purse purse
  | train _ move => exact move ▸ purse.endTrain
  | port move => rw [move.frame]; exact purse.of_same rfl rfl rfl rfl rfl rfl
  | line move => rw [move.frame]; exact purse.of_same rfl rfl rfl rfl rfl rfl
  | link move => rw [move.frame]; exact purse.of_same rfl rfl rfl rfl rfl rfl
  | figure move => rw [move.frame]; exact purse.of_same rfl rfl rfl rfl rfl rfl
  | clock move => rw [move.frame]; exact purse.of_same rfl rfl rfl rfl rfl rfl

end Purse

end Sys2Proof.Machine

/-! PROOF. The tables, the figures, the sessions, the counts, the payers and the reasons after a step: O52, O53, O54. -/

namespace Sys2Proof.Machine

/-! ### Starts and flushes (10) -/

/-- The backup domain's tables and queue as a start takes them over (R176, R177). -/
structure State.Backed (s : State) : Prop where
  agreements : s.agreements.wf Agreement.emptied Config.agreementCount = true
  accounts : s.accounts.wf Account.closed Config.accountCount = true
  agreementOk : ∀ i, (s.agreement i).Ok
  accountOk : ∀ a, (s.account a).Ok
  settles : ∀ i, (s.agreement i).state ≠ .empty → (s.account (s.agreement i).account).kind = .settlement
  codes : ∀ i j, (s.agreement i).state ≠ .empty → (s.agreement j).state ≠ .empty →
    (s.agreement i).codeLength = (s.agreement j).codeLength → (s.agreement i).code = (s.agreement j).code → i = j
  marked : s.queue.records.length ≤ s.queue.mark
  most : s.queue.mark ≤ Config.ordinaryLimit + 1
  newest : Config.ordinaryLimit < s.queue.records.length → s.queue.newestIsPowerCut = true

section Starts

variable {s t : State}

theorem State.Purse.backed (purse : s.Purse) : s.Backed := by
  obtain ⟨books, ⟨marked, most, newest, -⟩, -⟩ := purse
  exact ⟨books.agreements, books.accounts, books.agreementOk, books.accountOk, books.settles, books.codes, marked, most, newest⟩

theorem State.coldBackup_backed (s : State) : s.coldBackup.Backed :=
  ⟨rfl, rfl, fun _ => Agreement.emptied_ok, fun _ => Account.closed_ok, fun _ loaded => absurd rfl loaded, fun _ _ loaded => absurd rfl loaded,
    le_rfl, Nat.zero_le _, fun many => absurd many (Nat.not_lt_zero _)⟩

/-- An empty session table over the backup domain's tables. -/
theorem State.Backed.purse (backed : s.Backed) (sessions : t.sessions = Table.empty) (owed : t.owed = [])
    (agreements : t.agreements.wf Agreement.emptied Config.agreementCount = true)
    (accounts : t.accounts.wf Account.closed Config.accountCount = true) (agreement : ∀ i, t.agreement i = { s.agreement i with count := 0 })
    (account : ∀ a, t.account a = { s.account a with count := 0 }) (queue : t.queue = s.queue) : t.Purse := by
  have session : ∀ h, t.session h = Session.free := fun h => by
    rw [State.session, sessions]
    rfl
  refine ⟨⟨sessions ▸ rfl, agreements, accounts, fun h => .inl (session h), fun h => ?_, fun i => ?_, fun a => ?_, fun h k hFree => ?_,
    owed ▸ List.nodup_nil, fun h => ?_, fun i _ => ?_, fun a _ => ?_, fun i loaded => ?_, fun i j iLoaded jLoaded length code => ?_,
    fun h i under => ?_, fun h notFree => ?_⟩, ⟨?_, ?_, ?_, ?_⟩, fun h served => ?_⟩
  · rw [session]
    exact ⟨by decide, by simp [Session.free]⟩
  · obtain ⟨a, p, c⟩ := backed.agreementOk i
    rw [agreement]
    exact ⟨a, p, c⟩
  · obtain ⟨v, th, p, o, c⟩ := backed.accountOk a
    rw [account]
    exact ⟨v, th, p, o, c⟩
  · rw [session] at hFree
    exact absurd rfl hFree
  · rw [owed, session]
    simp [Session.free]
  · rw [agreement]
    simp [session, Session.free]
  · rw [account]
    simp [session]
  · rw [agreement] at loaded ⊢
    rw [account]
    exact backed.settles i loaded
  · rw [agreement] at iLoaded length code
    rw [agreement] at jLoaded length code
    exact backed.codes i j iLoaded jLoaded length code
  · rw [session] at under
    cases under
  · rw [session] at notFree
    exact absurd rfl notFree
  · rw [queue]
    exact backed.marked
  · rw [queue]
    exact backed.most
  · rw [queue]
    exact backed.newest
  · exact fun some_ => absurd owed some_
  · rw [session] at served
    cases served

theorem State.Backed.startValues (backed : s.Backed) : s.startValues.Purse :=
  backed.purse rfl rfl (Table.wf_update backed.agreements _) (Table.wf_update backed.accounts _)
    (fun i => Table.get_update backed.agreements rfl i) (fun a => Table.get_update backed.accounts rfl a) rfl

theorem State.Backed.beginStart (backed : s.Backed) (kind : StartKind) : (s.beginStart kind).Purse := by
  have powered : ∀ {u : State} (p : Power), u.Backed → ({ u with power := p } : State).Backed := fun p backed =>
    ⟨backed.agreements, backed.accounts, backed.agreementOk, backed.accountOk, backed.settles, backed.codes, backed.marked, backed.most,
      backed.newest⟩
  cases kind with
  | cold => exact (powered _ s.coldBackup_backed).startValues
  | warm => exact (powered _ backed).startValues

theorem State.Purse.flush (purse : s.Purse) : s.flush.Purse := by
  obtain ⟨books, _, _, queue, -⟩ := State.Flushed.of_books purse.books purse.queue
  obtain ⟨-, sessions, -⟩ := State.Flushed.of_books purse.books purse.queue
  refine ⟨books, queue, fun h served => ?_⟩
  rw [State.session, sessions] at served
  cases served

/-- A latch of the start leaves everything but the router. -/
theorem State.Purse.latchStart (purse : s.Purse) : s.latchStart.Purse := by
  rw [State.latchStart_eq]
  exact purse.of_same rfl rfl rfl rfl rfl rfl

theorem State.PowerLaw.off_tables (law : s.PowerLaw) (off : s.power.supervisor = .off) : s.sessions = Table.empty ∧ s.owed = [] := by
  obtain ⟨-, -, -, -, -, -, -, empty, -⟩ := law
  exact ⟨(empty (.inl off)).1, (empty (.inl off)).2.1⟩

theorem State.takeSecond_stopped (stops : s.mainRuns = false) : s.takeSecond = { s with clock := s.clock.advance } :=
  if_neg (by simp [State.mainRuns] at stops ⊢; exact stops)

/-- Time and a whole second outside the running of the main domain. -/
theorem State.elapse_takeSecond_stopped (stops : s.mainRuns = false) (n : Nat) :
    ∃ c i, (s.elapse n).takeSecond = { s with
      clock := ({ s.clock with subSecond := c } : Clock).advance, power := { s.power with initTime := i } } := by
  obtain ⟨c, i, passed⟩ := State.elapse_of_stops (n := n) stops
  rw [passed]
  exact ⟨c, i, State.takeSecond_stopped stops⟩

theorem State.PowerMove.purse (move : s.PowerMove t) (purse : s.Purse) (law : s.PowerLaw) : t.Purse := by
  have backed := purse.backed
  have pinned : ∀ p : Pins, ({ s with pins := p } : State).Purse := fun p => purse.of_same rfl rfl rfl rfl rfl rfl
  cases move with
  | second stops n =>
    obtain ⟨c, i, same⟩ := State.elapse_takeSecond_stopped stops n
    rw [same]
    exact purse.of_same rfl rfl rfl rfl rfl rfl
  | bridgeLine => exact pinned _
  | started => exact backed.beginStart _
  | held => exact purse.of_same rfl rfl rfl rfl rfl rfl
  | lost =>
    have off : ({ s with power := { s.power with supervisor := .off, flushing := false, initTime := 0 } } : State).Purse :=
      purse.of_same rfl rfl rfl rfl rfl rfl
    exact off.backed.startValues
  | resetLow => exact pinned _
  | reset => exact purse.of_same rfl rfl rfl rfl rfl rfl
  | resetHigh => exact pinned _
  | released => exact (pinned _).backed.beginStart _
  | warned => exact pinned _
  | flushed => exact (pinned _).flush
  | calmed => exact pinned _
  | resumed => exact (pinned _).backed.beginStart _
  | forgotten off =>
    obtain ⟨sessions, owed⟩ := law.off_tables off
    exact s.coldBackup_backed.purse sessions owed rfl rfl (fun _ => rfl) (fun _ => rfl) rfl
  | initialized =>
    rw [State.endInitialization]
    dsimp only
    have latched : (State.latchStart { s with
        power := { s.power with supervisor := .running, initTime := 0 }
        backupValid := true
        period := s.clock.periodNow
        rating := Rating.start s.clock.periodNow
        sweep := { Sweep.start s.params.lapsePeriod with timer := some 0 }
        bridge := s.bridge.atStart s.pins.bridgeHigh }).Purse :=
      State.Purse.latchStart (purse.of_same rfl rfl rfl rfl rfl rfl)
    split
    · exact latched.flush
    · exact latched

end Starts

/-! ### The figures and the parameters (3.1, 5.1, 8.3, 11.4) -/

/-- The figures the purser loads and the parameters are in their ranges. -/
structure State.Loaded (s : State) : Prop where
  figures : s.Figures
  params : s.ParamsLaw

section Loaded

variable {s t : State}

theorem State.Loaded.congr (loaded : s.Loaded) (zones : t.zones = s.zones) (tariff : t.tariff = s.tariff)
    (linkConfig : t.linkConfig = s.linkConfig) (params : t.params = s.params) : t.Loaded :=
  ⟨loaded.figures.congr zones tariff linkConfig, by simpa only [State.ParamsLaw, params] using loaded.params⟩

theorem State.Loaded.of_steady (loaded : s.Loaded) (same : t.steady = s.steady) : t.Loaded :=
  loaded.congr (State.zones_of_steady same) (State.tariff_of_steady same) (State.linkConfig_of_steady same) (State.params_of_steady same)

theorem State.Loaded.setZone (loaded : s.Loaded) {z : Nat} (inside : z < Config.zoneCount) {r : ZoneRecord}
    (ok : r = ZoneRecord.unloaded ∨ r.loaded = true ∧ r.grace ≤ Config.maxGrace ∧ r.tariffClass ≤ 7) :
    ({ s with zones := s.zones.set ZoneRecord.unloaded z r } : State).Loaded := by
  obtain ⟨⟨zones, rows, row, surcharge, discount, zone, link⟩, params⟩ := loaded
  have canonical := Table.wf_set zones inside r
  refine ⟨⟨canonical, rows, row, surcharge, discount, ?_, link⟩, params⟩
  rw [Table.forall_entries zones] at zone
  refine (Table.forall_entries canonical).mpr fun k warm => ?_
  rw [Table.get_set] at warm ⊢
  split at warm
  · next here =>
    rw [if_pos here]
    exact ok.resolve_left warm
  · next other =>
    rw [if_neg other]
    exact zone k warm

theorem State.Loaded.setLink (loaded : s.Loaded) (i : Slot) {c : LinkConfig}
    (ok : (c = LinkConfig.unloaded ∨ c.loaded = true ∧ 1 ≤ c.rank ∧ c.rank ≤ 15) ∧ c.costClass ≤ 3) :
    ({ s with linkConfig := s.linkConfig.set i c } : State).Loaded := by
  obtain ⟨⟨zones, rows, row, surcharge, discount, zone, link⟩, params⟩ := loaded
  refine ⟨⟨zones, rows, row, surcharge, discount, zone, fun j => ?_⟩, params⟩
  rw [Slots.get_set]
  split
  · exact ok
  · exact link j

theorem State.Bills.steady (bills : s.Bills t) : t.steady = s.steady := by
  rw [bills.frame]
  rfl

theorem State.SessionMove.steady (move : s.SessionMove t) : t.steady = s.steady := by
  cases move with
  | billed w bills => exact bills.steady
  | closed w bills served reason l =>
    rw [State.reportServed_steady]
    exact (State.closeSession_steady _ reason).trans bills.steady
  | opened => simp
  | dropped => simp
  | marked => rfl
  | emptied => rfl
  | loaded => simp
  | written => simp

theorem State.CoverageMove.loaded (move : s.CoverageMove t) (loaded : s.Loaded) : t.Loaded := by
  cases move with
  | zoneLoaded z inside r ok =>
    have set := loaded.setZone inside ok
    rw [State.loadZone]
    split
    · exact set.of_steady (by simp)
    · exact set
  | aimed => exact loaded.of_steady rfl
  | qualified => exact loaded.of_steady (by simp)
  | fixLost => exact loaded.of_steady (by simp)
  | restored => exact loaded.of_steady (by simp)
  | ramped => exact loaded.of_steady (by simp)
  | withdrawn => exact loaded.of_steady (by simp)

theorem State.LinkMove.loaded (move : s.LinkMove t) (loaded : s.Loaded) : t.Loaded := by
  cases move with
  | unloaded i => exact (loaded.setLink i ⟨.inl rfl, by decide⟩).congr rfl rfl rfl rfl
  | configured i c isLoaded low high cost =>
    rw [State.loadLink]
    split
    · exact loaded
    · exact (loaded.setLink i ⟨.inr ⟨isLoaded, low, high⟩, cost⟩).of_steady (by simp)
  | reported => exact loaded.of_steady (by simp)
  | confirmed => exact loaded.of_steady (by simp)
  | stale => exact loaded.of_steady (by simp)
  | qualified => exact loaded.of_steady (by simp)
  | faulted => exact loaded.of_steady (by simp)
  | rested => exact loaded.of_steady (by simp)
  | late => exact loaded.of_steady (by simp)
  | dwelt =>
    refine loaded.of_steady ?_
    rw [State.considerSwap_steady]
    rfl

theorem State.Move.loaded (move : s.Move t) (loaded : s.Loaded) : t.Loaded := by
  cases move with
  | port move => rw [move.frame]; exact loaded.of_steady rfl
  | session move => exact loaded.of_steady move.steady
  | coverage move => exact move.loaded loaded
  | line move => rw [move.frame]; exact loaded.congr rfl rfl rfl rfl
  | train _ move => exact move ▸ loaded.of_steady (by simp)
  | link move => exact move.loaded loaded
  | figure move =>
    cases move with
    | priced tariff figures => exact ⟨figures loaded.figures, loaded.params⟩
    | set p law => exact ⟨loaded.figures.congr rfl rfl rfl, law loaded.params⟩
  | clock move => rw [move.frame]; exact loaded.congr rfl rfl rfl rfl

theorem State.coldBackup_loaded (s : State) : s.coldBackup.Loaded := by
  obtain ⟨-, tables, loaded, params, sessions, counts, parties, -⟩ := resetIsLawful
  obtain ⟨-, figures⟩ := State.books_iff.mp ⟨tables, loaded, sessions, counts, parties⟩
  exact ⟨figures.congr rfl rfl rfl, params⟩

theorem State.Loaded.beginStart (loaded : s.Loaded) (kind : StartKind) : (s.beginStart kind).Loaded := by
  cases kind with
  | cold => exact s.coldBackup_loaded.congr rfl rfl rfl rfl
  | warm => exact loaded.congr rfl rfl rfl rfl

theorem State.flush_loaded (loaded : s.Loaded) : s.flush.Loaded := by
  have flushed : s.flush.steady = s.flushing.steady := by simp [State.flush_eq]
  exact (loaded.congr rfl rfl rfl rfl : s.flushing.Loaded).of_steady flushed

theorem State.PowerMove.loaded (move : s.PowerMove t) (loaded : s.Loaded) : t.Loaded := by
  have pinned : ∀ p : Pins, ({ s with pins := p } : State).Loaded := fun p => loaded.congr rfl rfl rfl rfl
  cases move with
  | second stops n =>
    obtain ⟨c, i, same⟩ := State.elapse_takeSecond_stopped stops n
    rw [same]
    exact loaded.congr rfl rfl rfl rfl
  | started => exact loaded.beginStart _
  | released => exact (pinned _).beginStart _
  | resumed => exact (pinned _).beginStart _
  | flushed => exact State.flush_loaded (pinned _)
  | forgotten => exact s.coldBackup_loaded
  | initialized =>
    rw [State.endInitialization]
    dsimp only
    have latched : ∀ u : State, u.Loaded → u.latchStart.Loaded := fun u loaded => loaded.of_steady (by simp)
    split
    · exact State.flush_loaded (latched _ (loaded.congr rfl rfl rfl rfl))
    · exact latched _ (loaded.congr rfl rfl rfl rfl)
  | _ => exact loaded.congr rfl rfl rfl rfl

end Loaded

/-! ### The laws after a step -/

section Step

variable {s t : State}

theorem State.reasonsLaw_iff (canonical : s.sessions.wf Session.free Config.sessionCount = true) :
    s.ReasonsLaw ↔ s.Reasoned s.coverage.zone := by
  rw [State.ReasonsLaw, Table.forall_entries canonical]
  constructor
  · intro law h served
    obtain ⟨hold, roaming, onboard⟩ := law h (fun free => by
      rw [State.session, free] at served
      cases served) served
    exact ⟨hold, roaming, onboard⟩
  · intro reasoned h _ served
    obtain ⟨hold, roaming, onboard⟩ := reasoned h served
    exact ⟨hold, roaming, onboard⟩

theorem State.Lawful.purse (law : s.Lawful) : s.Purse := by
  obtain ⟨books, -⟩ := law.books
  obtain ⟨-, -, -, -, -, -, -, reasons, -, -, -, -, -, -, -, -, queue, -⟩ := law
  exact ⟨books, queue, (State.reasonsLaw_iff books.sessions).mp reasons⟩

theorem State.Lawful.loaded (law : s.Lawful) : s.Loaded := by
  obtain ⟨-, figures⟩ := law.books
  obtain ⟨-, -, -, params, -⟩ := law
  exact ⟨figures, params⟩

theorem step_keeps_purse (s t : State) (law : s.Lawful) (runs : step s = .next t) : t.Purse ∧ t.Loaded := by
  refine step_keeps (P := fun t => t.Purse ∧ t.Loaded) (fun s law => ⟨law.purse, law.loaded⟩) (fun s p b f kept => ?_)
    (fun s t law _ move => ⟨move.purse law.purse, move.loaded law.loaded⟩)
    (fun s t law move => ⟨move.purse law.purse law.1, move.loaded law.loaded⟩) s t law runs
  exact ⟨kept.1.of_same rfl rfl rfl rfl rfl rfl, kept.2.of_steady rfl⟩

/-- Settles O52. -/
theorem stepKeepsTablesAndFigures : Obligations.StepKeepsTablesAndFigures := by
  intro s t law runs
  obtain ⟨purse, loaded⟩ := step_keeps_purse s t law runs
  obtain ⟨tables, figures, -⟩ := State.books_iff.mpr ⟨purse.books, loaded.figures⟩
  exact ⟨tables, figures, loaded.params⟩

/-- Settles O53. -/
theorem stepKeepsSessionsAndCounts : Obligations.StepKeepsSessionsAndCounts := by
  intro s t law runs
  obtain ⟨purse, loaded⟩ := step_keeps_purse s t law runs
  obtain ⟨-, -, sessions, counts, parties⟩ := State.books_iff.mpr ⟨purse.books, loaded.figures⟩
  exact ⟨sessions, counts, parties⟩

/-- Settles O54. -/
theorem stepKeepsReasons : Obligations.StepKeepsReasons := by
  intro s t law runs
  obtain ⟨purse, -⟩ := step_keeps_purse s t law runs
  exact (State.reasonsLaw_iff purse.books.sessions).mpr purse.reasoned

end Step

end Sys2Proof.Machine

/-! PROOF. The queue and the ports after a step: O59. -/

namespace Sys2Proof.Machine

/-! ### Every move tells the router in occurrences -/

section Tells

variable {s t : State}

theorem State.KeepsService.tells (keeps : s.KeepsService t) : s.Tells t := keeps.quiet.tells

theorem State.Rewrites.tells {new : Nat → Session} {l : List (EventKind × Nat)} (written : s.Rewrites t new l) : s.Tells t :=
  ⟨l, written.router⟩

theorem State.SessionMove.tells (books : s.Books) (queue : s.QueueLaw) (move : s.SessionMove t) : s.Tells t := by
  cases move with
  | billed w bills => exact bills.tells
  | @closed w u bills h served reason l =>
    have closed : s.Tells (u.closeSession h reason) := State.Tells.trans bills.tells (u.closeSession_told h reason).tells
    have told : s.Tells { u.closeSession h reason with router := (u.closeSession h reason).router.occurs l } := closed.trans ⟨l, rfl⟩
    exact told.trans (State.reportServed_told _).tells
  | opened x c h =>
    exact ⟨_, by rw [State.openSession_eq]⟩
  | dropped some_ =>
    obtain ⟨r, records, oldest⟩ := List.exists_cons_of_ne_nil some_
    obtain ⟨-, dropped⟩ | ⟨h, rest, -, -, dropped⟩ := State.dropRecord_cases queue oldest
    · rw [dropped]
      exact .of_eq rfl
    · rw [dropped]
      exact ⟨_, rfl⟩
  | marked => exact .of_eq rfl
  | emptied => exact .of_eq rfl
  | loaded i _ new => exact (State.rewrites_loadAgreement books.sessions (fun h => books.judged_reasons) i new).tells
  | written a _ new =>
    by_cases prepaid : new.kind = .prepaid
    · rw [State.writeAccount_of_prepaid _ _ prepaid]
      exact (State.rewrites_creditEffect (s := s.setAccount a new) books.sessions a new.value).tells
    · rw [State.writeAccount_of_not_prepaid _ _ prepaid]
      exact .of_eq rfl

theorem State.qualifyZone_tells (canonical : s.sessions.wf Session.free Config.sessionCount = true) (z : Nat) : s.Tells (s.qualifyZone z) := by
  have zoned : s.Tells (s.zoned z) := ⟨[(.zoneChanged, z)], rfl⟩
  have ready : s.Tells (s.zoneReady z) ∧ (s.zoneReady z).sessions.wf Session.free Config.sessionCount = true := by
    unfold State.zoneReady
    split
    · exact ⟨zoned.trans (State.drainOrder_told _).tells, State.drainOrder_wf canonical⟩
    · exact ⟨zoned, canonical⟩
  exact ((ready.1.trans (State.rewrites_zoneReasons ready.2 z).tells).trans (State.judgeCoverage_told _ _ _).tells).trans
    (s.qualifyZone_keepsService z).tells

theorem State.CoverageMove.tells (canonical : s.sessions.wf Session.free Config.sessionCount = true) (move : s.CoverageMove t) :
    s.Tells t := by
  cases move with
  | zoneLoaded z inside r =>
    by_cases current : s.coverage.zone = some z
    · rw [State.loadZone_current current]
      exact (State.judgeCoverage_told { s with zones := s.zones.set ZoneRecord.unloaded z r } s.radiationAllowed r.grace).tells.trans
        (State.sendComponent_keepsService _ .zoneClass fun c => { c with zoneClass := r.tariffClass }).tells
    · rw [State.loadZone, if_neg current]
      exact .of_eq rfl
  | aimed => exact .of_eq rfl
  | qualified f timed z => exact State.qualifyZone_tells (s := { s with coverage := { s.coverage with fixTimer := f } }) canonical z
  | fixLost =>
    have unfixed : s.Tells s.unfixed := ⟨[(.zoneUnknown, zoneDetail s.coverage.lastZone)], rfl⟩
    exact (unfixed.trans (State.judgeCoverage_told _ _ _).tells).trans s.loseFix_keepsService.tells
  | restored =>
    unfold State.enterRamping
    dsimp only
    split
    · exact (State.changeCoverage_told _ _).tells.trans (State.changeCoverage_told _ _).tells
    · exact (State.changeCoverage_told _ _).tells
  | ramped => exact (State.changeCoverage_told _ _).tells
  | withdrawn => exact s.endWithdrawal_told.tells

theorem State.reachStuck_tells (s : State) : s.Tells s.reachStuck := by
  unfold State.reachStuck
  dsimp only
  split
  · exact .refl s
  · exact ⟨[(.bridgeBad, 3)], rfl⟩
  · split
    · exact .of_eq rfl
    · exact ⟨[(.bridgeBad, 3)], rfl⟩

theorem State.takeLengths_tells (s : State) : s.Tells s.takeLengths := by
  have longest : ∀ u : State, u.router = s.router →
      s.Tells (if u.bridge.lowFor Config.stuckPeriods && u.bridge.awaitsStuck then u.reachStuck else u) := fun u same => by
    split
    · exact (State.Tells.of_eq same).trans u.reachStuck_tells
    · exact .of_eq same
  unfold State.takeLengths
  refine longest _ ?_
  repeat' split
  all_goals rfl

theorem State.LineMove.tells (move : s.LineMove t) : s.Tells t := by
  cases move with
  | stuck => exact s.reachStuck_tells
  | rose =>
    have taken := State.takeLengths_tells { s with pins := { s.pins with bridgeHigh := true } }
    exact State.Tells.trans (u := _) taken (.of_eq rfl)
  | _ => exact .of_eq rfl

theorem State.endTrain_tells (s : State) : s.Tells s.endTrain := by
  have ended : s.Tells s.trainEnded := .of_eq rfl
  obtain same | ⟨d, same⟩ | ⟨order, -, same⟩ := s.trainEnded_cases
  · exact same ▸ ended
  · exact same ▸ ended.raise _ _
  · rw [same, State.takeOrder_eq]
    have ordered : s.Tells (s.trainEnded.ordered order) := ended.raise _ _
    refine ((ordered.trans ?_).trans (State.linksRead_keepsService _ _).tells).trans (State.selectorReads_keepsService _ _).tells
    unfold State.coverageReads
    split
    · exact (State.endOfService_told _).tells
    · exact (State.judgeCoverage_told _ _ _).tells

theorem State.completeSwap_tells (s : State) (w : Swap) : s.Tells (s.completeSwap w) := by
  have rest : ∀ (u : State) (f : Context → Context), s.Tells u → s.Tells
      (if ((u.sendComponent .costClass f).considerSwap).params.swapDwell = 0 then
        ({ (u.sendComponent .costClass f).considerSwap with selector :=
            { ((u.sendComponent .costClass f).considerSwap).selector with dwellTimer := none } } : State).considerSwap
        else (u.sendComponent .costClass f).considerSwap) := fun u f told => by
    have sent := (told.trans (u.sendComponent_quiet .costClass f).tells).trans (State.considerSwap_tells _)
    split
    · exact (sent.trans (.of_eq rfl)).trans (State.considerSwap_tells _)
    · exact sent
  unfold State.completeSwap State.sendCostClass
  cases w.oldCarrier with
  | none => exact rest _ _ ((State.Tells.of_eq rfl).raise _ _)
  | some c => exact rest _ _ ((State.Tells.of_eq rfl).raise _ _)

theorem State.LinkMove.tells (move : s.LinkMove t) : s.Tells t := by
  cases move with
  | reported => exact State.takeReport_tells
  | unloaded => exact .of_eq rfl
  | configured =>
    rw [State.loadLink]
    split
    · exact .refl s
    · exact State.judgeLinks_tells _ _
  | confirmed w => exact s.completeSwap_tells w
  | stale => exact State.staleLink_tells
  | qualified => exact State.qualifyLink_tells
  | faulted => exact State.faultTimerLink_tells
  | rested => exact State.endHoldoff_tells
  | late => exact State.abandonLate_tells s
  | dwelt => exact State.considerSwap_tells _

theorem State.settlePeriod_tells (s : State) : s.Tells s.settlePeriod := by
  unfold State.settlePeriod
  dsimp only
  split
  · exact .refl s
  · exact ((State.Tells.of_eq rfl).raise _ _).trans (State.sendComponent_quiet _ _ _).tells

theorem State.ClockMove.tells (move : s.ClockMove t) : s.Tells t := by
  cases move with
  | set => exact State.settlePeriod_tells _
  | windowed => exact State.settlePeriod_tells _
  | trimmed => exact .of_eq rfl
  | second =>
    have refilled : ∀ u : State, u.Tells u.refillPacing := fun u => by
      unfold State.refillPacing
      split <;> exact .of_eq rfl
    unfold State.takeSecond
    dsimp only
    split
    · split
      · exact State.Tells.trans (State.settlePeriod_tells { s with clock := s.clock.advance }) (refilled _)
      · exact refilled _
    · exact .of_eq rfl
  | settled => exact .of_eq rfl

end Tells

end Sys2Proof.Machine

/-! PROOF. The queue and the ports after a step: O59. -/

namespace Sys2Proof.Machine

/-! ### The supervisor's side of a move -/

section Supervisor

variable {s t : State}

/-- The supervisor, its own lines and the backup-valid mark are as they were. -/
structure State.Supervised (s t : State) : Prop where
  power : t.power = s.power
  resetHigh : t.pins.resetHigh = s.pins.resetHigh
  warning : t.pins.warning = s.pins.warning
  backupValid : t.backupValid = s.backupValid

theorem State.Supervised.of_steady (same : t.steady = s.steady) : s.Supervised t :=
  ⟨State.power_of_steady same, by rw [State.pins_of_steady same], by rw [State.pins_of_steady same], State.backupValid_of_steady same⟩

theorem State.Supervised.mainRuns (kept : s.Supervised t) : t.mainRuns = s.mainRuns := by simp only [State.mainRuns, kept.power]

theorem State.CoverageMove.supervised (move : s.CoverageMove t) : s.Supervised t := by
  cases move with
  | zoneLoaded z inside r =>
    have loaded : s.Supervised { s with zones := s.zones.set ZoneRecord.unloaded z r } := ⟨rfl, rfl, rfl, rfl⟩
    rw [State.loadZone]
    split
    · obtain ⟨power, high, warning, valid⟩ := State.Supervised.of_steady (s := { s with zones := s.zones.set ZoneRecord.unloaded z r })
        (t := (({ s with zones := s.zones.set ZoneRecord.unloaded z r } : State).judgeCoverage s.radiationAllowed
          (({ s with zones := s.zones.set ZoneRecord.unloaded z r } : State).zoneGrace (some z))).sendZoneClass r.tariffClass) (by simp)
      exact ⟨power, high, warning, valid⟩
    · exact loaded
  | aimed => exact .of_steady rfl
  | qualified => exact .of_steady (by simp)
  | fixLost => exact .of_steady (by simp)
  | restored => exact .of_steady (by simp)
  | ramped => exact .of_steady (by simp)
  | withdrawn => exact .of_steady (by simp)

theorem State.Move.supervised (move : s.Move t) : s.Supervised t := by
  cases move with
  | session move => exact .of_steady move.steady
  | coverage move => exact move.supervised
  | train _ move => exact move ▸ .of_steady (by simp)
  | port move => rw [move.frame]; exact ⟨rfl, rfl, rfl, rfl⟩
  | line move => rw [move.frame]; exact ⟨rfl, rfl, rfl, rfl⟩
  | link move => rw [move.frame]; exact ⟨rfl, rfl, rfl, rfl⟩
  | figure move => rw [move.frame]; exact ⟨rfl, rfl, rfl, rfl⟩
  | clock move => rw [move.frame]; exact ⟨rfl, rfl, rfl, rfl⟩

end Supervisor

/-! ### The ports (11.6) -/

section Ports

variable {s t : State}

/-- The pending set of every port in order. -/
def State.PortsOk (s : State) : Prop := ∀ p, (s.port p).Lawful

theorem State.portLaw_iff : s.PortLaw ↔ s.PortsOk ∧ (s.mainRuns = false → ∀ p, (s.port p).lineLow = false) := by
  constructor
  · rintro ⟨cell, link, purser, released⟩
    refine ⟨fun p => ?_, fun stops p => ?_⟩
    · cases p
      · exact cell
      · exact link
      · exact purser
    · obtain ⟨cellHigh, linkHigh, purserHigh⟩ := released stops
      cases p
      · exact cellHigh
      · exact linkHigh
      · exact purserHigh
  · rintro ⟨ok, released⟩
    exact ⟨ok .cell, ok .link, ok .purser, fun stops => ⟨released stops .cell, released stops .link, released stops .purser⟩⟩

theorem State.PortsOk.tells (ok : s.PortsOk) (tells : s.Tells t) : t.PortsOk := by
  obtain ⟨l, run⟩ := tells
  intro p
  rw [State.port, run]
  exact Router.occurs_lawful (ok p)

theorem State.PortsOk.setPort (ok : s.PortsOk) (p : Port) {x : PortState} (lawful : x.Lawful) : (s.setPort p x).PortsOk := by
  intro q
  have port : (s.setPort p x).port q = if q = p then x else s.port q := by
    cases p <;> cases q <;> rfl
  rw [port]
  split
  · exact lawful
  · exact ok q

theorem State.PortLaw.move (law : s.PortLaw) (purse : s.Purse) (runs : s.mainRuns = true) (move : s.Move t) : t.PortLaw := by
  obtain ⟨ok, -⟩ := State.portLaw_iff.mp law
  have of_tells : s.Tells t → t.PortsOk := ok.tells
  refine State.portLaw_iff.mpr ⟨?_, fun stops => ?_⟩
  · cases move with
    | port move =>
      cases move with
      | stays => exact ok
      | port p x keeps => exact ok.setPort p (keeps (ok p))
    | session move => exact of_tells (move.tells purse.books purse.queue)
    | coverage move => exact of_tells (move.tells purse.books.sessions)
    | line move => exact of_tells move.tells
    | train _ move => exact move ▸ ok.tells s.endTrain_tells
    | link move => exact of_tells move.tells
    | figure move => exact of_tells (.of_eq (by rw [move.frame]))
    | clock move => exact of_tells move.tells
  · rw [move.supervised.mainRuns, runs] at stops
    cases stops

/-- Ports as a start leaves them. -/
theorem PortState.start_lawful : PortState.start.Lawful := by decide

theorem State.flush_tells (s : State) : s.Tells s.flush := by
  have ended : s.Tells s.flushing.endOfService := State.Tells.trans (t := s.flushing) (.of_eq rfl) (State.endOfService_told _).tells
  obtain ⟨_, _, _, emptied⟩ := s.flushing.endOfService.emptyTable_frame
  have cleared : s.Tells s.flushing.endOfService.emptyTable := ended.trans (.of_eq (by rw [emptied]))
  rw [State.flush_eq]
  unfold State.contribute
  split
  · exact cleared.trans (.of_eq rfl)
  · rw [State.appendRecord_eq]
    exact cleared.trans ⟨_, rfl⟩

theorem State.PortLaw.power (law : s.PortLaw) (move : s.PowerMove t) : t.PortLaw := by
  obtain ⟨ok, released⟩ := State.portLaw_iff.mp law
  have started : ∀ {u : State}, u.router = Router.start → u.PortLaw := fun same => by
    rw [State.PortLaw, same]
    exact ⟨PortState.start_lawful, PortState.start_lawful, PortState.start_lawful, fun _ => ⟨rfl, rfl, rfl⟩⟩
  have begun : ∀ (u : State) kind, (u.beginStart kind).PortLaw := fun u kind => started (by cases kind <;> rfl)
  have flushed : ∀ u : State, s.Tells u → u.flush.PortLaw := fun u tells => by
    refine State.portLaw_iff.mpr ⟨ok.tells (tells.trans u.flush_tells), fun stops => ?_⟩
    have supervisor : u.flush.power = u.flushing.power := by
      refine State.power_of_steady ?_
      simp [State.flush_eq]
    simp [State.mainRuns, supervisor, State.flushing] at stops
  cases move with
  | second stops n =>
    obtain ⟨c, i, same⟩ := State.elapse_takeSecond_stopped stops n
    rw [same]
    exact law
  | bridgeLine => exact law
  | started => exact begun _ _
  | held off => exact State.portLaw_iff.mpr ⟨ok, fun _ => released (by simp [State.mainRuns, off])⟩
  | lost => exact started rfl
  | resetLow => exact law
  | reset =>
    have low : ∀ x : PortState, x.release.lineLow = false := fun _ => rfl
    exact ⟨(ok .cell).release, (ok .link).release, (ok .purser).release, fun _ => ⟨low _, low _, low _⟩⟩
  | resetHigh => exact law
  | released => exact begun _ _
  | warned => exact law
  | flushed => exact flushed _ (.of_eq rfl)
  | calmed => exact law
  | resumed => exact begun _ _
  | forgotten => exact law
  | initialized =>
    rw [State.endInitialization]
    dsimp only
    split
    · refine flushed _ ?_
      rw [State.latchStart_eq]
      exact ⟨_, rfl⟩
    · refine State.portLaw_iff.mpr ⟨?_, fun stops => ?_⟩
      · rw [State.latchStart_eq]
        exact ok.tells ⟨_, rfl⟩
      · rw [State.latchStart_eq] at stops
        simp [State.mainRuns] at stops

/-- Settles O59. -/
theorem stepKeepsQueueAndPorts : Obligations.StepKeepsQueueAndPorts := by
  have port : ∀ {s : State}, s.Lawful → s.PortLaw := fun law => by
    obtain ⟨-, -, -, -, -, -, -, -, -, -, -, -, -, -, -, -, -, port⟩ := law
    exact port
  intro s t law runs
  refine ⟨(step_keeps_purse s t law runs).1.queue, step_keeps (P := State.PortLaw) (fun s law => port law) (fun s p b f kept => ?_)
    (fun s t law runs move => (port law).move law.purse runs move) (fun s t law move => (port law).power move) s t law runs⟩
  obtain ⟨ok, released⟩ := State.portLaw_iff.mp kept
  refine State.portLaw_iff.mpr ⟨ok.setPort p (ok p), fun stops q => ?_⟩
  have same : ((s.setPort p { s.port p with truncated := b, frame := f }).port q).lineLow = (s.port q).lineLow := by
    cases p <;> cases q <;> rfl
  rw [same]
  exact released stops q

end Ports

end Sys2Proof.Machine

/-! SUPPORT. What a move of the session table or of the coverage controller leaves unchanged (1, 3). -/

namespace Sys2Proof.Machine

section Frames

variable {s t : State}

theorem State.SessionMove.frame (move : s.SessionMove t) : t = { s with
    sweep := t.sweep, coverage := t.coverage, sessions := t.sessions, owed := t.owed, accounts := t.accounts
    agreements := t.agreements, queue := t.queue, router := t.router } := by
  cases move with
  | billed w bills => rw [bills.frame]
  | @closed w u bills h served reason l =>
    obtain ⟨_, _, _, _, _, _, closed⟩ := u.closeSession_frame h reason
    obtain ⟨_, _, _, _, _, _, _, reported⟩ :=
      ({ u.closeSession h reason with router := (u.closeSession h reason).router.occurs l } : State).reportServed_frame
    rw [reported, closed, bills.frame]
  | opened x c h =>
    obtain ⟨_, _, _, _, _, framed⟩ := s.openSession_frame x c h
    rw [framed]
  | dropped =>
    obtain ⟨_, _, _, _, _, _, framed⟩ := ({ s with queue := { s.queue with records := s.queue.records.tail } } : State).grantOwed_frame s.owed
    rw [State.dropRecord, framed]
  | marked => rfl
  | emptied => rfl
  | loaded i _ new =>
    rw [State.loadAgreement]
    split
    · rfl
    · obtain ⟨_, _, framed⟩ := State.changeReasonsOf_frame (s.setAgreement i new) _ _ _
      rw [framed]
      rfl
  | written a _ new =>
    obtain ⟨_, _, framed⟩ := s.writeAccount_frame a new
    rw [framed]
    rfl

theorem State.CoverageMove.frame (move : s.CoverageMove t) : t = { s with
    zones := t.zones, coverage := t.coverage, sessions := t.sessions, owed := t.owed, accounts := t.accounts
    agreements := t.agreements, queue := t.queue, links := t.links, selector := t.selector, rating := t.rating, router := t.router } := by
  cases move with
  | zoneLoaded z inside r =>
    by_cases current : s.coverage.zone = some z
    · obtain ⟨_, _, _, _, _, _, _, judged⟩ :=
        ({ s with zones := s.zones.set ZoneRecord.unloaded z r } : State).judgeCoverage_frame s.radiationAllowed r.grace
      obtain ⟨_, _, sent⟩ := (({ s with zones := s.zones.set ZoneRecord.unloaded z r } : State).judgeCoverage
        s.radiationAllowed r.grace).sendComponent_frame .zoneClass fun c => { c with zoneClass := r.tariffClass }
      rw [State.loadZone_current current, State.sendZoneClass, sent, judged]
    · rw [State.loadZone, if_neg current]
  | aimed => rfl
  | qualified f timed z =>
    obtain ⟨_, _, _, _, _, _, _, _, _, _, framed⟩ :=
      ({ s with coverage := { s.coverage with fixTimer := f } } : State).qualifyZone_frame z
    rw [framed]
  | fixLost =>
    obtain ⟨_, _, _, _, _, _, _, _, _, framed⟩ := s.loseFix_frame
    rw [framed]
  | restored =>
    obtain ⟨_, _, framed⟩ := s.enterRamping_frame
    rw [framed]
  | ramped => rfl
  | withdrawn =>
    obtain ⟨_, _, _, _, _, _, _, framed⟩ := s.endWithdrawal_frame
    rw [framed]

end Frames

end Sys2Proof.Machine

/-! SUPPORT. The bridge order decoder over the moves of its line and the starts (4.1, 4.2, 10.3). -/

namespace Sys2Proof.Machine

/-- The decoder in each of its states: idle; a train between two lows or within one; a recovery outside a counted low or within one
(R70 to R76). -/
inductive Bridge.Ok : Bridge → Prop
  | idle (low : Option Nat) (standing : Standing) : Bridge.Ok ⟨.idle, 0, false, low, .brief, none, none, false, standing⟩
  | resting {n : Nat} {long : Bool} (few : n ≤ 5) (some_ : long = true ∨ 1 ≤ n) (low : Option Nat) (g : Nat) (standing : Standing) :
      Bridge.Ok ⟨.train, n, long, low, .brief, some g, none, false, standing⟩
  | lowered {n : Nat} {long : Bool} {stage : LowStage} (few : n ≤ 5) (taken : stage = .counted ∨ stage = .long ∧ (long = true ∨ 1 ≤ n)) (e : Nat)
      (standing : Standing) : Bridge.Ok ⟨.train, n, long, some e, stage, none, none, false, standing⟩
  | recovering (low : Option Nat) (r : Timer) (reported : Bool) (standing : Standing) :
      Bridge.Ok ⟨.recovering, 0, false, low, .brief, none, r, reported, standing⟩
  | held {stage : LowStage} (taken : stage ≠ .brief) (e : Nat) (reported : Bool) (standing : Standing) :
      Bridge.Ok ⟨.recovering, 0, false, some e, stage, none, none, reported, standing⟩

/-- The line timed: the low timer runs in a low, and a recovery waits for no line that is high. -/
structure Bridge.Timed (b : Bridge) (high : Bool) : Prop where
  low : b.lowTimer.isSome = true ↔ high = false
  recovers : b.state = .recovering → b.lowTimer = none → b.recoveryTimer.isSome = true

section Decoder

variable {s t : State} {b : Bridge}

theorem State.bridgeLaw_iff : s.BridgeLaw ↔ s.bridge.Ok ∧ (s.mainRuns = true → s.bridge.Timed s.pins.bridgeHigh) := by
  unfold State.BridgeLaw
  generalize s.bridge = b
  constructor
  · rintro ⟨few, still, unreported, brief, rests, some_, waits, high, low, recovers⟩
    refine ⟨?_, fun runs => ⟨low runs, recovers runs⟩⟩
    obtain ⟨state, n, long, lowTimer, stage, gap, recovery, reported, standing⟩ := b
    dsimp only at few still unreported brief rests some_ waits high
    cases state with
    | idle =>
      obtain ⟨rfl, rfl, rfl⟩ := still nofun
      obtain ⟨rfl, rfl⟩ := unreported nofun
      obtain rfl := brief rfl
      exact .idle lowTimer standing
    | train =>
      obtain ⟨rfl, rfl⟩ := unreported nofun
      obtain ⟨unstuck, gapped⟩ := rests rfl
      by_cases between : stage = .brief
      · subst between
        obtain ⟨g, rfl⟩ := Option.isSome_iff_exists.mp (gapped.mpr rfl)
        exact .resting few (some_ rfl nofun) lowTimer g standing
      · obtain rfl : gap = none := by
          rw [← Option.not_isSome_iff_eq_none]
          exact fun running => between (gapped.mp running)
        obtain ⟨e, rfl⟩ := Option.ne_none_iff_exists'.mp fun none_ => between (high none_)
        refine .lowered few ?_ e standing
        cases stage with
        | brief => exact absurd rfl between
        | counted => exact .inl rfl
        | long => exact .inr ⟨rfl, some_ rfl nofun⟩
        | stuck => exact absurd rfl unstuck
    | recovering =>
      obtain ⟨rfl, rfl, rfl⟩ := still nofun
      by_cases outside : stage = .brief
      · subst outside
        exact .recovering lowTimer recovery reported standing
      · obtain rfl := waits rfl outside
        obtain ⟨e, rfl⟩ := Option.ne_none_iff_exists'.mp fun none_ => outside (high none_)
        exact .held outside e reported standing
  · rintro ⟨ok, timed⟩
    have core : b.pulseCount ≤ 5 ∧ (b.state ≠ .train → b.pulseCount = 0 ∧ b.longLow = false ∧ b.gapTimer = none)
        ∧ (b.state ≠ .recovering → b.recoveryTimer = none ∧ b.stuckReported = false) ∧ (b.state = .idle → b.lowStage = .brief)
        ∧ (b.state = .train → b.lowStage ≠ .stuck ∧ (b.gapTimer.isSome = true ↔ b.lowStage = .brief))
        ∧ (b.state = .train → b.lowStage ≠ .counted → b.longLow = true ∨ 1 ≤ b.pulseCount)
        ∧ (b.state = .recovering → b.lowStage ≠ .brief → b.recoveryTimer = none) ∧ (b.lowTimer = none → b.lowStage = .brief) := by
      cases ok with
      | idle => simp
      | resting few some_ => simp [few, some_]
      | lowered few taken =>
        obtain rfl | ⟨rfl, some_⟩ := taken
        · simp [few]
        · simp [few, some_]
      | recovering => simp
      | held => simp
    obtain ⟨few, still, unreported, brief, rests, some_, waits, high⟩ := core
    exact ⟨few, still, unreported, brief, rests, some_, waits, high, fun runs => (timed runs).low, fun runs => (timed runs).recovers⟩

/-! ### The low (R71 to R76) -/

theorem Bridge.Ok.reachPulse (ok : b.Ok) {e : Nat} (low : b.lowTimer = some e) (awaits : b.awaitsPulse = true) : b.reachPulse.Ok := by
  cases ok with
  | idle =>
    cases low
    exact .lowered (Nat.zero_le _) (.inl rfl) e _
  | resting few =>
    cases low
    exact .lowered few (.inl rfl) e _
  | lowered _ taken =>
    rw [Bridge.awaitsPulse, beq_iff_eq] at awaits
    subst awaits
    simp at taken
  | recovering =>
    cases low
    exact .held (stage := .counted) nofun e _ _
  | held taken =>
    rw [Bridge.awaitsPulse, beq_iff_eq] at awaits
    exact absurd awaits taken

theorem Bridge.Ok.reachLong (ok : b.Ok) (awaits : b.awaitsLong = true) : b.reachLong.Ok := by
  rw [Bridge.awaitsLong, Bool.and_eq_true, beq_iff_eq, beq_iff_eq] at awaits
  obtain ⟨counted, train⟩ := awaits
  cases ok with
  | lowered few => exact .lowered few (.inr ⟨rfl, .inl rfl⟩) _ _
  | _ => simp at counted train

theorem State.reachStuck_ok (ok : s.bridge.Ok) (awaits : s.bridge.awaitsStuck = true) : s.reachStuck.bridge.Ok := by
  unfold State.reachStuck
  generalize s.bridge = b at *
  cases ok with
  | lowered _ _ e standing => exact .held (stage := .stuck) nofun e true standing
  | held _ e reported standing =>
    have taken : Bridge.Ok ⟨.recovering, 0, false, some e, .stuck, none, none, true, standing⟩ := .held (stage := .stuck) nofun e _ _
    cases reported
    · exact taken
    · exact taken
  | _ => simp [Bridge.awaitsStuck] at awaits

theorem Bridge.low_of_lowFor {n : Nat} (lowFor : b.lowFor n = true) : ∃ e, b.lowTimer = some e := by
  cases low : b.lowTimer with
  | none => simp [Bridge.lowFor, low] at lowFor
  | some e => exact ⟨e, rfl⟩

theorem State.takeLengths_ok (ok : s.bridge.Ok) : s.takeLengths.bridge.Ok := by
  have pulsed : (if s.bridge.lowFor Config.pulsePeriods && s.bridge.awaitsPulse then s.reachPulse else s).bridge.Ok := by
    split
    next reached =>
      rw [Bool.and_eq_true] at reached
      obtain ⟨e, low⟩ := Bridge.low_of_lowFor reached.1
      exact ok.reachPulse low reached.2
    · exact ok
  unfold State.takeLengths
  generalize (if s.bridge.lowFor Config.pulsePeriods && s.bridge.awaitsPulse then s.reachPulse else s) = u at *
  have lengthened : (if u.bridge.lowFor Config.longLowPeriods && u.bridge.awaitsLong then u.reachLong else u).bridge.Ok := by
    split
    next reached =>
      rw [Bool.and_eq_true] at reached
      exact pulsed.reachLong reached.2
    · exact pulsed
  dsimp only
  generalize (if u.bridge.lowFor Config.longLowPeriods && u.bridge.awaitsLong then u.reachLong else u) = v at *
  split
  next reached =>
    rw [Bool.and_eq_true] at reached
    exact State.reachStuck_ok lengthened reached.2
  · exact lengthened

theorem Bridge.Ok.rise (ok : b.Ok) : b.rise.Ok ∧ b.rise.Timed true := by
  cases ok with
  | idle low standing => exact ⟨.idle none standing, by simp [Bridge.rise], nofun⟩
  | resting few some_ low g standing => exact ⟨.resting few some_ none g standing, by simp [Bridge.rise], nofun⟩
  | @lowered n long stage few taken e standing =>
    obtain rfl | ⟨rfl, some_⟩ := taken
    · exact ⟨.resting (Nat.min_le_left 5 (n + 1)) (.inr (by omega)) none _ standing, by simp [Bridge.rise], nofun⟩
    · exact ⟨.resting few some_ none _ standing, by simp [Bridge.rise], nofun⟩
  | recovering low r reported standing =>
    cases r with
    | none => exact ⟨.recovering none _ reported standing, by simp [Bridge.rise], fun _ _ => rfl⟩
    | some r => exact ⟨.recovering none (some r) reported standing, by simp [Bridge.rise], fun _ _ => rfl⟩
  | @held stage taken e reported standing =>
    cases stage with
    | brief => exact absurd rfl taken
    | _ => exact ⟨.recovering none _ reported standing, by simp [Bridge.rise], fun _ _ => rfl⟩

theorem Bridge.Ok.fall (ok : b.Ok) (high : b.lowTimer = none) : b.fall.Ok ∧ b.fall.Timed false := by
  refine ⟨?_, by simp [Bridge.fall], nofun⟩
  cases ok with
  | idle low standing => exact .idle _ standing
  | resting few some_ low g standing => exact .resting few some_ _ g standing
  | lowered => cases high
  | recovering low r reported standing => exact .recovering _ r reported standing
  | held => cases high

end Decoder

end Sys2Proof.Machine

/-! SUPPORT. Whom the ship serves after a move of the session table (1, 9.3). -/

namespace Sys2Proof.Machine

/-- The record serves as it did, and is FREE where it was. -/
structure Session.Abides (x y : Session) : Prop where
  served : y.served = x.served
  live : y.live = x.live
  free : x.state = .free → y.state = .free

/-- `t` is `s` with a session closed, before the served count is reported. -/
structure State.Quits (s t : State) : Prop where
  books : t.Books
  queue : t.QueueLaw
  coverage : t.coverage = s.coverage
  allowed : t.radiationAllowed = s.radiationAllowed
  someone : ∃ h, (s.session h).served = true
  stays : ∀ h, (t.session h).served = true → (s.session h).served = true ∧ (t.session h).live = (s.session h).live

section Service

variable {s t u : State} {x y : Session}

theorem Session.Abides.refl (x : Session) : x.Abides x := ⟨rfl, rfl, id⟩

theorem Session.Stays.abides (stays : x.Stays y) : x.Abides y := ⟨stays.toFollows.served, stays.live, stays.toFollows.free.mpr⟩

theorem State.loadAgreement_stays (books : s.Books) (i : Nat) (new : Agreement) (h : Nat) :
    (s.session h).Stays ((s.loadAgreement i new).session h) := by
  rw [(State.rewrites_loadAgreement books.sessions (fun h => books.judged_reasons) i new).session]
  split
  · next judged => exact Session.judged_stays judged.1 _
  · exact .refl _

theorem State.writeAccount_stays (books : s.Books) (a : Nat) (new : Account) (h : Nat) :
    (s.session h).Stays ((s.writeAccount a new).session h) := by
  by_cases prepaid : new.kind = .prepaid
  · rw [State.writeAccount_of_prepaid _ _ prepaid, (State.rewrites_creditEffect (s := s.setAccount a new) books.sessions a new.value).session]
    split
    · next judged => exact Session.judged_stays judged.1 _
    · exact .refl _
  · rw [State.writeAccount_of_not_prepaid _ _ prepaid]
    exact .refl _

/-- A drop takes an owed session's record to FREE, and no other (R171). -/
theorem State.dropRecord_abides (books : s.Books) (queue : s.QueueLaw) (some_ : s.queue.records ≠ []) :
    s.dropRecord.1.coverage = s.coverage ∧ ∀ h, (s.session h).Abides (s.dropRecord.1.session h) := by
  obtain ⟨r, records, oldest⟩ := List.exists_cons_of_ne_nil some_
  obtain ⟨-, dropped⟩ | ⟨h, rest, owed, -, dropped⟩ := State.dropRecord_cases queue oldest
  · rw [dropped]
    exact ⟨rfl, fun h => .refl _⟩
  · obtain ⟨_, _, _, freed⟩ := ({ s with owed := rest } : State).becomeFree_frame h
    rw [dropped]
    refine ⟨by rw [State.slotGranted, freed], fun k => ?_⟩
    have session : (s.slotGranted h rest records).session k = if k = h then Session.free else s.session k :=
      State.becomeFree_session _ h k
    dsimp only
    rw [session]
    split
    · next here =>
      have closing : (s.session h).state = .closing := (books.owes h).mp (by simp [owed])
      rw [here]
      exact ⟨(Session.served_eq_false_iff.mpr (.inr closing)).symm, by simp [Session.live, Session.free, closing], fun _ => rfl⟩
    · exact .refl _

theorem State.Quits.of_close (books : s.Books) (queue : s.QueueLaw) {h : Nat} (served : (s.session h).served = true) (reason : CloseReason)
    (l : List (EventKind × Nat)) : s.Quits { s.closeSession h reason with router := (s.closeSession h reason).router.occurs l } := by
  have clears := State.Clears.closeSession books served reason
  obtain ⟨_, _, _, _, _, _, closed⟩ := s.closeSession_frame h reason
  refine ⟨clears.books.congr rfl rfl rfl rfl, clears.queue queue, s.closeSession_coverage h reason, ?_, ⟨h, served⟩, fun k serves => ?_⟩
  · rw [closed]
    rfl
  · change ((s.closeSession h reason).session k).served = true at serves
    change _ ∧ ((s.closeSession h reason).session k).live = _
    by_cases here : k = h
    · rw [here, State.closeSession_session_own] at serves
      cases serves
    · rw [State.closeSession_session_other here] at serves ⊢
      exact ⟨serves, rfl⟩

/-- A move of the session table leaves everyone served as before, closes someone, or admits a live session. -/
theorem State.SessionMove.service (move : s.SessionMove t) (books : s.Books) (queue : s.QueueLaw) :
    (t.coverage = s.coverage ∧ ∀ h, (s.session h).Abides (t.session h))
      ∨ (∃ u, s.Quits u ∧ t = u.reportServed)
      ∨ s.Admits ∧ t.coverage = { s.coverage with pacing := s.coverage.pacing - if s.coverage.state = .ramping then 1 else 0 }
        ∧ ∀ h, (t.session h).live = true ∨ t.session h = s.session h := by
  cases move with
  | billed w bills =>
    exact .inl ⟨bills.coverage, fun h => (bills.stays (books.congr rfl rfl rfl rfl) h).abides⟩
  | @closed w u bills h served reason l =>
    have stays : ∀ k, (s.session k).Stays (u.session k) := bills.stays (books.congr rfl rfl rfl rfl)
    obtain ⟨books', queue', coverage, allowed, -, stays'⟩ :=
      State.Quits.of_close (bills.books (books.congr rfl rfl rfl rfl)) (bills.queue queue) served reason l
    refine .inr (.inl ⟨_, ⟨books', queue', coverage.trans bills.coverage, allowed.trans ?_, ⟨h, ?_⟩, fun k serves => ?_⟩, rfl⟩)
    · rw [bills.frame]
      rfl
    · rw [← (stays h).toFollows.served, served]
    · obtain ⟨served', live⟩ := stays' k serves
      rw [(stays k).toFollows.served] at served'
      exact ⟨served', live.trans (stays k).live⟩
  | opened x c h account admits =>
    refine .inr (.inr ⟨admits, by rw [State.openSession_eq], fun k => ?_⟩)
    rw [State.openSession_session]
    split
    · exact .inl rfl
    · exact .inr rfl
  | dropped some_ => exact .inl (State.dropRecord_abides books queue some_)
  | marked => exact .inl ⟨rfl, fun h => .refl _⟩
  | emptied => exact .inl ⟨rfl, fun h => .refl _⟩
  | loaded i _ new =>
    refine .inl ⟨?_, fun h => (State.loadAgreement_stays books i new h).abides⟩
    rw [(State.rewrites_loadAgreement books.sessions (fun h => books.judged_reasons) i new).frame]
    rfl
  | written a _ new =>
    obtain ⟨_, _, framed⟩ := s.writeAccount_frame a new
    exact .inl ⟨by rw [framed]; rfl, fun h => (State.writeAccount_stays books a new h).abides⟩

end Service

end Sys2Proof.Machine

/-! PROOF. The supervisor and the bridge order decoder after a step: O60. -/

namespace Sys2Proof.Machine

/-! ### The decoder -/

section Decoder

variable {s t : State} {b : Bridge}

theorem Bridge.Ok.withStanding (ok : b.Ok) (standing : Standing) : ({ b with standing := standing } : Bridge).Ok := by
  cases ok with
  | idle low => exact .idle low standing
  | resting few some_ low g => exact .resting few some_ low g standing
  | lowered few taken e => exact .lowered few taken e standing
  | recovering low r reported => exact .recovering low r reported standing
  | held taken e reported => exact .held taken e reported standing

theorem State.BridgeLaw.congr (law : s.BridgeLaw) (bridge : t.bridge = s.bridge) (line : t.pins.bridgeHigh = s.pins.bridgeHigh)
    (runs : t.mainRuns = s.mainRuns) : t.BridgeLaw := by
  rw [State.bridgeLaw_iff] at law ⊢
  rw [bridge, line, runs]
  exact law

theorem State.LineMove.bridge (move : s.LineMove t) (ok : s.bridge.Ok) (timed : s.bridge.Timed s.pins.bridgeHigh) :
    t.bridge.Ok ∧ t.bridge.Timed t.pins.bridgeHigh := by
  have kept : ∀ {u : State}, u.bridge.Ok → u.bridge.lowTimer = s.bridge.lowTimer → u.pins.bridgeHigh = s.pins.bridgeHigh →
      s.bridge.lowTimer.isSome = true → u.bridge.Ok ∧ u.bridge.Timed u.pins.bridgeHigh := fun ok low line falls => by
    refine ⟨ok, by rw [low, line]; exact timed.low, fun _ none_ => ?_⟩
    rw [low] at none_
    rw [none_] at falls
    cases falls
  cases move with
  | pulsed e low awaits =>
    exact kept (u := s.reachPulse) (ok.reachPulse low awaits) Bridge.reachPulse_low rfl (by rw [low]; rfl)
  | long e low awaits => exact kept (u := s.reachLong) (ok.reachLong awaits) rfl rfl (by rw [low]; rfl)
  | stuck e low awaits =>
    have same : s.reachStuck.bridge.lowTimer = s.bridge.lowTimer ∧ s.reachStuck.pins.bridgeHigh = s.pins.bridgeHigh := by
      unfold State.reachStuck
      dsimp only
      repeat' split
      all_goals exact ⟨rfl, rfl⟩
    exact kept (State.reachStuck_ok ok awaits) same.1 same.2 (by rw [low]; rfl)
  | fell high =>
    refine ok.fall ?_
    rw [← Option.not_isSome_iff_eq_none, timed.low, high]
    nofun
  | rose low =>
    obtain ⟨_, _, taken⟩ := ({ s with pins := { s.pins with bridgeHigh := true } } : State).endLow_frame
    have line : ({ s with pins := { s.pins with bridgeHigh := true } } : State).endLow.pins.bridgeHigh = true := by rw [taken]
    rw [line]
    exact (State.takeLengths_ok (s := { s with pins := { s.pins with bridgeHigh := true } }) ok).rise
  | recovered r =>
    dsimp only
    generalize s.bridge = c at ok timed r
    generalize s.pins.bridgeHigh = high at timed
    cases ok with
    | recovering low r reported standing => exact ⟨.idle low standing, timed.low, nofun⟩
    | _ => cases r

theorem Bridge.Ok.endTrain (ok : b.Ok) (gapped : b.gapTimer.isSome = true) :
    ({ b with state := .idle, pulseCount := 0, longLow := false, gapTimer := none } : Bridge).Ok := by
  cases ok with
  | resting few some_ low g standing => exact .idle low standing
  | _ => cases gapped

/-- A train that ends leaves the decoder idle, with the standing orders of the order it gives (R74). -/
theorem State.endTrain_frame (s : State) : ∃ standing, s.endTrain = { s with
    bridge := { s.trainEnded.bridge with standing := standing }, coverage := s.endTrain.coverage, sessions := s.endTrain.sessions
    owed := s.endTrain.owed, accounts := s.endTrain.accounts, agreements := s.endTrain.agreements, queue := s.endTrain.queue
    links := s.endTrain.links, selector := s.endTrain.selector, router := s.endTrain.router } := by
  obtain same | ⟨d, same⟩ | ⟨order, -, same⟩ := s.trainEnded_cases
  · exact ⟨s.bridge.standing, by rw [same]; rfl⟩
  · exact ⟨s.bridge.standing, by rw [same]; rfl⟩
  · obtain ⟨_, _, _, _, _, _, _, _, _, framed⟩ := s.trainEnded.takeOrder_frame order
    refine ⟨s.trainEnded.bridge.standing.after order, ?_⟩
    rw [same, framed]
    rfl

theorem State.Move.bridgeLaw (move : s.Move t) (runs : s.mainRuns = true) (law : s.BridgeLaw) : t.BridgeLaw := by
  obtain ⟨ok, line⟩ := State.bridgeLaw_iff.mp law
  have timed := line runs
  have main := move.supervised.mainRuns
  cases move with
  | port move => exact law.congr (by rw [move.frame]) (by rw [move.frame]) main
  | session move => exact law.congr (by rw [move.frame]) (by rw [move.frame]) main
  | coverage move => exact law.congr (by rw [move.frame]) (by rw [move.frame]) main
  | link move => exact law.congr (by rw [move.frame]) (by rw [move.frame]) main
  | figure move => exact law.congr (by rw [move.frame]) (by rw [move.frame]) main
  | clock move => exact law.congr (by rw [move.frame]) (by rw [move.frame]) main
  | line move =>
    obtain ⟨ok', timed'⟩ := move.bridge ok timed
    exact State.bridgeLaw_iff.mpr ⟨ok', fun _ => timed'⟩
  | train gapped move =>
    obtain ⟨standing, framed⟩ := s.endTrain_frame
    rw [move, framed]
    exact State.bridgeLaw_iff.mpr ⟨(ok.endTrain gapped).withStanding standing, fun _ => ⟨timed.low, nofun⟩⟩

/-- Where the main domain does not run only the decoder counts. -/
theorem State.BridgeLaw.of_stopped (ok : t.bridge.Ok) (stops : t.mainRuns = false) : t.BridgeLaw :=
  State.bridgeLaw_iff.mpr ⟨ok, fun runs => by rw [stops] at runs; cases runs⟩

theorem Bridge.start_ok : Bridge.start.Ok := .recovering none none false _

theorem Bridge.atStart_ok (high : Bool) : (Bridge.start.atStart high).Ok ∧ (Bridge.start.atStart high).Timed high := by
  cases high with
  | true => exact ⟨.recovering none _ false _, by decide, fun _ _ => rfl⟩
  | false => exact ⟨.recovering _ none false _, by decide, nofun⟩

theorem State.flush_keeps (s : State) : s.flush.bridge = s.bridge ∧ s.flush.pins = s.pins ∧ s.flush.power = s.flushing.power
    ∧ s.flush.backupValid = s.backupValid := by
  obtain ⟨_, _, _, _, _, _, _, ended⟩ := s.flushing.endOfService_frame
  obtain ⟨_, _, _, emptied⟩ := s.flushing.endOfService.emptyTable_frame
  obtain ⟨_, _, added⟩ := s.flushing.endOfService.emptyTable.contribute_frame (s.flushing.endOfService.sessions.count Session.notFree)
    s.flushing.endOfService.openCharges
  rw [State.flush_eq, added, emptied, ended]
  exact ⟨rfl, rfl, rfl, rfl⟩

theorem State.PowerMove.bridgeLaw (move : s.PowerMove t) (power : s.PowerLaw) (law : s.BridgeLaw) : t.BridgeLaw := by
  obtain ⟨ok, line⟩ := State.bridgeLaw_iff.mp law
  have begun : ∀ (u : State) kind, (u.beginStart kind).BridgeLaw := fun u kind => by
    cases kind <;> exact .of_stopped Bridge.start_ok rfl
  cases move with
  | second stops n =>
    obtain ⟨c, i, same⟩ := State.elapse_takeSecond_stopped stops n
    rw [same]
    exact law.congr rfl rfl rfl
  | bridgeLine stops => exact .of_stopped ok stops
  | started => exact begun _ _
  | held => exact .of_stopped ok rfl
  | lost => exact .of_stopped Bridge.start_ok rfl
  | resetLow => exact law.congr rfl rfl rfl
  | reset => exact .of_stopped ok rfl
  | resetHigh => exact law.congr rfl rfl rfl
  | released => exact begun _ _
  | warned => exact law.congr rfl rfl rfl
  | flushed running =>
    obtain ⟨bridge, pins, power', -⟩ := ({ s with pins := { s.pins with warning := true } } : State).flush_keeps
    refine law.congr bridge (by rw [pins]) ?_
    rw [State.mainRuns_of_running running, State.mainRuns, power']
    rfl
  | calmed => exact law.congr rfl rfl rfl
  | resumed => exact begun _ _
  | forgotten => exact law.congr rfl rfl rfl
  | initialized initializing =>
    obtain ⟨-, -, -, -, -, -, -, start, -⟩ := power
    obtain ⟨-, -, -, bridge, -⟩ := start (.inr initializing)
    obtain ⟨ok', timed'⟩ := Bridge.atStart_ok s.pins.bridgeHigh
    rw [State.endInitialization]
    dsimp only
    rw [bridge, State.latchStart_eq]
    split
    · obtain ⟨kept, pins, -⟩ := State.flush_keeps _
      rw [State.bridgeLaw_iff, kept, pins]
      exact ⟨ok', fun _ => timed'⟩
    · exact State.bridgeLaw_iff.mpr ⟨ok', fun _ => timed'⟩

end Decoder

end Sys2Proof.Machine

/-! PROOF. The supervisor after a step (10): O60. -/

namespace Sys2Proof.Machine

/-! ### The flush keeps the session table empty (R27) -/

section Flushed

variable {s t : State}

/-- In FLUSHED nobody holds a record, coverage is SILENT and radiation is not allowed. -/
structure State.Emptied (s : State) : Prop where
  free : ∀ h, (s.session h).state = .free
  silent : s.coverage.state = .silent
  flushing : s.power.flushing = true

theorem State.Lawful.emptied (law : s.Lawful) (flushed : s.power.supervisor = .flushed) : s.Emptied := by
  obtain ⟨⟨flushing, -, -, -, -, -, -, -, empty⟩, -, -, -, -, -, -, -, ⟨-, -, -, -, -, -, -, -, silent⟩, -⟩ := law
  refine ⟨fun h => ?_, silent flushed, flushing flushed⟩
  rw [State.session, (empty flushed).1]
  rfl

theorem State.radiationAllowed_of_flushing (flushing : s.power.flushing = true) : s.radiationAllowed = false := by
  simp [State.radiationAllowed, flushing]

theorem State.judgeCoverage_still {was : Bool} (same : s.radiationAllowed = was) (grace : Nat) : s.judgeCoverage was grace = s := if_pos same

theorem State.Emptied.unserved (empty : s.Emptied) (h : Nat) : (s.session h).served = false :=
  Session.served_eq_false_iff.mpr (.inl (empty.free h))

theorem State.Emptied.of_sessions (empty : s.Emptied) (same : t.sessions = s.sessions) (h : Nat) : (t.session h).state = .free := by
  rw [State.session, same]
  exact empty.free h

theorem State.Emptied.qualifyZone (empty : s.Emptied) (canonical : s.sessions.wf Session.free Config.sessionCount = true) (z h : Nat) :
    ((s.qualifyZone z).session h).state = .free := by
  have before := State.radiationAllowed_of_flushing empty.flushing
  have told : (s.zoneTold z).radiationAllowed = false := by
    rw [State.zoneTold_radiationAllowed]
    exact State.radiationAllowed_of_flushing (s := s.zoned z) empty.flushing
  have zone : s.zoneSession z h = s.session h := if_neg (by simp [empty.unserved h])
  rw [(s.qualifyZone_keepsService z).session, State.zoneCovered, State.judgeCoverage_still (by rw [told, before]),
    State.zoneTold_session canonical, zone, if_neg (by simp [State.zoneWithdraws, before])]
  exact empty.free h

theorem State.Emptied.takeOrder (empty : s.Emptied) (order : Nat) : (s.takeOrder order).sessions = s.sessions := by
  have before := State.radiationAllowed_of_flushing empty.flushing
  have after : (s.ordered order).radiationAllowed = false := State.radiationAllowed_of_flushing empty.flushing
  rw [State.takeOrder_eq, (State.readers_keepsService _ _).sessions]
  unfold State.coverageReads
  split
  · have silent : (s.ordered order).coverage.state = .silent := empty.silent
    rw [State.endOfService, silent]
    rfl
  · rw [State.judgeCoverage_still (by rw [after, before])]
    rfl

theorem State.CoverageMove.keepsFree (move : s.CoverageMove t) (empty : s.Emptied)
    (canonical : s.sessions.wf Session.free Config.sessionCount = true) (h : Nat) : (t.session h).state = .free := by
  have before := State.radiationAllowed_of_flushing empty.flushing
  have silent := empty.silent
  cases move with
  | zoneLoaded z inside r =>
    by_cases current : s.coverage.zone = some z
    · have after : ({ s with zones := s.zones.set ZoneRecord.unloaded z r } : State).radiationAllowed = false :=
        State.radiationAllowed_of_flushing empty.flushing
      rw [State.loadZone_current current, State.judgeCoverage_still (by rw [after, before])]
      have sent := State.sendComponent_keepsService { s with zones := s.zones.set ZoneRecord.unloaded z r } .zoneClass
        fun c => { c with zoneClass := r.tariffClass }
      exact empty.of_sessions sent.sessions h
    · rw [State.loadZone, if_neg current]
      exact empty.free h
  | aimed => exact empty.free h
  | qualified f timed z =>
    have fixed : ({ s with coverage := { s.coverage with fixTimer := f } } : State).Emptied := ⟨empty.free, empty.silent, empty.flushing⟩
    exact fixed.qualifyZone canonical z h
  | fixLost =>
    refine empty.of_sessions ?_ h
    rw [s.loseFix_keepsService.sessions, State.fixCovered, State.judgeCoverage_still (by rw [before, State.unfixed_radiationAllowed])]
    rfl
  | restored state => simp [silent] at state
  | ramped state => simp [silent] at state
  | withdrawn state => simp [silent] at state

theorem State.SessionMove.keepsFree (move : s.SessionMove t) (empty : s.Emptied) (books : s.Books) (queue : s.QueueLaw) (h : Nat) :
    (t.session h).state = .free := by
  obtain ⟨-, abides⟩ | ⟨u, ⟨-, -, -, -, ⟨k, served⟩, -⟩, -⟩ | ⟨admits, -⟩ := move.service books queue
  · exact (abides h).free (empty.free h)
  · rw [empty.unserved] at served
    cases served
  · simp [State.Admits, empty.silent] at admits

theorem State.Move.emptied (move : s.Move t) (empty : s.Emptied) (purse : s.Purse) : t.sessions = Table.empty ∧ t.owed = [] := by
  have free : ∀ h, (t.session h).state = .free := fun h => by
    cases move with
    | session move => exact move.keepsFree empty purse.books purse.queue h
    | coverage move => exact move.keepsFree empty purse.books.sessions h
    | train _ move =>
      have ended : s.trainEnded.Emptied := ⟨empty.free, empty.silent, empty.flushing⟩
      rw [move]
      obtain same | ⟨d, same⟩ | ⟨order, -, same⟩ := s.trainEnded_cases
      · rw [same]
        exact empty.free h
      · rw [same]
        exact empty.free h
      · rw [same]
        exact ended.of_sessions (ended.takeOrder order) h
    | port move => rw [move.frame]; exact empty.free h
    | line move => rw [move.frame]; exact empty.free h
    | link move => rw [move.frame]; exact empty.free h
    | figure move => rw [move.frame]; exact empty.free h
    | clock move => rw [move.frame]; exact empty.free h
  have books := (move.purse purse).books
  refine ⟨Table.eq_empty books.sessions fun h => (books.ok h).eq_free (free h), List.eq_nil_iff_forall_not_mem.mpr fun h owed => ?_⟩
  rw [books.owes, free h] at owed
  cases owed

end Flushed

/-! ### The supervisor -/

section Supervisor

variable {s t : State}

theorem State.Move.powerLaw (move : s.Move t) (runs : s.mainRuns = true) (law : s.Lawful) : t.PowerLaw := by
  have main := move.supervised.mainRuns
  obtain ⟨power, high, warning, valid⟩ := move.supervised
  have empty : t.power.supervisor = .flushed → t.sessions = Table.empty ∧ t.owed = [] := fun flushed =>
    move.emptied (law.emptied (power ▸ flushed)) law.purse
  obtain ⟨⟨a, b, c, d, e, f, g, -, -⟩, -⟩ := law
  rw [State.PowerLaw, main, power, high, warning, valid]
  refine ⟨a, b, c, d, e, f, g, fun stopped => ?_, power ▸ empty⟩
  obtain off | initializing := stopped
  · simp [State.mainRuns, off] at runs
  · simp [State.mainRuns, initializing] at runs

/-- A start holds the start values (R177). -/
theorem State.startValues_powerLaw (s : State) (stopped : s.power.supervisor = .off ∨ s.power.supervisor = .initializing)
    (calm : s.power.flushing = false) (high : s.power.supervisor = .initializing → s.pins.resetHigh = true) : s.startValues.PowerLaw := by
  have stops : s.startValues.mainRuns = false := by
    obtain off | initializing := stopped
    · simp [State.startValues, State.mainRuns, off]
    · simp [State.startValues, State.mainRuns, initializing]
  have down : ∀ i, (s.startValues.link i).state = .down := fun i => by rw [State.startValues_link]; rfl
  have power : s.startValues.power = s.power := rfl
  have pins : s.startValues.pins = s.pins := rfl
  rw [State.PowerLaw, stops, power, pins, calm]
  refine ⟨?_, nofun, ?_, ?_, ?_, ?_, nofun, fun _ => ⟨rfl, rfl, rfl, rfl, rfl, down⟩, ?_⟩
  · obtain off | initializing := stopped <;> simp [*]
  · obtain off | initializing := stopped <;> simp [*]
  · obtain off | initializing := stopped <;> simp [*]
  · obtain off | initializing := stopped <;> simp [*]
  · obtain off | initializing := stopped <;> simp [*]
  · obtain off | initializing := stopped <;> simp [*]

theorem State.beginStart_powerLaw (s : State) (kind : StartKind) (high : s.pins.resetHigh = true) : (s.beginStart kind).PowerLaw := by
  cases kind with
  | cold => exact State.startValues_powerLaw _ (.inr rfl) rfl fun _ => high
  | warm => exact State.startValues_powerLaw _ (.inr rfl) rfl fun _ => high

/-- FLUSHED after a flush. -/
theorem State.flush_powerLaw (books : s.Books) (queue : s.QueueLaw) (high : s.pins.resetHigh = true) (warning : s.pins.warning = true)
    (valid : s.backupValid = true) : s.flush.PowerLaw := by
  obtain ⟨-, sessions, owed, -⟩ := State.Flushed.of_books books queue
  obtain ⟨-, pins, power, backup⟩ := s.flush_keeps
  have flushed : s.flush.power.supervisor = .flushed := by rw [power]; rfl
  have flushing : s.flush.power.flushing = true := by rw [power]; rfl
  rw [State.PowerLaw, flushed, flushing, pins, high, warning, backup, valid]
  exact ⟨fun _ => rfl, fun _ => .inl rfl, fun _ => rfl, nofun, nofun, fun _ => rfl, fun _ => rfl, fun stopped => by simp at stopped,
    fun _ => ⟨sessions, owed⟩⟩

theorem State.PowerMove.powerLaw (move : s.PowerMove t) (law : s.Lawful) : t.PowerLaw := by
  obtain ⟨books, queue, -⟩ := law.purse
  obtain ⟨power, -⟩ := law
  have whole := power
  obtain ⟨flushing, flushes, high, low, calm, warns, valid, stopped, empty⟩ := power
  cases move with
  | second stops n =>
    obtain ⟨c, i, same⟩ := State.elapse_takeSecond_stopped stops n
    rw [same]
    exact whole
  | bridgeLine => exact whole
  | started off line => exact State.beginStart_powerLaw s _ line
  | held off line =>
    have unflushed : s.power.flushing = false := by
      rw [Bool.eq_false_iff]
      intro flushed
      obtain state | state := flushes flushed <;> simp [off] at state
    exact ⟨nofun, fun _ => .inr rfl, by simp [State.mainRuns], fun _ => line, nofun, nofun, nofun, by simp, nofun⟩
  | lost => exact State.startValues_powerLaw _ (.inl rfl) rfl nofun
  | resetLow idle =>
    refine ⟨flushing, flushes, fun awake => ?_, fun _ => rfl, calm, warns, valid, stopped, empty⟩
    obtain off | reset := idle <;> simp [State.mainRuns, *] at awake
  | reset awake =>
    exact ⟨nofun, fun _ => .inr rfl, by simp [State.enterReset, State.mainRuns], fun _ => rfl, nofun, nofun, nofun, by simp [State.enterReset], nofun⟩
  | resetHigh other => exact ⟨flushing, flushes, fun _ => rfl, fun reset => absurd reset other, calm, warns, valid, stopped, empty⟩
  | released => exact State.beginStart_powerLaw _ _ rfl
  | warned other => exact ⟨flushing, flushes, high, low, fun running => absurd running other, fun _ => rfl, valid, stopped, empty⟩
  | flushed running =>
    have runs := State.mainRuns_of_running running
    exact State.flush_powerLaw (books.congr rfl rfl rfl rfl) queue (high (.inr runs)) rfl (valid runs)
  | calmed other => exact ⟨flushing, flushes, high, low, fun _ => rfl, fun flushed => absurd flushed other, valid, stopped, empty⟩
  | resumed flushed =>
    have runs : s.mainRuns = true := by simp [State.mainRuns, flushed]
    exact State.beginStart_powerLaw _ _ (high (.inr runs))
  | forgotten off => exact ⟨flushing, flushes, high, low, calm, warns, by simp [State.coldBackup, State.mainRuns, off], stopped, empty⟩
  | initialized initializing =>
    have line := high (.inl initializing)
    have unflushed : s.power.flushing = false := by
      rw [Bool.eq_false_iff]
      intro flushed
      obtain state | state := flushes flushed <;> simp [initializing] at state
    rw [State.endInitialization]
    dsimp only
    rw [State.latchStart_eq]
    dsimp only
    split
    · next warned => exact State.flush_powerLaw (books.congr rfl rfl rfl rfl) queue line warned rfl
    · next calm =>
      refine ⟨nofun, fun flushed => ?_, fun _ => line, nofun, fun _ => by simpa using calm, nofun, fun _ => rfl, by simp, nofun⟩
      rw [unflushed] at flushed
      cases flushed

/-- Settles O60. -/
theorem stepKeepsPowerAndBridge : Obligations.StepKeepsPowerAndBridge := by
  have bridge : ∀ {s : State}, s.Lawful → s.BridgeLaw := fun law => by
    obtain ⟨-, -, -, -, -, -, -, -, -, -, -, -, bridge, -⟩ := law
    exact bridge
  refine step_keeps (P := fun t => t.PowerLaw ∧ t.BridgeLaw) (fun s law => ⟨law.1, bridge law⟩) (fun s p b f kept => kept)
    (fun s t law runs move => ⟨move.powerLaw runs law, move.bridgeLaw runs (bridge law)⟩)
    (fun s t law move => ⟨move.powerLaw law, move.bridgeLaw law.1 (bridge law)⟩)

end Supervisor

end Sys2Proof.Machine

/-! SUPPORT. Coverage and service together, through a judgement of the radiation condition and the end of a withdrawal (3.4, 3.5). -/

namespace Sys2Proof.Machine

/-- The coverage fields each in its state: the permit of a running part, the timers, the pacing count and the grace (R59 to R66). -/
structure Coverage.Ordered (c : Coverage) : Prop where
  permit : c.permit = c.state.permits
  restore : c.restoreTimer.isSome = true ↔ c.state = .qualifying
  ramp : c.rampTimer.isSome = true ↔ c.state = .ramping
  grace : c.graceTimer.isSome = true ↔ c.state = .withdrawing
  pacing : c.state ≠ .ramping → c.pacing = 0
  inForce : c.state ≠ .withdrawing → c.graceInForce = 0

/-- The coverage fields in order, and the service each coverage state gives (R20, R21, R59, R64). -/
structure State.Serving (s : State) : Prop where
  ordered : s.coverage.Ordered
  nobody : s.coverage.state = .silent ∨ s.coverage.state = .qualifying → ∀ h, (s.session h).served = false
  steady : s.coverage.state.inService = true → ∀ h, (s.session h).served = true → (s.session h).live = true
  drains : s.coverage.state = .withdrawing → ∀ h, (s.session h).live = false
  someone : s.coverage.state = .withdrawing → ∃ h, (s.session h).served = true

/-- The coverage state agrees with whether radiation is allowed (R58 to R60). -/
structure CoverageState.Agrees (state : CoverageState) (allowed : Bool) : Prop where
  silent : state = .silent → allowed = false
  radiates : state = .qualifying ∨ state.inService = true → allowed = true

/-- Coverage and service in order, and radiation as it is allowed. -/
structure State.Attended (s : State) : Prop extends s.Serving where
  agrees : s.coverage.state.Agrees s.radiationAllowed

section Fields

variable {c e : Coverage} {p : Params} {grace : Nat}

theorem Coverage.Ordered.of_fields (ordered : c.Ordered)
    (fields : e = { c with zone := e.zone, lastZone := e.lastZone, candidate := e.candidate, fixTimer := e.fixTimer }) : e.Ordered := by
  obtain ⟨permit, restore, ramp, graced, pacing, inForce⟩ := ordered
  rw [fields]
  exact ⟨permit, restore, ramp, graced, pacing, inForce⟩

theorem Coverage.stopped_ordered (c : Coverage) : c.stopped.Ordered :=
  ⟨rfl, by simp [Coverage.stopped], by simp [Coverage.stopped], by simp [Coverage.stopped], fun _ => rfl, fun _ => rfl⟩

theorem Coverage.withdrawn_ordered (ordered : c.Ordered) (serves : c.state.inService = true) (grace : Nat) : (c.withdrawn grace).Ordered := by
  obtain ⟨-, restore, -, -, -, -⟩ := ordered
  refine ⟨rfl, ?_, by simp [Coverage.withdrawn], by simp [Coverage.withdrawn], fun _ => rfl, fun other => absurd rfl other⟩
  change c.restoreTimer.isSome = true ↔ _
  rw [restore]
  cases state : c.state <;> simp [Coverage.withdrawn, CoverageState.inService, state] at serves ⊢

theorem Coverage.qualified_ordered (ordered : c.Ordered) (silent : c.state = .silent) (p : Params) : (c.qualified p).1.Ordered := by
  obtain ⟨-, restore, ramp, graced, pacing, inForce⟩ := ordered
  rw [silent] at restore ramp graced pacing inForce
  have quiet := pacing nofun
  have unforced := inForce nofun
  simp only [reduceCtorEq, iff_false, Bool.not_eq_true, Option.isSome_eq_false_iff, Option.isNone_iff_eq_none] at restore ramp graced
  unfold Coverage.qualified
  split
  · exact ⟨rfl, by simp, by simp [ramp], by simp [graced], fun _ => quiet, fun _ => unforced⟩
  · split
    · exact ⟨rfl, by simp, by simp, by simp [graced], fun other => absurd rfl other, fun _ => unforced⟩
    · exact ⟨rfl, by simp, by simp, by simp [graced], fun _ => rfl, fun _ => unforced⟩

theorem Coverage.qualified_state (c : Coverage) (p : Params) :
    (c.qualified p).1.state = .qualifying ∨ (c.qualified p).1.state.inService = true := by
  unfold Coverage.qualified
  split
  · exact .inl rfl
  · split <;> exact .inr rfl

end Fields

section Serving

variable {s t u v : State} {was : Bool} {grace : Nat}

/-- With nobody served, coverage in any state but WITHDRAWING is in order. -/
theorem State.Serving.of_nobody (ordered : t.coverage.Ordered) (unserved : ∀ h, (t.session h).served = false)
    (other : t.coverage.state ≠ .withdrawing) : t.Serving :=
  ⟨ordered, fun _ => unserved, fun _ h served => absurd served (by simp [unserved]), fun state => absurd state other,
    fun state => absurd state other⟩

theorem State.Serving.congr (serving : s.Serving) (ordered : t.coverage.Ordered) (state : t.coverage.state = s.coverage.state)
    (served : ∀ h, (t.session h).served = (s.session h).served) (live : ∀ h, (t.session h).live = (s.session h).live) : t.Serving := by
  obtain ⟨-, nobody, steady, drains, someone⟩ := serving
  refine ⟨ordered, ?_, ?_, ?_, ?_⟩ <;> simp only [state, served, live]
  · exact nobody
  · exact steady
  · exact drains
  · exact someone

theorem State.Attended.congr (attended : s.Attended) (ordered : t.coverage.Ordered) (state : t.coverage.state = s.coverage.state)
    (served : ∀ h, (t.session h).served = (s.session h).served) (live : ∀ h, (t.session h).live = (s.session h).live)
    (allowed : t.radiationAllowed = s.radiationAllowed) : t.Attended := by
  refine ⟨attended.toServing.congr ordered state served live, ?_⟩
  rw [state, allowed]
  exact attended.agrees

theorem State.Attended.of_same (attended : s.Attended) (coverage : t.coverage = s.coverage) (sessions : t.sessions = s.sessions)
    (allowed : t.radiationAllowed = s.radiationAllowed) : t.Attended := by
  have session : ∀ h, t.session h = s.session h := fun h => by simp only [State.session, sessions]
  exact attended.congr (coverage ▸ attended.ordered) (by rw [coverage]) (fun h => by rw [session]) (fun h => by rw [session]) allowed

theorem State.Attended.of_keeps (attended : s.Attended) (keeps : s.KeepsService t) (allowed : t.radiationAllowed = s.radiationAllowed) :
    t.Attended := attended.of_same keeps.coverage keeps.sessions allowed

theorem State.Qualifies.attended (qualifies : v.Qualifies t) (serving : v.Serving) (silent : v.coverage.state = .silent)
    (unserved : ∀ h, (t.session h).served = false) (allowed : t.radiationAllowed = true) : t.Attended := by
  have fields : t.coverage = { (v.coverage.qualified v.params).1 with
      zone := t.coverage.zone, lastZone := t.coverage.lastZone, candidate := t.coverage.candidate, fixTimer := t.coverage.fixTimer } := by
    obtain ⟨waits, ramps, radiates⟩ := qualifies
    unfold Coverage.qualified
    split
    · next delay => exact (waits delay).1
    · next delay =>
      split
      · next ramp => exact (ramps (not_not.mp delay) ramp).1
      · next ramp => exact (radiates (not_not.mp delay) (not_not.mp ramp)).1
  have state : t.coverage.state = (v.coverage.qualified v.params).1.state := by rw [fields]
  have entered := v.coverage.qualified_state v.params
  rw [← state] at entered
  have other : t.coverage.state ≠ .withdrawing ∧ t.coverage.state ≠ .silent := by
    obtain enters | enters := entered
    · simp [enters]
    · cases now : t.coverage.state <;> simp [CoverageState.inService, now] at enters ⊢
  exact ⟨.of_nobody ((Coverage.qualified_ordered serving.ordered silent _).of_fields fields) unserved other.1,
    fun now => absurd now other.2, fun _ => allowed⟩

theorem State.Attended.stopped {n : Nat} (is : v.CoverageIs t n v.coverage.stopped) (unserved : ∀ h, (t.session h).served = false)
    (allowed : t.radiationAllowed = false) : t.Attended := by
  obtain ⟨fields, -⟩ := is
  have state : t.coverage.state = .silent := by rw [fields]; rfl
  exact ⟨.of_nobody (v.coverage.stopped_ordered.of_fields fields) unserved (by simp [state]), fun _ => allowed,
    fun radiates => by simp [state, CoverageState.inService] at radiates⟩

/-- A judgement of the radiation condition leaves coverage and service in order (R58 to R64). -/
theorem State.CoverageJudged.attended (judged : v.CoverageJudged t was t.radiationAllowed grace) (serving : v.Serving)
    (canonical : v.sessions.wf Session.free Config.sessionCount = true) (agrees : v.coverage.state.Agrees was) : t.Attended := by
  obtain ⟨still, gains, loses⟩ := judged
  have kept : v.KeepsTable t → ∀ h, t.session h = v.session h := fun keeps h => by simp only [State.session, keeps.1]
  have stays : v.CoverageIs t 0 v.coverage → v.KeepsTable t → v.coverage.state.Agrees t.radiationAllowed → t.Attended :=
    fun is keeps agrees => by
      have state : t.coverage.state = v.coverage.state := by rw [is.1]
      exact ⟨serving.congr (serving.ordered.of_fields is.1) state (fun h => by rw [kept keeps]) (fun h => by rw [kept keeps]),
        state ▸ agrees⟩
  cases now : t.radiationAllowed with
  | true =>
    cases was with
    | true =>
      obtain ⟨is, keeps⟩ := still now.symm
      exact stays is keeps (now ▸ agrees)
    | false =>
      obtain ⟨keeps, enters, other⟩ := gains rfl now
      by_cases silent : v.coverage.state = .silent
      · exact (enters silent).attended serving silent (fun h => by rw [kept keeps]; exact serving.nobody (.inl silent) h) now
      · exact stays (other silent) keeps ⟨fun state => absurd state silent, fun _ => now⟩
  | false =>
    cases was with
    | false =>
      obtain ⟨is, keeps⟩ := still now.symm
      exact stays is keeps (now ▸ agrees)
    | true =>
      obtain ⟨same, stops, withdraws⟩ := loses rfl now
      cases state : v.coverage.state with
      | silent =>
        have wrong := agrees.silent state
        cases wrong
      | qualifying =>
        obtain ⟨is, keeps⟩ := stops state
        exact .stopped is (fun h => by rw [kept keeps]; exact serving.nobody (.inr state) h) now
      | withdrawing =>
        obtain ⟨is, keeps⟩ := same (.inr state)
        exact stays is keeps ⟨fun _ => now, fun radiates => by simp [state, CoverageState.inService] at radiates⟩
      | _ =>
        obtain ⟨begins, ends⟩ := withdraws (by simp [state])
        have serves : v.coverage.state.inService = true := by rw [state]; rfl
        by_cases short : grace = 0 ∨ v.servedHandles = []
        · obtain ⟨is, closed⟩ := ends short
          exact .stopped is (closed.unserved canonical) now
        · obtain ⟨long, some_⟩ := not_or.mp short
          obtain ⟨⟨fields, -⟩, session, -⟩ := begins long some_
          have withdrawing : t.coverage.state = .withdrawing := by rw [fields]
          obtain ⟨h, listed⟩ := List.exists_mem_of_ne_nil _ some_
          have served := (State.mem_servedHandles canonical).mp listed
          refine ⟨⟨((Coverage.withdrawn_ordered serving.ordered serves grace).of_fields fields), fun idle => ?_, fun active => ?_,
            fun _ k => ?_, fun _ => ⟨h, ?_⟩⟩, fun idle => ?_, fun radiates => ?_⟩
          · simp [withdrawing] at idle
          · simp [withdrawing, CoverageState.inService] at active
          · rw [session]
            split
            · rfl
            · next unserved => exact Session.live_eq_false_of_unserved (by simpa using unserved)
          · rw [session, if_pos served]
            rfl
          · simp [withdrawing] at idle
          · simp [withdrawing, CoverageState.inService] at radiates

theorem State.Serving.judgeCoverage (serving : v.Serving) (canonical : v.sessions.wf Session.free Config.sessionCount = true)
    (occupied : v.queue.records.length ≤ v.queue.mark) (agrees : v.coverage.state.Agrees was) (grace : Nat) :
    (v.judgeCoverage was grace).Attended := by
  have judged := (State.Prepares.refl canonical occupied).judged was (.inl rfl) grace
  have allowed : (v.judgeCoverage was grace).radiationAllowed = v.radiationAllowed := by
    refine State.radiationAllowed_congr (congrArg Prod.fst (State.judgeCoverage_zones _ _ _)) ?_ ?_ ?_
    all_goals
      obtain ⟨_, _, _, _, _, _, _, framed⟩ := v.judgeCoverage_frame was grace
      rw [framed]
  rw [← allowed] at judged
  exact judged.attended serving canonical agrees

/-- The end of a withdrawal leaves coverage and service in order (R59, R64). -/
theorem State.endWithdrawal_attended (canonical : u.sessions.wf Session.free Config.sessionCount = true)
    (occupied : u.queue.records.length ≤ u.queue.mark) (drains : ∀ h, (u.session h).live = false) : u.endWithdrawal.Attended := by
  have ready : u.Readied u := .of_drained fun h served => Session.draining_of_not_live (drains h) served
  have unserved := (ready.silent canonical canonical occupied).unserved canonical
  have state : u.silent.coverage.state = .silent := by rw [State.silent_coverage]; rfl
  have ordered : u.silent.coverage.Ordered := by rw [State.silent_coverage]; exact u.coverage.stopped_ordered
  have silent : u.silent.Serving := .of_nobody ordered unserved (by simp [state])
  rw [State.endWithdrawal_eq]
  split
  · next allowed =>
    have session : ∀ h, u.silent.enterQualifying.session h = u.silent.session h := fun h => by rw [State.enterQualifying_eq]; rfl
    refine (State.qualifies_enterQualifying u.silent).attended silent state (fun h => by rw [session]; exact unserved h) ?_
    rw [← allowed, ← u.silent_radiationAllowed]
    obtain ⟨_, _, framed⟩ := u.silent.enterQualifying_frame
    refine State.radiationAllowed_congr ?_ (by rw [framed]) (by rw [framed]) (by rw [framed])
    rw [State.enterQualifying_eq]
    exact congrArg Prod.fst (Coverage.qualified_zones _ _)
  · next lost =>
    refine ⟨silent, fun _ => ?_, fun radiates => by simp [state, CoverageState.inService] at radiates⟩
    rw [State.silent_radiationAllowed]
    simpa using lost

end Serving

end Sys2Proof.Machine

/-! SUPPORT. Coverage and service over the moves of a running main domain (1, 3, 4.3). -/

namespace Sys2Proof.Machine

/-- The laws of coverage and of the service it gives. -/
structure State.Covered (s : State) : Prop where
  coverage : s.CoverageLaw
  zone : s.ZoneLaw
  service : s.ServiceLaw
  withdrawal : s.WithdrawalLaw

section Running

variable {s t u : State}

theorem State.exists_served_iff (canonical : s.sessions.wf Session.free Config.sessionCount = true) :
    1 ≤ s.servedCount ↔ ∃ h, (s.session h).served = true := by
  rw [Nat.one_le_iff_ne_zero, ne_eq, State.servedCount_eq_zero_iff canonical]
  simp only [← State.mem_servedHandles canonical]
  exact ⟨List.exists_mem_of_ne_nil _, fun ⟨_, listed⟩ => List.ne_nil_of_mem listed⟩

theorem State.Lawful.attended (law : s.Lawful) (runs : s.mainRuns = true) : s.Attended := by
  obtain ⟨-, ⟨canonical, -⟩, -, -, -, -, -, -, ⟨permit, restore, ramp, grace, pacing, inForce, silent, radiates, -⟩, -, service, withdrawal, -⟩ := law
  have service := (State.serviceLaw_iff canonical).mp service
  refine ⟨⟨⟨?_, restore, ramp, grace, pacing, inForce⟩, fun idle h => (service h).1 idle, fun active h served => ?_,
    fun state h => (service h).2.2 state, fun state => (State.exists_served_iff canonical).mp (withdrawal state)⟩, silent runs, radiates runs⟩
  · rw [permit, runs, Bool.true_and]
  · by_contra dead
    exact (service h).2.1 active (Session.draining_of_not_live (by simpa using dead) served)

theorem State.Attended.covered (attended : t.Attended) (canonical : t.sessions.wf Session.free Config.sessionCount = true)
    (runs : t.mainRuns = true) (zone : t.ZoneLaw) (flushed : t.power.supervisor = .flushed → t.sessions = Table.empty ∧ t.power.flushing = true) :
    t.Covered := by
  obtain ⟨⟨⟨permit, restore, ramp, grace, pacing, inForce⟩, nobody, steady, drains, someone⟩, silent, radiates⟩ := attended
  refine ⟨⟨?_, restore, ramp, grace, pacing, inForce, fun _ => silent, fun _ => radiates, fun state => ?_⟩, zone,
    (State.serviceLaw_iff canonical).mpr fun h => ⟨fun idle => nobody idle h, fun active draining => ?_, fun state => drains state h⟩,
    fun state => (State.exists_served_iff canonical).mpr (someone state)⟩
  · rw [permit, runs, Bool.true_and]
  · obtain ⟨empty, flushing⟩ := flushed state
    have lost := State.radiationAllowed_of_flushing flushing
    have unserved : ∀ h, (t.session h).served = false := fun h => by rw [State.session, empty]; rfl
    cases now : t.coverage.state with
    | silent => rfl
    | qualifying => simp [radiates (.inl now)] at lost
    | withdrawing =>
      obtain ⟨h, served⟩ := someone now
      simp [unserved] at served
    | _ => simp [radiates (.inr (by rw [now]; rfl))] at lost
  · have live := steady active h (Session.served_iff.mpr (.inr (.inr draining)))
    simp [Session.live, draining] at live

/-! ### The sessions and the line -/

theorem State.SessionMove.attended (move : s.SessionMove t) (books : s.Books) (queue : s.QueueLaw) (attended : s.Attended) : t.Attended := by
  have allowed : t.radiationAllowed = s.radiationAllowed := by
    refine State.radiationAllowed_congr (congrArg Prod.fst move.zones) ?_ ?_ ?_
    all_goals rw [move.frame]
  obtain ⟨coverage, abides⟩ | ⟨u, quits, rfl⟩ | ⟨admits, coverage, opened⟩ := move.service books queue
  · exact attended.congr (coverage ▸ attended.ordered) (by rw [coverage]) (fun h => (abides h).served) (fun h => (abides h).live) allowed
  · obtain ⟨books', ⟨occupied, -⟩, coverage, allowed', -, stays⟩ := quits
    have drains : u.coverage.state = .withdrawing → ∀ h, (u.session h).live = false := fun state h => by
      rw [coverage] at state
      by_contra live
      rw [Bool.not_eq_false] at live
      have served : (u.session h).served = true := by
        by_contra unserved
        simp [Session.live_eq_false_of_unserved (Bool.not_eq_true _ ▸ unserved)] at live
      rw [(stays h served).2, attended.drains state] at live
      cases live
    unfold State.reportServed
    split
    · next ends => exact State.endWithdrawal_attended books'.sessions occupied (drains ends.1)
    · next left =>
      refine ⟨⟨coverage ▸ attended.ordered, fun idle h => ?_, fun active h served => ?_, drains, fun state => ?_⟩, ?_⟩
      · by_contra served
        have before := (stays h (by simpa using served)).1
        rw [attended.nobody (coverage ▸ idle)] at before
        cases before
      · rw [(stays h served).2]
        exact attended.steady (coverage ▸ active) h (stays h served).1
      · refine (State.exists_served_iff books'.sessions).mp (Nat.one_le_iff_ne_zero.mpr fun none_ => left ⟨state, none_⟩)
      · rw [coverage, allowed']
        exact attended.agrees
  · obtain ⟨permit, restore, ramp, grace, pacing, inForce⟩ := attended.ordered
    have state : t.coverage.state = s.coverage.state := by rw [coverage]
    have serves : s.coverage.state.inService = true := by
      obtain state | ⟨state, -⟩ := admits <;> rw [state] <;> rfl
    have ordered : t.coverage.Ordered := by
      rw [coverage]
      refine ⟨permit, restore, ramp, grace, fun other => ?_, inForce⟩
      exact Nat.eq_zero_of_le_zero ((Nat.sub_le _ _).trans (pacing other).le)
    refine ⟨⟨ordered, fun idle => ?_, fun _ h served => ?_, fun withdraws => ?_, fun withdraws => ?_⟩, ?_⟩
    · rw [state] at idle
      obtain idle | idle := idle <;> simp [CoverageState.inService, idle] at serves
    · obtain live | same := opened h
      · exact live
      · rw [same] at served ⊢
        exact attended.steady serves h served
    · simp [CoverageState.inService, state ▸ withdraws] at serves
    · simp [CoverageState.inService, state ▸ withdraws] at serves
    · rw [state, allowed]
      exact attended.agrees

theorem Bridge.reachPulse_standing (b : Bridge) : b.reachPulse.standing = b.standing := by
  unfold Bridge.reachPulse
  cases b.state <;> rfl

theorem State.reachStuck_standing (s : State) : s.reachStuck.bridge.standing = s.bridge.standing := by
  unfold State.reachStuck
  dsimp only
  repeat' split
  all_goals rfl

theorem Bridge.rise_standing (b : Bridge) : b.rise.standing = b.standing := by
  unfold Bridge.rise
  dsimp only
  repeat' split
  all_goals rfl

theorem State.takeLengths_standing (s : State) : s.takeLengths.bridge.standing = s.bridge.standing := by
  have pulse : ∀ u : State, u.reachPulse.bridge.standing = u.bridge.standing := fun u => Bridge.reachPulse_standing _
  have long : ∀ u : State, u.reachLong.bridge.standing = u.bridge.standing := fun u => rfl
  unfold State.takeLengths
  dsimp only
  repeat' split
  all_goals simp only [State.reachStuck_standing, long, pulse]

theorem State.LineMove.standing (move : s.LineMove t) : t.bridge.standing = s.bridge.standing := by
  cases move with
  | pulsed => exact Bridge.reachPulse_standing _
  | long => rfl
  | stuck => exact s.reachStuck_standing
  | fell => rfl
  | rose => exact (Bridge.rise_standing _).trans (State.takeLengths_standing _)
  | recovered => rfl

/-! ### The zones and the controller -/

theorem State.Serving.of_zones (serving : s.Serving) {coverage : Coverage} (fields : coverage = { s.coverage with
      zone := coverage.zone, lastZone := coverage.lastZone, candidate := coverage.candidate, fixTimer := coverage.fixTimer })
    (same : t.coverage = coverage) (sessions : t.sessions = s.sessions) : t.Serving := by
  have session : ∀ h, t.session h = s.session h := fun h => by simp only [State.session, sessions]
  refine serving.congr (same ▸ serving.ordered.of_fields fields) ?_ (fun h => by rw [session]) fun h => by rw [session]
  rw [same, fields]

theorem State.Attended.loadZone (attended : s.Attended) (canonical : s.sessions.wf Session.free Config.sessionCount = true)
    (occupied : s.queue.records.length ≤ s.queue.mark) (z : Nat) (r : ZoneRecord) : (s.loadZone z r).Attended := by
  obtain ⟨v, loaded⟩ : ∃ v : State, v = { s with zones := s.zones.set ZoneRecord.unloaded z r } := ⟨_, rfl⟩
  have serving : v.Serving := attended.toServing.of_zones rfl (by rw [loaded]) (by rw [loaded])
  have canonical' : v.sessions.wf Session.free Config.sessionCount = true := by rw [loaded]; exact canonical
  have occupied' : v.queue.records.length ≤ v.queue.mark := by rw [loaded]; exact occupied
  have state : v.coverage.state = s.coverage.state := by rw [loaded]
  by_cases current : s.coverage.zone = some z
  · rw [State.loadZone_current current, ← loaded]
    have sent := State.sendComponent_keepsService (v.judgeCoverage s.radiationAllowed r.grace) .zoneClass
      fun c => { c with zoneClass := r.tariffClass }
    obtain ⟨_, _, framed⟩ := (v.judgeCoverage s.radiationAllowed r.grace).sendComponent_frame .zoneClass
      fun c => { c with zoneClass := r.tariffClass }
    refine (serving.judgeCoverage canonical' occupied' (state ▸ attended.agrees) r.grace).of_keeps sent ?_
    refine State.radiationAllowed_congr (congrArg Coverage.zone sent.coverage) ?_ ?_ ?_
    all_goals
      rw [State.sendZoneClass, framed]
  · rw [State.loadZone, if_neg current, ← loaded]
    refine ⟨serving, ?_⟩
    have allowed : v.radiationAllowed = s.radiationAllowed := by
      rw [loaded]
      unfold State.radiationAllowed State.zoneRecord
      dsimp only
      cases zone : s.coverage.zone with
      | none => rfl
      | some w =>
        dsimp only
        rw [Table.get_set, if_neg]
        rintro rfl
        exact current zone
    rw [state, allowed]
    exact attended.agrees

theorem State.Attended.qualifyZone (attended : s.Attended) (canonical : s.sessions.wf Session.free Config.sessionCount = true)
    (occupied : s.queue.records.length ≤ s.queue.mark) (z : Nat) : (s.qualifyZone z).Attended := by
  have session : ∀ h, (s.session h).Stays ((s.zoneSessions z).session h) := fun h => by
    rw [State.zoneSessions_session canonical, State.zoneSession]
    split
    · next judged => exact Session.judged_stays judged.1 _
    · exact .refl _
  have serving : (s.zoneSessions z).Serving :=
    attended.toServing.congr attended.ordered rfl (fun h => (session h).toFollows.served) fun h => (session h).live
  exact (State.qualifyZone_judged canonical occupied z).attended serving
    ((State.rewrites_zoneReasons (s := s.zoned z) canonical z).canonical canonical) attended.agrees

theorem State.Attended.loseFix (attended : s.Attended) (canonical : s.sessions.wf Session.free Config.sessionCount = true)
    (occupied : s.queue.records.length ≤ s.queue.mark) : s.loseFix.Attended := by
  have lost : s.loseFix.radiationAllowed = false := by
    simp [State.radiationAllowed, show s.loseFix.coverage.zone = none from congrArg Prod.fst s.loseFix_zones]
  have judged := State.loseFix_judged canonical occupied
  rw [← lost] at judged
  exact judged.attended attended.toServing canonical attended.agrees

theorem State.Attended.enterRadiating (attended : s.Attended) (state : s.coverage.state = .ramping) : s.enterRadiating.Attended := by
  obtain ⟨⟨⟨-, restore, -, grace, -, inForce⟩, -, steady, -, -⟩, -, radiates⟩ := attended
  have serves : s.coverage.state.inService = true := by rw [state]; rfl
  rw [state] at restore grace inForce
  have now : s.enterRadiating.coverage.state = .radiating := rfl
  refine ⟨⟨⟨rfl, restore.trans (by simp [now]), by simp [State.enterRadiating, State.changeCoverage], grace.trans (by simp [now]), fun _ => rfl,
    fun _ => inForce nofun⟩, fun idle => ?_, fun _ => steady serves, fun withdraws => ?_, fun withdraws => ?_⟩, fun idle => ?_, fun _ => ?_⟩
  · simp [now] at idle
  · simp [now] at withdraws
  · simp [now] at withdraws
  · simp [now] at idle
  · exact radiates (.inr serves)

theorem State.Attended.enterRamping (attended : s.Attended) (state : s.coverage.state = .qualifying) : s.enterRamping.Attended := by
  obtain ⟨⟨⟨-, -, -, grace, -, inForce⟩, nobody, -, -, -⟩, -, radiates⟩ := attended
  have unserved := nobody (.inr state)
  have allowed := radiates (.inl state)
  rw [state] at grace inForce
  obtain ⟨v, ramped⟩ : ∃ v : State, v = s.changeCoverage { s.coverage with
    state := .ramping, restoreTimer := none, rampTimer := some (seconds s.params.rampPeriod), pacing := s.params.admissionPace } := ⟨_, rfl⟩
  have now : v.coverage.state = .ramping := by rw [ramped]; rfl
  have ramping : v.Attended := by
    have ordered : v.coverage.Ordered := by
      rw [ramped]
      exact ⟨rfl, by simp [State.changeCoverage], by simp [State.changeCoverage], grace.trans (by simp [State.changeCoverage]),
        fun other => absurd rfl other, fun _ => inForce nofun⟩
    refine ⟨.of_nobody ordered (by rw [ramped]; exact unserved) (by simp [now]), fun idle => ?_, fun _ => ?_⟩
    · simp [now] at idle
    · rw [ramped]
      exact allowed
  rw [State.enterRamping, ← ramped]
  split
  · exact ramping.enterRadiating now
  · exact ramping

theorem State.CoverageMove.attended (move : s.CoverageMove t) (purse : s.Purse) (attended : s.Attended) : t.Attended := by
  obtain ⟨books, ⟨occupied, -⟩, -⟩ := purse
  cases move with
  | zoneLoaded z inside r => exact attended.loadZone books.sessions occupied z r
  | aimed c f => exact ⟨attended.toServing.of_zones rfl rfl rfl, attended.agrees⟩
  | qualified f timed z =>
    have fixed : ({ s with coverage := { s.coverage with fixTimer := f } } : State).Attended :=
      ⟨attended.toServing.of_zones rfl rfl rfl, attended.agrees⟩
    exact fixed.qualifyZone books.sessions occupied z
  | fixLost => exact attended.loseFix books.sessions occupied
  | restored state => exact attended.enterRamping state
  | ramped state => exact attended.enterRadiating state
  | withdrawn state => exact State.endWithdrawal_attended books.sessions occupied (attended.drains state)

/-! ### The orders and the clock -/

theorem State.endOfService_of_silent (silent : s.coverage.state = .silent) : s.endOfService = s := by rw [State.endOfService, silent]

theorem State.endOfService_attended (serving : s.Serving) (canonical : s.sessions.wf Session.free Config.sessionCount = true)
    (occupied : s.queue.records.length ≤ s.queue.mark) (lost : s.radiationAllowed = false) : s.endOfService.Attended := by
  have allowed : s.endOfService.radiationAllowed = false := by
    obtain ⟨_, _, _, _, _, _, _, framed⟩ := s.endOfService_frame
    rw [← lost]
    refine State.radiationAllowed_congr (congrArg Prod.fst s.endOfService_zones) ?_ ?_ ?_
    all_goals rw [framed]
  by_cases silent : s.coverage.state = .silent
  · rw [State.endOfService_of_silent silent]
    exact ⟨serving, fun _ => lost, fun radiates => by simp [silent, CoverageState.inService] at radiates⟩
  · obtain ⟨is, closed⟩ := (State.Prepares.refl canonical occupied).endOfService rfl (fun state => absurd state silent) fun idle => by
      refine List.eq_nil_iff_forall_not_mem.mpr fun h listed => ?_
      have served := (State.mem_servedHandles canonical).mp listed
      rw [serving.nobody idle] at served
      cases served
    rw [if_neg silent] at is
    exact .stopped is (closed.unserved canonical) allowed

theorem State.Attended.takeOrder (attended : s.Attended) (canonical : s.sessions.wf Session.free Config.sessionCount = true)
    (occupied : s.queue.records.length ≤ s.queue.mark) (order : Nat) : (s.takeOrder order).Attended := by
  have serving : (s.ordered order).Serving := attended.toServing.of_zones rfl rfl rfl
  have covered : ((s.ordered order).coverageReads s.radiationAllowed s.bridge.standing).Attended := by
    unfold State.coverageReads
    split
    · next silences =>
      rw [Bool.and_eq_true] at silences
      exact State.endOfService_attended serving canonical occupied (by simp [State.radiationAllowed, silences.1])
    · exact serving.judgeCoverage canonical occupied attended.agrees _
  rw [State.takeOrder_eq]
  refine covered.of_keeps (State.readers_keepsService _ _) ?_
  obtain ⟨_, _, _, linked⟩ := ((s.ordered order).coverageReads s.radiationAllowed s.bridge.standing).linksRead_frame s.bridge.standing
  obtain ⟨_, _, _, selected⟩ := (((s.ordered order).coverageReads s.radiationAllowed s.bridge.standing).linksRead
    s.bridge.standing).selectorReads_frame s.bridge.standing
  rw [selected, linked]
  rfl

theorem State.Attended.endTrain (attended : s.Attended) (canonical : s.sessions.wf Session.free Config.sessionCount = true)
    (occupied : s.queue.records.length ≤ s.queue.mark) : s.endTrain.Attended := by
  have ended : s.trainEnded.Attended := attended.of_same rfl rfl rfl
  obtain same | ⟨d, same⟩ | ⟨order, -, same⟩ := s.trainEnded_cases
  · exact same ▸ ended
  · rw [same]
    exact ended.of_same rfl rfl rfl
  · rw [same]
    exact ended.takeOrder canonical occupied order

/-- The pacing count is refilled in RAMPING alone (R61). -/
theorem State.ClockMove.pacing (move : s.ClockMove t) (other : s.coverage.state ≠ .ramping) : t.coverage = s.coverage := by
  have settled : ∀ u : State, u.settlePeriod.coverage = u.coverage := fun u => by
    obtain ⟨_, _, _, framed⟩ := u.settlePeriod_frame
    rw [framed]
  have refilled : ∀ u : State, u.coverage = s.coverage → u.refillPacing.coverage = s.coverage := fun u same => by
    rw [State.refillPacing, if_neg (by rw [same]; exact other), same]
  cases move with
  | set => exact settled _
  | windowed => exact settled _
  | trimmed => rfl
  | second =>
    unfold State.takeSecond
    dsimp only
    split
    · split
      · exact refilled _ (settled _)
      · exact refilled _ rfl
    · rfl
  | settled => rfl

theorem State.Move.attended (move : s.Move t) (purse : s.Purse) (attended : s.Attended) : t.Attended := by
  cases move with
  | session move => exact move.attended purse.books purse.queue attended
  | coverage move => exact move.attended purse attended
  | train _ move => exact move ▸ attended.endTrain purse.books.sessions purse.queue.1
  | port move => rw [move.frame]; exact attended.of_same rfl rfl rfl
  | link move => rw [move.frame]; exact attended.of_same rfl rfl rfl
  | figure move => rw [move.frame]; exact attended.of_same rfl rfl rfl
  | line move =>
    refine attended.of_same (by rw [move.frame]) (by rw [move.frame]) (State.radiationAllowed_congr ?_ ?_ move.standing ?_)
    all_goals rw [move.frame]
  | clock move =>
    have state : t.coverage.state = s.coverage.state := by rw [move.frame]
    have session : ∀ h, t.session h = s.session h := fun h => by rw [move.frame]; rfl
    refine attended.congr ?_ state (fun h => by rw [session]) (fun h => by rw [session]) (by rw [move.frame]; rfl)
    by_cases ramps : s.coverage.state = .ramping
    · obtain ⟨permit, restore, ramp, grace, -, inForce⟩ := attended.ordered
      have paced : t.coverage = { s.coverage with pacing := t.coverage.pacing } := by rw [move.frame]
      rw [paced]
      exact ⟨permit, restore, ramp, grace, fun other => absurd ramps other, inForce⟩
    · rw [move.pacing ramps]
      exact attended.ordered

end Running

end Sys2Proof.Machine

/-! PROOF. Coverage, and service within it, after a step: O55, O56. -/

namespace Sys2Proof.Machine

/-! ### The zones -/

section Zones

variable {s t : State}

theorem State.ZoneLaw.congr (law : s.ZoneLaw) (zones : t.coverage.zones = s.coverage.zones) : t.ZoneLaw := by
  rw [State.ZoneLaw, Coverage.eq_of_zones zones]
  exact law

theorem State.ZoneLaw.of_qualified {z : Nat} {f : Timer} (inside : z < Config.zoneCount) (timed : f.isSome = true)
    (zones : t.coverage.zones = (some z, some z, none, f)) : t.ZoneLaw := by
  obtain ⟨zone, last, candidate, fix⟩ : t.coverage.zone = some z ∧ t.coverage.lastZone = some z ∧ t.coverage.candidate = none
      ∧ t.coverage.fixTimer = f := by simpa [Coverage.zones, Prod.mk.injEq] using zones
  rw [State.ZoneLaw, zone, last, candidate, fix]
  exact ⟨fun w held => by cases held; exact ⟨inside, rfl⟩, fun w held => by cases held; exact inside, fun _ => timed, nofun⟩

theorem State.CoverageMove.zoneLaw (move : s.CoverageMove t) (law : s.ZoneLaw) : t.ZoneLaw := by
  cases move with
  | zoneLoaded z inside r =>
    by_cases current : s.coverage.zone = some z
    · rw [State.loadZone_current current]
      have judged := State.judgeCoverage_zones { s with zones := s.zones.set ZoneRecord.unloaded z r } s.radiationAllowed r.grace
      have sent := State.sendComponent_keepsService (({ s with zones := s.zones.set ZoneRecord.unloaded z r } : State).judgeCoverage
        s.radiationAllowed r.grace) .zoneClass fun c => { c with zoneClass := r.tariffClass }
      exact law.congr ((congrArg Coverage.zones sent.coverage).trans judged)
    · rw [State.loadZone, if_neg current]
      exact law
  | aimed c f timed candidate =>
    obtain ⟨zone, last, -, -⟩ := law
    exact ⟨zone, last, fun _ => timed, candidate⟩
  | qualified f timed z inside => exact .of_qualified inside timed (State.qualifyZone_zones _ z)
  | fixLost =>
    obtain ⟨-, inside, -, -⟩ := law
    obtain ⟨zone, last, candidate, fix⟩ : s.loseFix.coverage.zone = none ∧ s.loseFix.coverage.lastZone = s.coverage.lastZone
        ∧ s.loseFix.coverage.candidate = none ∧ s.loseFix.coverage.fixTimer = none := by
      simpa [Coverage.zones, Prod.mk.injEq] using s.loseFix_zones
    rw [State.ZoneLaw, zone, last, candidate, fix]
    exact ⟨nofun, inside, by simp, nofun⟩
  | restored =>
    refine law.congr ?_
    unfold State.enterRamping
    dsimp only
    split <;> rfl
  | ramped => exact law.congr rfl
  | withdrawn => exact law.congr s.endWithdrawal_zones

theorem State.Move.zoneLaw (move : s.Move t) (law : s.ZoneLaw) : t.ZoneLaw := by
  cases move with
  | session move => exact law.congr move.zones
  | coverage move => exact move.zoneLaw law
  | train _ move =>
    refine law.congr ?_
    obtain same | ⟨d, same⟩ | ⟨order, -, same⟩ := s.trainEnded_cases
    · rw [move, same]
      rfl
    · rw [move, same]
      rfl
    · rw [move, same]
      exact State.takeOrder_zones _ _
  | port move => rw [move.frame]; exact law
  | line move => rw [move.frame]; exact law
  | link move => rw [move.frame]; exact law
  | figure move => rw [move.frame]; exact law
  | clock move => rw [move.frame]; exact law

end Zones

/-! ### Starts, flushes and resets (10) -/

section Power

variable {s t : State}

theorem State.ServiceLaw.congr (law : s.ServiceLaw) (state : t.coverage.state = s.coverage.state) (sessions : t.sessions = s.sessions) :
    t.ServiceLaw := by
  simpa only [State.ServiceLaw, state, sessions] using law

theorem State.WithdrawalLaw.congr (law : s.WithdrawalLaw) (state : t.coverage.state = s.coverage.state) (sessions : t.sessions = s.sessions) :
    t.WithdrawalLaw := by
  simpa only [State.WithdrawalLaw, State.servedCount, state, sessions] using law

theorem State.Covered.congr (covered : s.Covered) (coverage : t.coverage = s.coverage) (sessions : t.sessions = s.sessions)
    (supervisor : t.power.supervisor = s.power.supervisor) (allowed : t.radiationAllowed = s.radiationAllowed) : t.Covered := by
  obtain ⟨law, zone, service, withdrawal⟩ := covered
  have runs : t.mainRuns = s.mainRuns := by simp only [State.mainRuns, supervisor]
  exact ⟨by simpa only [State.CoverageLaw, coverage, runs, supervisor, allowed] using law, zone.congr (by rw [coverage]),
    service.congr (by rw [coverage]) sessions, withdrawal.congr (by rw [coverage]) sessions⟩

/-- Outside the running of the main domain the permit is low, and the rest of the controller stands (R179). -/
theorem State.Covered.stopped (covered : s.Covered) (stops : t.mainRuns = false)
    (coverage : t.coverage = { s.coverage with permit := false }) (sessions : t.sessions = s.sessions) : t.Covered := by
  obtain ⟨⟨-, restore, ramp, grace, pacing, inForce, -, -, -⟩, zone, service, withdrawal⟩ := covered
  have other : t.power.supervisor ≠ .flushed := fun flushed => by simp [State.mainRuns, flushed] at stops
  refine ⟨?_, zone.congr (by rw [coverage]; rfl), service.congr (by rw [coverage]) sessions, withdrawal.congr (by rw [coverage]) sessions⟩
  rw [State.CoverageLaw, coverage, stops]
  exact ⟨rfl, restore, ramp, grace, pacing, inForce, nofun, nofun, fun flushed => absurd flushed other⟩

/-- The controller's start values, with nobody aboard. -/
theorem State.Covered.start (coverage : t.coverage = Coverage.start) (sessions : t.sessions = Table.empty) : t.Covered := by
  have lost : t.radiationAllowed = false := by simp [State.radiationAllowed, coverage, Coverage.start]
  refine ⟨?_, ?_, ?_, ?_⟩
  · rw [State.CoverageLaw, coverage, lost]
    exact ⟨(Bool.and_false _).symm, by decide, by decide, by decide, fun _ => rfl, fun _ => rfl, fun _ _ => rfl, fun _ => by decide, fun _ => rfl⟩
  · rw [State.ZoneLaw, coverage]
    exact ⟨nofun, nofun, by decide, nofun⟩
  · rw [State.ServiceLaw, sessions]
    exact fun _ listed => absurd listed List.not_mem_nil
  · rw [State.WithdrawalLaw, coverage]
    nofun

theorem State.beginStart_covered (s : State) (kind : StartKind) : (s.beginStart kind).Covered := by
  cases kind <;> exact .start rfl rfl

/-- Service ends at the flush, and the controller is SILENT (R180). -/
theorem State.Covered.flush (books : s.Books) (queue : s.QueueLaw) (attended : s.flushing.Serving) (zone : s.ZoneLaw) : s.flush.Covered := by
  obtain ⟨books', sessions, -, -, -, -, coverage, framed⟩ := State.Flushed.of_books books queue
  have lost : s.flushing.radiationAllowed = false := State.radiationAllowed_of_flushing rfl
  have ended : s.flushing.endOfService.Attended :=
    State.endOfService_attended attended (books.congr rfl rfl rfl rfl : s.flushing.Books).sessions queue.1 lost
  have unserved : ∀ h, (s.flush.session h).served = false := fun h => by rw [State.session, sessions]; rfl
  obtain ⟨-, -, power, -⟩ := s.flush_keeps
  have flushed : s.flush.power.supervisor = .flushed := by rw [power]; rfl
  have flushing : s.flush.power.flushing = true := by rw [power]; rfl
  have silent : s.flush.coverage.state = .silent := by
    rw [coverage]
    unfold State.endOfService
    split
    · next silent => exact silent
    · rfl
    all_goals
      obtain ⟨_, _, _, _, _, _, closed⟩ := (s.flushing.changeCoverage s.flushing.coverage.silenced).drainOrder.endOfDrain_frame
      rw [closed, State.drainOrder_eq]
      rfl
  have attended' : s.flush.Attended := ⟨.of_nobody (coverage ▸ ended.ordered) unserved (by simp [silent]),
    fun _ => State.radiationAllowed_of_flushing flushing, fun radiates => by simp [silent, CoverageState.inService] at radiates⟩
  exact attended'.covered books'.sessions (by simp [State.mainRuns, flushed])
    (zone.congr (by rw [coverage]; exact State.endOfService_zones _)) fun _ => ⟨sessions, flushing⟩

theorem State.Lawful.covered (law : s.Lawful) : s.Covered := by
  obtain ⟨-, -, -, -, -, -, -, -, coverage, zone, service, withdrawal, -⟩ := law
  exact ⟨coverage, zone, service, withdrawal⟩

theorem State.PowerMove.covered (move : s.PowerMove t) (law : s.Lawful) : t.Covered := by
  have covered := law.covered
  obtain ⟨books, queue, -⟩ := law.purse
  have low : s.mainRuns = false → s.coverage = { s.coverage with permit := false } := fun stops => by
    obtain ⟨⟨permit, -⟩, -⟩ := covered
    rw [stops, Bool.false_and] at permit
    rw [← permit]
  cases move with
  | second stops n =>
    obtain ⟨c, i, same⟩ := State.elapse_takeSecond_stopped stops n
    rw [same]
    exact covered.congr rfl rfl rfl rfl
  | bridgeLine => exact covered.congr rfl rfl rfl rfl
  | started => exact s.beginStart_covered _
  | held off => exact covered.stopped rfl (low (by simp [State.mainRuns, off])) rfl
  | lost => exact .start rfl rfl
  | resetLow => exact covered.congr rfl rfl rfl rfl
  | reset => exact covered.stopped rfl rfl rfl
  | resetHigh => exact covered.congr rfl rfl rfl rfl
  | released => exact State.beginStart_covered _ _
  | warned => exact covered.congr rfl rfl rfl rfl
  | flushed running =>
    obtain ⟨serving, -⟩ := law.attended (State.mainRuns_of_running running)
    have serving' : ({ s with pins := { s.pins with warning := true } } : State).flushing.Serving :=
      serving.congr serving.ordered rfl (fun _ => rfl) fun _ => rfl
    exact .flush (books.congr rfl rfl rfl rfl) queue serving' covered.zone
  | calmed => exact covered.congr rfl rfl rfl rfl
  | resumed => exact State.beginStart_covered _ _
  | forgotten off =>
    have stops : s.mainRuns = false := by simp [State.mainRuns, off]
    exact covered.stopped stops (low stops) rfl
  | initialized initializing =>
    obtain ⟨⟨-, -, -, -, -, -, -, start, -⟩, -⟩ := law
    obtain ⟨sessions, -, coverage, -⟩ := start (.inr initializing)
    have started : ∀ {u : State}, u.coverage = s.coverage → u.sessions = s.sessions → u.Covered := fun c x =>
      .start (c.trans coverage) (x.trans sessions)
    rw [State.endInitialization]
    dsimp only
    rw [State.latchStart_eq]
    dsimp only
    split
    · refine .flush (books.congr rfl rfl rfl rfl) queue ?_ covered.zone
      refine .of_nobody ?_ (fun h => ?_) ?_
      · change s.coverage.Ordered
        rw [coverage]
        exact Coverage.start.stopped_ordered
      · change (s.sessions.get Session.free h).served = false
        rw [sessions]
        rfl
      · change s.coverage.state ≠ .withdrawing
        rw [coverage]
        nofun
    · exact started rfl rfl

theorem step_keeps_covered (s t : State) (law : s.Lawful) (runs : step s = .next t) : t.Covered := by
  refine step_keeps (P := State.Covered) (fun s law => law.covered) (fun s p b f covered => covered.congr rfl rfl rfl rfl)
    (fun s t law runs move => ?_) (fun s t law move => move.covered law) s t law runs
  have main := move.supervised.mainRuns
  refine (move.attended law.purse (law.attended runs)).covered (move.purse law.purse).books.sessions (main.trans runs)
    (move.zoneLaw law.covered.zone) fun flushed => ?_
  rw [move.supervised.power] at flushed ⊢
  have empty := law.emptied flushed
  exact ⟨(move.emptied empty law.purse).1, empty.flushing⟩

/-- Settles O55. -/
theorem stepKeepsCoverage : Obligations.StepKeepsCoverage := fun s t law runs =>
  have covered := step_keeps_covered s t law runs
  ⟨covered.coverage, covered.zone⟩

/-- Settles O56. -/
theorem stepKeepsServiceWithinCoverage : Obligations.StepKeepsServiceWithinCoverage := fun s t law runs =>
  have covered := step_keeps_covered s t law runs
  ⟨covered.service, covered.withdrawal⟩

end Power

end Sys2Proof.Machine

/-! SUPPORT. Which link changes leave the carrier, and what the rating engine keeps through a component (5.6, 6, 8). -/

namespace Sys2Proof.Machine

/-! ### The carrier -/

/-- No slot begins to carry, and the rating engine and the links' configuration are as they were. -/
structure State.Sheds (s t : State) : Prop where
  rating : t.rating = s.rating
  config : t.linkConfig = s.linkConfig
  carrying : ∀ i, (t.link i).state = .carrying → (s.link i).state = .carrying

section Sheds

variable {s t u : State} {i : Slot} {l : Link}

theorem State.Sheds.of_same (rating : t.rating = s.rating) (config : t.linkConfig = s.linkConfig) (links : t.links = s.links) : s.Sheds t :=
  ⟨rating, config, fun i carries => by rwa [State.link, links] at carries⟩

theorem State.Sheds.refl (s : State) : s.Sheds s := .of_same rfl rfl rfl

theorem State.Sheds.trans (first : s.Sheds u) (second : u.Sheds t) : s.Sheds t :=
  ⟨second.rating.trans first.rating, second.config.trans first.config, fun i => first.carrying i ∘ second.carrying i⟩

theorem State.Sheds.setLink (stays : l.state = .carrying → (s.link i).state = .carrying) : s.Sheds (s.setLink i l) := by
  refine ⟨rfl, rfl, fun j carries => ?_⟩
  rw [State.setLink_link] at carries
  split at carries
  · next here => exact here ▸ stays carries
  · exact carries

theorem State.Sheds.considerSwap (s : State) : s.Sheds s.considerSwap := by
  obtain same | ⟨b, -, -, started⟩ := s.considerSwap_cases
  · rw [same]
    exact .refl s
  · refine ⟨by rw [started]; rfl, by rw [started]; rfl, fun j carries => ?_⟩
    rw [started, State.startSwap_link] at carries
    split at carries
    · cases carries
    · exact carries

theorem State.Sheds.dropSwap (s : State) (i : Slot) : s.Sheds (s.dropSwap i) :=
  State.Sheds.trans (u := ({ s with selector := { s.selector with swap := none } } : State).raise .swapAbandoned i.val)
    (.of_same rfl rfl rfl) (.considerSwap _)

theorem State.Sheds.carrierFaulted (s : State) (i : Slot) : s.Sheds (s.carrierFaulted i) := by
  refine State.Sheds.trans ?_ (.considerSwap _)
  split
  · split <;> exact .of_same rfl rfl rfl
  · exact .of_same rfl rfl rfl

theorem Link.enterHoldoff_idles (l : Link) (holdoff : Nat) (absent : Bool) : (l.enterHoldoff holdoff absent).state ≠ .carrying := nofun

theorem State.Sheds.faultLink (s : State) (i : Slot) (absent : Bool) : s.Sheds (s.faultLink i absent) := by
  have held : s.Sheds (s.setLink i ((s.link i).enterHoldoff s.params.holdoff absent)) :=
    .setLink fun carries => absurd carries (Link.enterHoldoff_idles _ _ _)
  have told : s.Sheds ((s.setLink i ((s.link i).enterHoldoff s.params.holdoff absent)).raise .linkFault i.val) :=
    held.trans (.of_same rfl rfl rfl)
  exact told.trans (.carrierFaulted _ i)

theorem State.Sheds.abandonFailed (s : State) (i : Slot) (absent : Bool) : s.Sheds (s.abandonFailed i absent) :=
  (State.Sheds.setLink fun carries => absurd carries (Link.enterHoldoff_idles _ _ _)).trans (.dropSwap _ i)

theorem State.Sheds.abandonLate (s : State) : s.Sheds s.abandonLate := by
  unfold State.abandonLate
  split
  · exact .refl s
  · next w _ =>
    have held : s.Sheds (s.setLink w.candidate ((s.link w.candidate).enterHoldoff s.params.holdoff false)) :=
      .setLink fun carries => absurd carries (Link.enterHoldoff_idles _ _ _)
    have marked : s.Sheds { s.setLink w.candidate ((s.link w.candidate).enterHoldoff s.params.holdoff false) with
        selector := { s.selector with lateMark := some w.candidate } } := held.trans (.of_same rfl rfl rfl)
    exact marked.trans (.dropSwap _ _)

theorem State.Sheds.judgeLinks (s : State) {slots : List Slot} (once : slots.Nodup) : s.Sheds (s.judgeLinks slots) := by
  have judged : s.Sheds (s.judgedLinks slots) := by
    obtain ⟨_, framed⟩ := s.judgedLinks_frame slots
    refine ⟨by rw [framed], by rw [framed], fun i carries => ?_⟩
    rw [State.judgedLinks_link once] at carries
    split at carries
    · exact (Link.judge_carrying _ _ _).mp carries
    · exact carries
  have told : s.Sheds (s.tellCandidate slots) := by
    unfold State.tellCandidate
    split
    · split
      · exact judged.trans (.dropSwap _ _)
      · exact judged
    · exact judged
  obtain same | same := s.judgeLinks_cases slots
  · rw [same]
    exact told
  · rw [same]
    exact told.trans (.considerSwap _)

theorem Link.applyReport_carrying (l : Link) (p : Params) (present : Bool) (quality loss latency : Nat)
    (carries : (l.applyReport p present quality loss latency).state = .carrying) : l.state = .carrying := by
  unfold Link.applyReport at carries
  cases state : l.state <;> cases present <;> simp_all

theorem State.Sheds.actOnReport (s : State) (i : Slot) (wasHealthy present hard : Bool) : s.Sheds (s.actOnReport i wasHealthy present hard) := by
  have enters : ∀ {l : Link}, l.state ≠ .carrying → s.Sheds (s.setLink i l) := fun idles => .setLink fun carries => absurd carries idles
  unfold State.actOnReport
  dsimp only
  split
  · exact .refl s
  · split
    · exact enters nofun
    · split
      · exact enters nofun
      · exact .refl s
  · split
    · exact enters nofun
    · split
      · exact enters nofun
      · exact .refl s
  · split
    · exact enters nofun
    · split
      · exact enters nofun
      · exact .refl s
  · split
    · exact .abandonFailed s i _
    · exact .refl s
  · next state =>
    split
    · exact .faultLink s i _
    · split
      · exact .setLink fun _ => state
      · split
        · exact .setLink fun _ => state
        · exact .refl s
  · next state =>
    split
    · exact enters (by simp [state])
    · exact .refl s

theorem State.Sheds.takeReport (s : State) (i : Slot) (present : Bool) (quality loss latency : Nat) :
    s.Sheds (s.takeReport i present quality loss latency) := by
  unfold State.takeReport
  dsimp only
  split
  · exact (State.Sheds.setLink (Link.applyReport_carrying _ _ _ _ _ _)).trans (.actOnReport _ _ _ _ _)
  · refine .setLink fun carries => ?_
    unfold Link.storeUnloaded at carries
    dsimp only at carries
    split at carries <;> exact carries

theorem State.Sheds.staleLink (s : State) (i : Slot) : s.Sheds (s.staleLink i) := by
  rw [State.staleLink_eq]
  refine (State.Sheds.setLink fun carries => ?_).trans (.of_same rfl rfl rfl)
  unfold Link.gone at carries
  dsimp only at carries
  split at carries
  · cases carries
  · exact carries

theorem State.Sheds.qualifyLink (s : State) (i : Slot) : s.Sheds (s.qualifyLink i) := by
  unfold State.qualifyLink
  dsimp only
  split
  · exact (State.Sheds.setLink (l := { s.link i with state := .standby, qualTimer := none }) nofun).trans (.considerSwap _)
  · exact .setLink id

theorem State.Sheds.faultTimerLink (s : State) (i : Slot) : s.Sheds (s.faultTimerLink i) := by
  unfold State.faultTimerLink
  split
  · exact .faultLink s i false
  · exact .setLink id

theorem State.Sheds.endHoldoff (s : State) (i : Slot) : s.Sheds (s.endHoldoff i) := by
  unfold State.endHoldoff
  dsimp only
  split
  · split <;> exact .setLink nofun
  · exact .setLink id

end Sheds

end Sys2Proof.Machine

/-! SUPPORT. The calendar, and the newest rating context, through their own moves (7, 8). -/

namespace Sys2Proof.Machine

/-! ### The calendar -/

section Calendar

variable {s t : State} {c : Clock}

/-- The clock's law, of the clock alone (R125, R126, R128, R130). -/
structure Clock.Ok (c : Clock) : Prop where
  valid : c.calendar.valid = true
  low : -127 ≤ c.trim
  high : c.trim ≤ 127
  first : c.windowStart ≤ 23
  last : c.windowEnd ≤ 23
  short : 32641 ≤ c.secondLength
  long : c.secondLength ≤ 32895
  plain : c.calendar.endsHour = false → c.secondLength = Config.periodsPerSecond

theorem State.clockLaw_iff : s.ClockLaw ↔ s.clock.Ok :=
  ⟨fun ⟨valid, low, high, first, last, short, long, plain⟩ => ⟨valid, low, high, first, last, short, long, plain⟩,
    fun ⟨valid, low, high, first, last, short, long, plain⟩ => ⟨valid, low, high, first, last, short, long, plain⟩⟩

/-- The second a trim can give (R126). -/
theorem secondLengthAt_bounds {trim : Int} (low : -127 ≤ trim) (high : trim ≤ 127) (m x : Nat) :
    32641 ≤ secondLengthAt m x trim ∧ secondLengthAt m x trim ≤ 32895 := by
  unfold secondLengthAt
  split <;> simp only [Config.periodsPerSecond] <;> omega

theorem secondLengthAt_plain {c : Calendar} (inside : c.endsHour = false) (trim : Int) :
    secondLengthAt c.minutes c.seconds trim = Config.periodsPerSecond := by
  rw [Calendar.endsHour_eq] at inside
  exact if_neg (by simpa using inside)

theorem Clock.Ok.begin (ok : c.Ok) {d : Calendar} (valid : d.valid = true) (n : Nat) (b : Bool) : Clock.Ok { c with
    calendar := d, subSecond := n, secondLength := secondLengthAt d.minutes d.seconds c.trim, notSet := b } := by
  obtain ⟨-, low, high, first, last, -, -, -⟩ := ok
  obtain ⟨short, long⟩ := secondLengthAt_bounds low high d.minutes d.seconds
  exact ⟨valid, low, high, first, last, short, long, fun inside => secondLengthAt_plain inside _⟩

theorem Clock.Ok.advance (ok : c.Ok) : c.advance.Ok := ok.begin (Calendar.valid_advance ok.valid) _ _

theorem Clock.Ok.withSub (ok : c.Ok) (n : Nat) : ({ c with subSecond := n } : Clock).Ok := by
  obtain ⟨valid, low, high, first, last, short, long, plain⟩ := ok
  exact ⟨valid, low, high, first, last, short, long, plain⟩

theorem State.ClockMove.clockOk (move : s.ClockMove t) (ok : s.clock.Ok) : t.clock.Ok := by
  cases move with
  | set d valid =>
    rw [State.settlePeriod_clock]
    exact ok.begin valid _ _
  | windowed a b first last =>
    rw [State.settlePeriod_clock]
    obtain ⟨valid, low, high, -, -, short, long, plain⟩ := ok
    exact ⟨valid, low, high, first, last, short, long, plain⟩
  | trimmed t low high =>
    obtain ⟨valid, -, -, first, last, short, long, plain⟩ := ok
    exact ⟨valid, low, high, first, last, short, long, plain⟩
  | second =>
    rw [State.takeSecond_clock]
    exact ok.advance
  | settled => exact ok

/-- The hour changes at an hour edge alone, and the period with it (R125, R131). -/
theorem Clock.periodNow_advance (inside : c.calendar.endsHour = false) : c.advance.periodNow = c.periodNow := by
  have hours : c.calendar.advance.hours = c.calendar.hours := by
    by_cases last : c.calendar.seconds = 59
    · rw [Calendar.advance_minute last fun minute => by simp [Calendar.endsHour, last, minute] at inside]
    · rw [Calendar.advance_second last]
  unfold Clock.periodNow Clock.advance
  dsimp only
  rw [hours]

end Calendar

/-! ### The rating engine -/

/-- The settle window with its pending context and cause, and the newest context within its figures (R135 to R140). -/
structure Rating.Ok (r : Rating) : Prop where
  pending : r.pendingContext.isSome = r.settleTimer.isSome
  cause : r.cause.isSome = r.settleTimer.isSome
  zoneClass : r.newest.zoneClass ≤ 7
  costClass : r.newest.costClass ≤ 3

/-- The newest context is current: the period the hour gives, the current zone's tariff class, and the cost class of whichever slot
carries (R131, R136). -/
structure State.Rated (s : State) : Prop where
  ok : s.rating.Ok
  hour : s.period = s.clock.periodNow
  period : s.rating.newest.period = s.period
  zone : ∀ z ∈ s.coverage.zone, s.rating.newest.zoneClass = (s.zoneRecord z).tariffClass
  cost : ∀ i, (s.link i).state = .carrying → s.rating.newest.costClass = (s.linkConfig.get i).costClass

section Rating

variable {s t : State}

theorem State.sendComponent_ok (ok : s.rating.Ok) (cause : WindowCause) {f : Context → Context}
    (zoneClass : (f s.rating.newest).zoneClass ≤ 7) (costClass : (f s.rating.newest).costClass ≤ 3) :
    (s.sendComponent cause f).rating.Ok := by
  obtain ⟨pending, caused, -, -⟩ := ok
  have newest := State.sendComponent_newest (s := s) cause f
  refine ⟨?_, ?_, by rw [newest]; exact zoneClass, by rw [newest]; exact costClass⟩
  all_goals
    unfold State.sendComponent
    dsimp only
    split
    · assumption
    · split
      · next open_ => simp [open_, caused]
      · split <;> rfl

theorem State.settleContext_newest (ok : s.rating.Ok) : s.settleContext.rating.newest = s.rating.newest := by
  unfold State.settleContext Rating.newest
  dsimp only
  split
  · next wrong => cases wrong
  · split
    · rfl
    · next closed =>
      have none_ : s.rating.pendingContext = none := by
        rw [← Option.not_isSome_iff_eq_none, ok.pending]
        exact closed
      rw [none_]
      rfl

theorem State.settleContext_ok (ok : s.rating.Ok) : s.settleContext.rating.Ok := by
  have newest := State.settleContext_newest ok
  exact ⟨rfl, rfl, by rw [newest]; exact ok.zoneClass, by rw [newest]; exact ok.costClass⟩

theorem Rating.start_ok (p : Period) : (Rating.start p).Ok := ⟨rfl, rfl, Nat.zero_le _, Nat.zero_le _⟩

/-- The settlement of the period brings it and the newest context to what the hour gives (R131). -/
theorem State.settlePeriod_rated (ok : s.rating.Ok) (period : s.rating.newest.period = s.period)
    (zone : ∀ z ∈ s.coverage.zone, s.rating.newest.zoneClass = (s.zoneRecord z).tariffClass)
    (cost : ∀ i, (s.link i).state = .carrying → s.rating.newest.costClass = (s.linkConfig.get i).costClass) : s.settlePeriod.Rated := by
  unfold State.settlePeriod
  dsimp only
  split
  · next same => exact ⟨ok, same.symm, period, zone, cost⟩
  · obtain ⟨u, raised⟩ : ∃ u : State, u = ({ s with period := s.clock.periodNow } : State).raise .periodChanged s.clock.periodNow.code := ⟨_, rfl⟩
    have rating : u.rating = s.rating := by rw [raised]; rfl
    rw [← raised]
    obtain ⟨_, _, framed⟩ := u.sendComponent_frame .period fun c => { c with period := s.clock.periodNow }
    have newest := State.sendComponent_newest (s := u) .period fun c => { c with period := s.clock.periodNow }
    have sent : (u.sendComponent .period fun c => { c with period := s.clock.periodNow }).rating.Ok :=
      State.sendComponent_ok (rating ▸ ok) .period (by rw [rating]; exact ok.zoneClass) (by rw [rating]; exact ok.costClass)
    rw [rating] at newest
    rw [State.sendPeriod]
    refine ⟨sent, ?_, ?_, fun z held => ?_, fun i carries => ?_⟩
    · rw [framed, raised]
      rfl
    · rw [newest, framed, raised]
      rfl
    · rw [newest]
      rw [framed, raised] at held ⊢
      exact zone z held
    · rw [newest]
      rw [framed, raised] at carries ⊢
      exact cost i carries

theorem State.Rated.congr (rated : s.Rated) (rating : t.rating = s.rating) (period : t.period = s.period) (clock : t.clock.periodNow = s.clock.periodNow)
    (zone : t.coverage.zone = s.coverage.zone) (zones : t.zones = s.zones)
    (cost : ∀ i, (t.link i).state = .carrying → (s.link i).state = .carrying
      ∧ (t.linkConfig.get i).costClass = (s.linkConfig.get i).costClass) : t.Rated := by
  obtain ⟨ok, hour, now, zoned, costs⟩ := rated
  refine ⟨rating ▸ ok, by rw [period, clock, hour], by rw [rating, period, now], fun z held => ?_, fun i carries => ?_⟩
  · rw [zone] at held
    rw [rating, State.zoneRecord, zones]
    exact zoned z held
  · obtain ⟨carried, same⟩ := cost i carries
    rw [rating, same]
    exact costs i carried

theorem State.Rated.of_sheds (rated : s.Rated) (sheds : s.Sheds t) (period : t.period = s.period) (clock : t.clock = s.clock)
    (zone : t.coverage.zone = s.coverage.zone) (zones : t.zones = s.zones) : t.Rated :=
  rated.congr sheds.rating period (by rw [clock]) zone zones fun i carries => ⟨sheds.carrying i carries, by rw [sheds.config]⟩

theorem State.ClockMove.rated (move : s.ClockMove t) (runs : s.mainRuns = true) (rated : s.Rated) : t.Rated := by
  obtain ⟨ok, hour, period, zone, cost⟩ := rated
  have refilled : ∀ {u : State}, u.Rated → u.refillPacing.Rated := fun {u} rated => by
    obtain ⟨ok, hour, period, zone, cost⟩ := rated
    unfold State.refillPacing
    split
    · exact ⟨ok, hour, period, zone, cost⟩
    · exact ⟨ok, hour, period, zone, cost⟩
  cases move with
  | set c => exact State.settlePeriod_rated ok period zone cost
  | windowed a b => exact State.settlePeriod_rated ok period zone cost
  | trimmed => exact ⟨ok, hour, period, zone, cost⟩
  | second =>
    rw [State.takeSecond_eq, if_pos runs]
    refine refilled ?_
    split
    · exact State.settlePeriod_rated ok period zone cost
    · next inside =>
      rw [Bool.not_eq_true] at inside
      exact ⟨ok, hour.trans (Clock.periodNow_advance inside).symm, period, zone, cost⟩
  | settled =>
    have newest := State.settleContext_newest ok
    refine ⟨State.settleContext_ok ok, hour, ?_, fun z held => ?_, fun i carries => ?_⟩
    · rw [newest]
      exact period
    · rw [newest]
      exact zone z held
    · rw [newest]
      exact cost i carries

end Rating

end Sys2Proof.Machine

/-! PROOF. The calendar, the period and the newest rating context after a step: O58. -/

namespace Sys2Proof.Machine

section Moves

variable {s t : State}

/-! ### The links -/

theorem State.Rated.completeSwap (rated : s.Rated) (law : s.LinkLaw) (figures : s.Figures) {w : Swap} (flies : s.selector.swap = some w) :
    (s.completeSwap w).Rated := by
  obtain ⟨-, -, -, old, apart⟩ := law.candidate flies
  have differ : w.oldCarrier ≠ some w.candidate := old ▸ apart
  have only : ∀ i, ((s.swapped w).link i).state = .carrying → i = w.candidate := fun i carries => by
    obtain ⟨-, -, carrier, -⟩ := law
    rw [State.swapped_link] at carries
    split at carries
    · assumption
    · split at carries
      · unfold Link.retire at carries
        dsimp only at carries
        split at carries <;> cases carries
      · next other => exact absurd (old.trans ((carrier i).mp carries)) other
  obtain ⟨u, told⟩ : ∃ u : State, u = (s.swapped w).raise .swapDone w.candidate.val := ⟨_, rfl⟩
  have rating : u.rating = s.rating := by rw [told]; rfl
  have sent : (u.sendCostClass (s.linkConfig.get w.candidate).costClass).Rated := by
    obtain ⟨ok, hour, period, zone, -⟩ := rated
    obtain ⟨_, _, _, _, _, _, link⟩ := figures
    obtain ⟨_, _, framed⟩ := u.sendComponent_frame .costClass fun c => { c with costClass := (s.linkConfig.get w.candidate).costClass }
    have newest := State.sendComponent_newest (s := u) .costClass fun c => { c with costClass := (s.linkConfig.get w.candidate).costClass }
    have ok' : (u.sendCostClass (s.linkConfig.get w.candidate).costClass).rating.Ok :=
      State.sendComponent_ok (rating ▸ ok) .costClass (by rw [rating]; exact ok.zoneClass) (link w.candidate).2
    rw [rating] at newest
    rw [State.sendCostClass] at ok' ⊢
    refine ⟨ok', ?_, ?_, fun z held => ?_, fun i carries => ?_⟩
    · rw [framed, told]
      exact hour
    · rw [newest, framed, told]
      exact period
    · rw [newest]
      rw [framed, told] at held ⊢
      exact zone z held
    · rw [newest]
      rw [framed, told] at carries ⊢
      rw [only i carries]
      rfl
  have sheds : ∀ {v : State}, v.Rated → v.considerSwap.Rated := fun {v} rated => by
    obtain ⟨_, _, _, framed⟩ := v.considerSwap_frame
    exact rated.of_sheds (.considerSwap v) (by rw [framed]) (by rw [framed]) (by rw [framed]) (by rw [framed])
  rw [State.completeSwap_eq differ, ← told]
  dsimp only
  have considered := sheds sent
  split
  · exact sheds (considered.of_sheds (.of_same rfl rfl rfl) rfl rfl rfl rfl)
  · exact considered

theorem State.LinkMove.rated (move : s.LinkMove t) (rated : s.Rated) (law : s.LinkLaw) (figures : s.Figures) : t.Rated := by
  have shed : s.Sheds t → t.Rated := fun sheds =>
    rated.of_sheds sheds (by rw [move.frame]) (by rw [move.frame]) (by rw [move.frame]) (by rw [move.frame])
  have frame := move.frame
  cases move with
  | reported i present quality loss latency => exact shed (.takeReport s i present quality loss latency)
  | unloaded i idle =>
    have still : (s.link i).state ≠ .carrying := fun carries => by simp [Link.engaged, carries] at idle
    have link : ∀ j, ((s.unloadLink i).link j).state = .carrying → j ≠ i ∧ (s.link j).state = .carrying := fun j carries => by
      unfold State.unloadLink at carries
      dsimp only at carries
      rw [State.setLink_link] at carries
      split at carries
      · dsimp only at carries
        split at carries
        all_goals first
          | cases carries
          | exact absurd carries still
      · next other => exact ⟨other, carries⟩
    refine rated.congr rfl rfl rfl rfl rfl fun j carries => ?_
    obtain ⟨other, carried⟩ := link j carries
    refine ⟨carried, ?_⟩
    change ((s.linkConfig.set i LinkConfig.unloaded).get j).costClass = _
    rw [Slots.get_set, if_neg other]
  | configured i c loaded low high cost keeps =>
    rw [State.loadLink] at frame ⊢
    split
    · exact rated
    · have judged := State.Sheds.judgeLinks { s with linkConfig := s.linkConfig.set i c } (List.nodup_singleton i)
      obtain ⟨_, _, _, framed⟩ := ({ s with linkConfig := s.linkConfig.set i c } : State).judgeLinks_frame [i]
      refine rated.congr judged.rating (by rw [framed]) (by rw [framed]) (by rw [framed]) (by rw [framed]) fun j carries => ?_
      have carried : (s.link j).state = .carrying := judged.carrying j carries
      refine ⟨carried, ?_⟩
      rw [judged.config]
      dsimp only
      rw [Slots.get_set]
      split
      · next here =>
        subst here
        exact (keeps carried).symm
      · rfl
  | confirmed w flies => exact rated.completeSwap law figures flies
  | stale i => exact shed (.staleLink s i)
  | qualified i => exact shed (.qualifyLink s i)
  | faulted i => exact shed (.faultTimerLink s i)
  | rested i => exact shed (.endHoldoff s i)
  | late => exact shed (.abandonLate s)
  | dwelt =>
    exact shed (State.Sheds.trans (u := { s with selector := { s.selector with dwellTimer := none } }) (.of_same rfl rfl rfl) (.considerSwap _))

/-! ### The zones -/

/-- The tariff class of the current zone sent to the rating engine (R49, R57). -/
theorem State.sendZoneClass_rated {u : State} {k : Nat} (ok : u.rating.Ok) (hour : u.period = u.clock.periodNow)
    (period : u.rating.newest.period = u.period) (class_ : k ≤ 7) (zone : ∀ z ∈ u.coverage.zone, k = (u.zoneRecord z).tariffClass)
    (cost : ∀ i, (u.link i).state = .carrying → u.rating.newest.costClass = (u.linkConfig.get i).costClass) : (u.sendZoneClass k).Rated := by
  have newest := State.sendComponent_newest (s := u) .zoneClass fun c => { c with zoneClass := k }
  obtain ⟨_, _, framed⟩ := u.sendComponent_frame .zoneClass fun c => { c with zoneClass := k }
  have ok' := State.sendComponent_ok ok .zoneClass (f := fun c => { c with zoneClass := k }) class_ ok.costClass
  rw [State.sendZoneClass]
  refine ⟨ok', ?_, ?_, fun z held => ?_, fun i carries => ?_⟩
  · rw [framed]
    exact hour
  · rw [newest, framed]
    exact period
  · rw [newest]
    rw [framed] at held ⊢
    exact zone z held
  · rw [newest]
    rw [framed] at carries ⊢
    exact cost i carries

theorem allSlots_nodup : allSlots.Nodup := by decide

theorem State.Rated.loadZone (rated : s.Rated) (z : Nat) {r : ZoneRecord} (class_ : r.tariffClass ≤ 7) : (s.loadZone z r).Rated := by
  obtain ⟨ok, hour, period, zone, cost⟩ := rated
  by_cases current : s.coverage.zone = some z
  · rw [State.loadZone_current current]
    obtain ⟨v, loaded⟩ : ∃ v : State, v = { s with zones := s.zones.set ZoneRecord.unloaded z r } := ⟨_, rfl⟩
    have zones := congrArg Prod.fst (State.judgeCoverage_zones v s.radiationAllowed r.grace)
    obtain ⟨_, _, _, _, _, _, _, framed⟩ := v.judgeCoverage_frame s.radiationAllowed r.grace
    rw [← loaded]
    refine State.sendZoneClass_rated ?_ ?_ ?_ class_ (fun w held => ?_) ?_
    · rw [framed, loaded]
      exact ok
    · rw [framed, loaded]
      exact hour
    · rw [framed, loaded]
      exact period
    · have here : v.coverage.zone = some w := zones.symm.trans held
      rw [loaded] at here
      obtain rfl : z = w := Option.some.inj (current.symm.trans here)
      rw [framed, loaded]
      exact (congrArg ZoneRecord.tariffClass (Table.get_set_same s.zones ZoneRecord.unloaded z r)).symm
    · rw [framed, loaded]
      exact cost
  · rw [State.loadZone, if_neg current]
    refine ⟨ok, hour, period, fun w held => ?_, cost⟩
    change _ = ((s.zones.set ZoneRecord.unloaded z r).get ZoneRecord.unloaded w).tariffClass
    rw [Table.get_set, if_neg]
    · exact zone w held
    · rintro rfl
      exact current held

theorem State.Rated.qualifyZone (rated : s.Rated) {z : Nat} (class_ : (s.zoneRecord z).tariffClass ≤ 7) : (s.qualifyZone z).Rated := by
  obtain ⟨ok, hour, period, -, cost⟩ := rated
  obtain ⟨_, _, told⟩ := s.zoneTold_frame z
  obtain ⟨_, _, _, _, _, _, _, covered⟩ := (s.zoneTold z).judgeCoverage_frame s.radiationAllowed (s.zoneGrace (some z))
  have zones := State.judgeCoverage_zones (s.zoneTold z) s.radiationAllowed (s.zoneGrace (some z))
  obtain ⟨_, _, _, linked⟩ := (s.zoneCovered z).judgeLinks_frame allSlots
  have shed : s.Sheds ((s.zoneCovered z).judgeLinks allSlots) :=
    State.Sheds.trans (.of_same (by rw [State.zoneCovered, covered, told]; rfl) (by rw [State.zoneCovered, covered, told]; rfl)
      (by rw [State.zoneCovered, covered, told]; rfl)) (.judgeLinks _ allSlots_nodup)
  rw [State.qualifyZone_eq]
  refine State.sendZoneClass_rated ?_ ?_ ?_ class_ (fun w held => ?_) fun i carries => ?_
  · rw [shed.rating]
    exact ok
  · rw [linked, State.zoneCovered, covered, told]
    exact hour
  · rw [shed.rating, linked, State.zoneCovered, covered, told]
    exact period
  · have here : ((s.zoneCovered z).judgeLinks allSlots).coverage.zone = some z := by
      rw [linked]
      refine (congrArg Prod.fst zones).trans ?_
      rw [told]
      rfl
    obtain rfl : z = w := Option.some.inj (here.symm.trans held)
    rw [linked, State.zoneCovered, covered, told]
    rfl
  · rw [shed.rating, shed.config]
    exact cost i (shed.carrying i carries)

theorem State.Rated.unzoned (rated : s.Rated) (shed : s.Sheds t) (period : t.period = s.period) (clock : t.clock = s.clock)
    (zone : t.coverage.zone = none) : t.Rated := by
  obtain ⟨ok, hour, now, -, cost⟩ := rated
  refine ⟨shed.rating ▸ ok, by rw [period, clock, hour], by rw [shed.rating, period, now], fun z held => ?_, fun i carries => ?_⟩
  · rw [zone] at held
    cases held
  · rw [shed.rating, shed.config]
    exact cost i (shed.carrying i carries)

theorem State.Rated.loseFix (rated : s.Rated) : s.loseFix.Rated := by
  obtain ⟨_, _, _, _, _, _, _, _, _, framed⟩ := s.loseFix_frame
  refine rated.unzoned ?_ (by rw [framed]) (by rw [framed]) (congrArg Prod.fst s.loseFix_zones)
  obtain ⟨_, _, _, _, _, _, _, covered⟩ := s.unfixed.judgeCoverage_frame s.radiationAllowed (s.zoneGrace s.coverage.lastZone)
  rw [State.loseFix_eq]
  split
  · refine State.Sheds.trans ?_ (.judgeLinks _ allSlots_nodup)
    rw [State.fixCovered, covered]
    exact .of_same rfl rfl rfl
  · exact .of_same rfl rfl rfl

theorem State.CoverageMove.rated (move : s.CoverageMove t) (rated : s.Rated) (figures : s.Figures) : t.Rated := by
  have kept : t.links = s.links → t.zones = s.zones → t.rating = s.rating → t.coverage.zone = s.coverage.zone → t.Rated :=
    fun links zones rating zone => rated.of_sheds (.of_same rating (by rw [move.frame]) links) (by rw [move.frame]) (by rw [move.frame]) zone zones
  cases move with
  | zoneLoaded z inside r ok =>
    refine rated.loadZone z ?_
    obtain rfl | ⟨-, -, class_⟩ := ok
    · exact Nat.zero_le _
    · exact class_
  | aimed => exact kept rfl rfl rfl rfl
  | qualified f timed z inside =>
    have fixed : ({ s with coverage := { s.coverage with fixTimer := f } } : State).Rated := rated.of_sheds (.of_same rfl rfl rfl) rfl rfl rfl rfl
    obtain ⟨canonical, -, -, -, -, zone, -⟩ := figures
    refine fixed.qualifyZone ?_
    rw [Table.forall_entries canonical] at zone
    by_cases cold : s.zones.get ZoneRecord.unloaded z = ZoneRecord.unloaded
    · change (s.zones.get ZoneRecord.unloaded z).tariffClass ≤ 7
      rw [cold]
      exact Nat.zero_le _
    · exact (zone z cold).2.2
  | fixLost => exact rated.loseFix
  | restored =>
    obtain ⟨_, _, framed⟩ := s.enterRamping_frame
    refine kept (by rw [framed]) (by rw [framed]) (by rw [framed]) ?_
    unfold State.enterRamping
    dsimp only
    split <;> rfl
  | ramped => exact kept rfl rfl rfl rfl
  | withdrawn =>
    obtain ⟨_, _, _, _, _, _, _, framed⟩ := s.endWithdrawal_frame
    exact kept (by rw [framed]) (by rw [framed]) (by rw [framed]) (congrArg Prod.fst s.endWithdrawal_zones)

end Moves

end Sys2Proof.Machine

/-! PROOF. The calendar, the period and the newest rating context after a step: O58. -/

namespace Sys2Proof.Machine

section Step

variable {s t : State}

/-! ### While the main domain runs -/

theorem State.Sheds.endTrain (s : State) : s.Sheds s.endTrain := by
  have ended : s.Sheds s.trainEnded := .of_same rfl rfl rfl
  obtain same | ⟨d, same⟩ | ⟨order, -, same⟩ := s.trainEnded_cases
  · exact same ▸ ended
  · rw [same]
    exact ended.trans (.of_same rfl rfl rfl)
  · rw [same, State.takeOrder_eq]
    have read : s.trainEnded.Sheds ((s.trainEnded.ordered order).coverageReads s.trainEnded.radiationAllowed s.trainEnded.bridge.standing) := by
      obtain ⟨_, _, _, _, _, _, _, framed⟩ :=
        (s.trainEnded.ordered order).coverageReads_frame s.trainEnded.radiationAllowed s.trainEnded.bridge.standing
      exact .of_same (by rw [framed]; rfl) (by rw [framed]; rfl) (by rw [framed]; rfl)
    have linked : ∀ (u : State) old, u.Sheds (u.linksRead old) := fun u old => by
      unfold State.linksRead
      split
      · exact .refl u
      · exact .judgeLinks u allSlots_nodup
    have selected : ∀ (u : State) old, u.Sheds (u.selectorReads old) := fun u old => by
      unfold State.selectorReads
      split
      · exact .considerSwap u
      · exact .refl u
    exact ((ended.trans read).trans (linked _ _)).trans (selected _ _)

theorem State.Move.rated (move : s.Move t) (runs : s.mainRuns = true) (law : s.LinkLaw) (figures : s.Figures) (rated : s.Rated) : t.Rated := by
  cases move with
  | port move => rw [move.frame]; exact rated.of_sheds (.of_same rfl rfl rfl) rfl rfl rfl rfl
  | session move =>
    have zone := congrArg Prod.fst move.zones
    refine rated.of_sheds (.of_same ?_ ?_ ?_) ?_ ?_ zone ?_
    all_goals rw [move.frame]
  | coverage move => exact move.rated rated figures
  | line move => rw [move.frame]; exact rated.of_sheds (.of_same rfl rfl rfl) rfl rfl rfl rfl
  | train _ move =>
    obtain ⟨_, framed⟩ := s.endTrain_frame
    have zone : s.endTrain.coverage.zone = s.coverage.zone := by
      obtain same | ⟨d, same⟩ | ⟨order, -, same⟩ := s.trainEnded_cases
      · rw [same]
        rfl
      · rw [same]
        rfl
      · rw [same]
        exact congrArg Prod.fst (State.takeOrder_zones _ _)
    rw [move]
    exact rated.of_sheds (.endTrain s) (by rw [framed]) (by rw [framed]) zone (by rw [framed])
  | link move => exact move.rated rated law figures
  | figure move => rw [move.frame]; exact rated.of_sheds (.of_same rfl rfl rfl) rfl rfl rfl rfl
  | clock move => exact move.rated runs rated

theorem State.Move.clockOk (move : s.Move t) (ok : s.clock.Ok) : t.clock.Ok := by
  have same : t.clock = s.clock → t.clock.Ok := fun same => same ▸ ok
  cases move with
  | clock move => exact move.clockOk ok
  | train _ move =>
    obtain ⟨_, framed⟩ := s.endTrain_frame
    exact same (by rw [move, framed])
  | port move => exact same (by rw [move.frame])
  | session move => exact same (by rw [move.frame])
  | coverage move => exact same (by rw [move.frame])
  | line move => exact same (by rw [move.frame])
  | link move => exact same (by rw [move.frame])
  | figure move => exact same (by rw [move.frame])

/-! ### Starts, flushes and resets (10) -/

/-- The two laws. -/
structure State.Timekept (s : State) : Prop where
  clock : s.ClockLaw
  rating : s.RatingLaw

theorem State.Lawful.timekept (law : s.Lawful) : s.Timekept := by
  obtain ⟨-, -, -, -, -, -, -, -, -, -, -, -, -, -, clock, rating, -⟩ := law
  exact ⟨clock, rating⟩

theorem State.Lawful.links (law : s.Lawful) : s.LinkLaw := by
  obtain ⟨-, -, -, -, -, -, -, -, -, -, -, -, -, links, -⟩ := law
  exact links

theorem State.Lawful.rated (law : s.Lawful) (runs : s.mainRuns = true) : s.Rated := by
  obtain ⟨-, -, carrier, -⟩ := law.links
  obtain ⟨-, pending, cause, zoneClass, costClass, period, zone, cost⟩ := law.timekept
  exact ⟨⟨pending, cause, zoneClass, costClass⟩, (period runs).1, (period runs).2, zone, fun i carries => cost i ((carrier i).mp carries)⟩

theorem State.Rated.law (rated : s.Rated) : s.RatingLaw := by
  obtain ⟨⟨pending, cause, zoneClass, costClass⟩, hour, period, zone, cost⟩ := rated
  exact ⟨pending, cause, zoneClass, costClass, fun _ => ⟨hour, period⟩, zone, fun i carries => cost i (State.slotIn_some carries)⟩

/-- Where the main domain does not run, or the clock keeps its hour, a rating engine that stands as it did keeps its law. -/
theorem State.RatingLaw.congr (law : s.RatingLaw) (rating : t.rating = s.rating) (zone : t.coverage.zone = s.coverage.zone)
    (zones : t.zones = s.zones) (links : t.links = s.links) (config : t.linkConfig = s.linkConfig)
    (period : t.mainRuns = true → s.mainRuns = true ∧ t.period = s.period ∧ t.clock = s.clock) : t.RatingLaw := by
  obtain ⟨pending, cause, zoneClass, costClass, now, zoned, cost⟩ := law
  have carrier : t.carrier = s.carrier := State.carrier_congr fun i => by simp only [State.link, links]
  rw [State.RatingLaw, rating, zone, carrier, config]
  refine ⟨pending, cause, zoneClass, costClass, fun runs => ?_, fun z held => ?_, cost⟩
  · obtain ⟨ran, same, clock⟩ := period runs
    rw [same, clock]
    exact now ran
  · rw [State.zoneRecord, zones]
    exact zoned z held

/-- The rating engine's start values, with no zone known and no link carrying (R156). -/
theorem State.RatingLaw.start {p : Period} (rating : t.rating = Rating.start p) (zone : t.coverage.zone = none)
    (down : ∀ i, (t.link i).state = .down) (period : t.mainRuns = true → t.period = p ∧ t.clock.periodNow = p) : t.RatingLaw := by
  have carrier : t.carrier = none := State.slotIn_eq_none_iff.mpr fun i => by simp [down i]
  rw [State.RatingLaw, rating, zone, carrier]
  refine ⟨rfl, rfl, Nat.zero_le _, Nat.zero_le _, fun runs => ?_, nofun, nofun⟩
  obtain ⟨same, hour⟩ := period runs
  exact ⟨same.trans hour.symm, same.symm⟩

theorem State.startValues_ratingLaw (s : State) : s.startValues.RatingLaw :=
  .start (p := s.clock.periodNow) rfl rfl (fun i => by rw [State.startValues_link]; rfl) fun _ => ⟨rfl, rfl⟩

theorem Clock.cold_ok : Clock.cold.Ok := ⟨by decide, by decide, by decide, by decide, by decide, by decide, by decide, by decide⟩

theorem State.beginStart_timekept (ok : s.clock.Ok) (kind : StartKind) : (s.beginStart kind).Timekept := by
  cases kind with
  | cold => exact ⟨State.clockLaw_iff.mpr Clock.cold_ok, State.startValues_ratingLaw _⟩
  | warm => exact ⟨State.clockLaw_iff.mpr ok, State.startValues_ratingLaw _⟩

theorem State.flush_timekept (ok : s.clock.Ok) (law : s.RatingLaw) (runs : s.mainRuns = true) : s.flush.Timekept := by
  obtain ⟨_, _, _, _, _, _, _, ended⟩ := s.flushing.endOfService_frame
  obtain ⟨_, _, _, emptied⟩ := s.flushing.endOfService.emptyTable_frame
  obtain ⟨_, _, added⟩ := s.flushing.endOfService.emptyTable.contribute_frame (s.flushing.endOfService.sessions.count Session.notFree)
    s.flushing.endOfService.openCharges
  have zone : s.flush.coverage.zone = s.coverage.zone := by
    rw [State.flush_eq, added, emptied]
    exact congrArg Prod.fst s.flushing.endOfService_zones
  have clock : s.flush.clock = s.clock := by
    rw [State.flush_eq, added, emptied, ended]
    rfl
  refine ⟨State.clockLaw_iff.mpr (clock ▸ ok), law.congr ?_ zone ?_ ?_ ?_ fun _ => ⟨runs, ?_, clock⟩⟩
  all_goals
    rw [State.flush_eq, added, emptied, ended]
    rfl

theorem State.PowerMove.timekept (move : s.PowerMove t) (law : s.Lawful) : t.Timekept := by
  obtain ⟨clock, rating⟩ := law.timekept
  have ok := State.clockLaw_iff.mp clock
  have kept : ∀ {u : State}, u.clock = s.clock → u.rating = s.rating → u.coverage.zone = s.coverage.zone → u.zones = s.zones →
      u.links = s.links → u.linkConfig = s.linkConfig → u.period = s.period → (u.mainRuns = true → s.mainRuns = true) → u.Timekept :=
    fun clock rated zone zones links config period runs => ⟨State.clockLaw_iff.mpr (clock ▸ ok),
      rating.congr rated zone zones links config fun now => ⟨runs now, period, clock⟩⟩
  have power := law.1
  cases move with
  | second stops n =>
    obtain ⟨c, i, same⟩ := State.elapse_takeSecond_stopped stops n
    rw [same]
    refine ⟨State.clockLaw_iff.mpr (ok.withSub c).advance, rating.congr rfl rfl rfl rfl rfl fun runs => ?_⟩
    have ran : s.mainRuns = true := runs
    rw [stops] at ran
    cases ran
  | bridgeLine => exact kept rfl rfl rfl rfl rfl rfl rfl id
  | started => exact State.beginStart_timekept ok _
  | held => exact kept rfl rfl rfl rfl rfl rfl rfl nofun
  | lost => exact ⟨State.clockLaw_iff.mpr ok, State.startValues_ratingLaw _⟩
  | resetLow => exact kept rfl rfl rfl rfl rfl rfl rfl id
  | reset => exact kept rfl rfl rfl rfl rfl rfl rfl nofun
  | resetHigh => exact kept rfl rfl rfl rfl rfl rfl rfl id
  | released => exact State.beginStart_timekept (s := { s with pins := { s.pins with resetHigh := true } }) ok _
  | warned => exact kept rfl rfl rfl rfl rfl rfl rfl id
  | flushed running =>
    have runs := State.mainRuns_of_running running
    exact State.flush_timekept (s := { s with pins := { s.pins with warning := true } }) ok
      (rating.congr rfl rfl rfl rfl rfl fun _ => ⟨runs, rfl, rfl⟩) runs
  | calmed => exact kept rfl rfl rfl rfl rfl rfl rfl id
  | resumed => exact State.beginStart_timekept (s := { s with pins := { s.pins with warning := false } }) ok _
  | forgotten off =>
    obtain ⟨-, -, -, -, -, -, -, start, -⟩ := power
    obtain ⟨-, -, coverage, -, -, down⟩ := start (.inl off)
    obtain ⟨pending, cause, zoneClass, costClass, -⟩ := rating
    have carrier : s.coldBackup.carrier = none := State.slotIn_eq_none_iff.mpr fun i => by
      change (s.link i).state ≠ _
      simp [down i]
    have zone : s.coldBackup.coverage.zone = none := by
      change s.coverage.zone = none
      rw [coverage]
      rfl
    refine ⟨State.clockLaw_iff.mpr Clock.cold_ok, pending, cause, zoneClass, costClass, fun runs => ?_, fun z held => ?_, fun i carries => ?_⟩
    · simp [State.coldBackup, State.mainRuns, off] at runs
    · rw [zone] at held
      cases held
    · rw [carrier] at carries
      cases carries
  | initialized initializing =>
    obtain ⟨-, -, -, -, -, -, -, start, -⟩ := power
    obtain ⟨-, -, coverage, -, -, down⟩ := start (.inr initializing)
    have started : ∀ {u : State}, u.rating = Rating.start s.clock.periodNow → u.coverage = s.coverage → u.links = s.links →
        u.period = s.clock.periodNow → u.clock = s.clock → u.RatingLaw := fun rated covered links period same => by
      refine .start rated ?_ (fun i => ?_) fun _ => ⟨period, by rw [same]⟩
      · rw [covered, coverage]
        rfl
      · rw [State.link, links]
        exact down i
    rw [State.endInitialization]
    dsimp only
    rw [State.latchStart_eq]
    dsimp only
    split
    · exact State.flush_timekept ok (started rfl rfl rfl rfl rfl) rfl
    · exact ⟨State.clockLaw_iff.mpr ok, started rfl rfl rfl rfl rfl⟩

/-- Settles O58. -/
theorem stepKeepsClockAndContext : Obligations.StepKeepsClockAndContext := by
  intro s t law runs
  obtain ⟨clock, rating⟩ := step_keeps (P := State.Timekept) (fun s law => law.timekept)
    (fun s p b f kept => ⟨kept.clock, kept.rating.congr rfl rfl rfl rfl rfl fun runs => ⟨runs, rfl, rfl⟩⟩)
    (fun s t law runs move => ⟨State.clockLaw_iff.mpr (move.clockOk (State.clockLaw_iff.mp law.timekept.clock)),
      (move.rated runs law.links law.books.2 (law.rated runs)).law⟩)
    (fun s t law move => move.timekept law) s t law runs
  exact ⟨clock, rating⟩

end Step

end Sys2Proof.Machine
